-- ==== Sys2Proof/Word.lean ====
section
/-! DEFINITION. The byte the links, the seat line and the archive pages are made of. -/

namespace Sys2Proof

/-- One byte, as it stands on a link, on the seat line or in an archive page. -/
abbrev Byte := BitVec 8

end Sys2Proof
end

