-- ==== Sys2Proof/Config.lean ====
section
/-! DEFINITION. The sizes the manual fixes, and the free values it leaves open. -/

namespace Sys2Proof.Config

/-- Candidate records a session can hold (R20). -/
def maxCandidates : Nat := 640
/-- Reports the seat inbox holds (R47). -/
def inboxSize : Nat := 16
/-- Frames the group frame queue holds (R53). -/
def groupQueueSize : Nat := 8
/-- Custody entries the list holds (R99). -/
def custodySize : Nat := 2048
/-- Notices a port's notice queue holds (R171). -/
def noticeQueueSize : Nat := 32
/-- Records the archive queue holds (R147). -/
def archiveQueueSize : Nat := 32
/-- RESULT records the archive queue holds at most (R147). -/
def resultLimit : Nat := 24
/-- Where S_el stops (R14, R67). -/
def maxElapsed : Nat := 57600
/-- Blocks of a plane (R145). -/
def blocksPerPlane : Nat := 128
/-- Pages of a block, the tail included (R145). -/
def pagesPerBlock : Nat := 32
/-- The tail page of a block (R145). -/
def tailPage : Nat := 31
/-- The last record page of a block (R145). -/
def lastRecordPage : Nat := 30
/-- Bytes of one archive page: the 8-byte header and a body of at most 120 bytes (R145).
DEDUCED: the longest page there can be (log 7). -/
def pageSize : Nat := 128

/-- What a page holds whose program failed or was cut off, byte by byte (R151, R152, R162): the
disturbance's number, the page and the offset.  The manual says only that such a page is torn.
FREE VALUE (log 10): nothing in Lean can evaluate it. -/
opaque tornByte : Nat → Nat → Nat → BitVec 8

/-- What an erase that failed or was cut off did to a page of its block (R156, R159, R162): the
disturbance's number and the page; read modulo 3, 0 leaves the page as it was, 1 leaves it blank and
2 leaves it torn.  FREE VALUE (log 11). -/
opaque eraseResidue : Nat → Nat → Nat

/-- The announcement code a HOLD or RUN frame carries, by its address and the hall time it is queued
at (R75, R76 state none; R180 gives the byte the range 1 to 255).  FREE VALUE (log 32): read as 1 plus
the value modulo 255. -/
opaque holdRunCode : Nat → Nat → Nat

end Sys2Proof.Config
end

