-- ==== Sys2Proof/Syntax.lean ====
section
/-! DEFINITION. The commands and events the controller takes: one constructor of `Instr` per row of
spec/opcode_table.json, and the link commands as the frames carry them (`Cmd`). -/

namespace Sys2Proof

/-- The four desk links (Chapter 10). -/
inductive Desk where
  | d0 | d1 | d2 | d3
deriving DecidableEq, Repr

/-- The six link ports (Chapter 10): four desks, the registry G and the marking station K. -/
inductive Port where
  | desk (d : Desk)
  | g
  | k
deriving DecidableEq, Repr

/-- The two planes of the archive (R145). -/
inductive PlaneId where
  | p0 | p1
deriving DecidableEq, Repr

/-- One response of an answer-sheet page (section 7.4, R179). -/
inductive Response where
  /-- one mark for each option A to H, option A in bit 0 -/
  | option (marks : Byte)
  /-- a column count and the columns carried, left to right, digit 0 in bit 0 -/
  | column (count : Nat) (cols : List (BitVec 16))
  /-- bytes that no response form of R179 begins with, or a form cut short -/
  | malformed
deriving DecidableEq, Repr

/-- A report frame as the controller receives it from the line (R41): the fields after start and
priority, the check byte as received. -/
structure SeatFrame where
  address : Nat
  kind : Nat
  length : Nat
  payload : List Byte
  check : Nat
deriving DecidableEq, Repr

/-- The fields of SITTING_DEFINE (R15). -/
structure SittingFields where
  sitting : Nat
  paper : List Nat
  base : Nat
  reading : Nat
  pauseLimit : Nat
  zoneCount : Nat
  zones : List Nat
  outMax : Nat
  passMark : Nat
  penalty : Nat
  invalidPolicy : Nat
  floorPolicy : Nat
deriving DecidableEq, Repr

/-- The fields of KEY_ITEM (R115). -/
structure KeyItemFields where
  sitting : Nat
  item : Nat
  kind : Nat
  weight : Nat
  optionCount : Nat
  keyed : Nat
  numericKey : Nat
  tolerance : Nat
  columns : Nat
deriving DecidableEq, Repr

/-- The fields of PAGE (section 7.4, R179). -/
structure PageFields where
  script : Nat
  flags : Nat
  numberRead : Nat
  pageNo : Nat
  pageCount : Nat
  responseCount : Nat
  responses : List Response
deriving DecidableEq, Repr

/-- One field of a frame, a reply, a notice or an archive record: how many bytes carry it, and the
number they carry, most significant byte first (R177). -/
structure Field where
  width : Nat
  value : Nat
deriving DecidableEq, Repr

/-- A link command with the fields its rule lists (R178 names the codes).  A field is the number its
bytes spell; a set-or-clear mark is 0 or 1; an enumerated field is the position R177 gives.  The last
two are the frames the gates of R166 turn away: an unknown code, and a code with a field length no
form of the command has. -/
inductive Cmd where
  | sessionOpen (session hallTime : Nat)
  | sessionGo
  | sessionClose
  | sessionDiscard
  | seatDefine (seat row column zone kind : Nat)
  | zoneGrant (desk mask chief : Nat)
  | sittingDefine (f : SittingFields)
  | cueDefine (sitting kind base value code : Nat)
  | layoutDefine (sitting pageCount : Nat) (counts : List Nat)
  | candidateAdd (number sitting access allowance rest : Nat)
  | candidateAmend (number allowance rest access : Nat)
  | allocate (sitting : Nat)
  | allocAbort
  | keyItem (f : KeyItemFields)
  | keySeal (sitting : Nat)
  | keyUnseal (sitting : Nat)
  | remark (script : Nat)
  | finalise (sitting : Nat)
  | archiveExported (seq : Nat)
  | archiveErase (plane block : Nat)
  | openDoors (sitting : Nat)
  | start (sitting : Nat)
  | pause (scope : Nat)
  | resume (scope : Nat)
  | admitDesk (number override seat waiver : Nat)
  | move (number seat waiver : Nat)
  | seatService (seat direction : Nat)
  | restStart (number : Nat)
  | restEnd (number : Nat)
  | finish (number : Nat)
  | withdraw (number : Nat)
  | issueTag (number script : Nat)
  | returnTags (count : Nat) (scripts : List Nat)
  | voidTag (script : Nat)
  | claimTag (script number : Nat)
  | announce (form value code : Nat)
  | batchOpen (number : Nat)
  | page (f : PageFields)
  | sheetQuery (script : Nat)
  | sheetDiscard (script : Nat)
  | batchClose
  | archiveRead (seq : Nat)
  | readCandidate (selector value : Nat)
  | readSeat (seat : Nat)
  | readSitting (sitting : Nat)
  | portStatus
  | archiveStatus
  | unknown (code : Byte)
  | badLength (code : Byte)
deriving DecidableEq, Repr

/-- What happens to the controller: one constructor per row of spec/opcode_table.json.  A link
command carries the port its frame is complete on and the frame's TAG (R165, R178). -/
inductive Instr where
  | powerReset
  | hallSecond
  | readingEnd (sitting : Nat)
  | elapsedCueFire (sitting : Nat)
  | defaultAdmissionClose (sitting : Nat)
  | remainingCueFire (cand : Nat)
  | expiry (cand : Nat)
  | restBudgetEnd (cand : Nat)
  | pauseLimit (sitting : Nat)
  | seatPollDue (seat : Nat)
  | sessionOpen (p : Port) (tag : Byte) (session hallTime : Nat)
  | sessionGo (p : Port) (tag : Byte)
  | sessionClose (p : Port) (tag : Byte)
  | closingDrainOffer
  | closingEnd
  | sessionDiscard (p : Port) (tag : Byte)
  | seatDefine (p : Port) (tag : Byte) (seat row column zone kind : Nat)
  | zoneGrant (p : Port) (tag : Byte) (desk mask chief : Nat)
  | sittingDefine (p : Port) (tag : Byte) (f : SittingFields)
  | cueDefine (p : Port) (tag : Byte) (sitting kind base value code : Nat)
  | layoutDefine (p : Port) (tag : Byte) (sitting pageCount : Nat) (counts : List Nat)
  | candidateAdd (p : Port) (tag : Byte) (number sitting access allowance rest : Nat)
  | candidateAmend (p : Port) (tag : Byte) (number allowance rest access : Nat)
  | allocate (p : Port) (tag : Byte) (sitting : Nat)
  | allocationTurn
  | allocAbort (p : Port) (tag : Byte)
  | keyItem (p : Port) (tag : Byte) (f : KeyItemFields)
  | keySeal (p : Port) (tag : Byte) (sitting : Nat)
  | keyUnseal (p : Port) (tag : Byte) (sitting : Nat)
  | remark (p : Port) (tag : Byte) (script : Nat)
  | finalise (p : Port) (tag : Byte) (sitting : Nat)
  | archiveExported (p : Port) (tag : Byte) (seq : Nat)
  | archiveErase (p : Port) (tag : Byte) (plane block : Nat)
  | openDoors (p : Port) (tag : Byte) (sitting : Nat)
  | start (p : Port) (tag : Byte) (sitting : Nat)
  | pause (p : Port) (tag : Byte) (scope : Nat)
  | resume (p : Port) (tag : Byte) (scope : Nat)
  | admitDesk (p : Port) (tag : Byte) (number override seat waiver : Nat)
  | move (p : Port) (tag : Byte) (number seat waiver : Nat)
  | seatService (p : Port) (tag : Byte) (seat direction : Nat)
  | restStart (p : Port) (tag : Byte) (number : Nat)
  | restEnd (p : Port) (tag : Byte) (number : Nat)
  | finish (p : Port) (tag : Byte) (number : Nat)
  | withdraw (p : Port) (tag : Byte) (number : Nat)
  | issueTag (p : Port) (tag : Byte) (number script : Nat)
  | returnTags (p : Port) (tag : Byte) (count : Nat) (scripts : List Nat)
  | voidTag (p : Port) (tag : Byte) (script : Nat)
  | claimTag (p : Port) (tag : Byte) (script number : Nat)
  | announce (p : Port) (tag : Byte) (form value code : Nat)
  | batchOpen (p : Port) (tag : Byte) (number : Nat)
  | page (p : Port) (tag : Byte) (f : PageFields)
  | sheetQuery (p : Port) (tag : Byte) (script : Nat)
  | sheetDiscard (p : Port) (tag : Byte) (script : Nat)
  | batchClose (p : Port) (tag : Byte)
  | archiveRead (p : Port) (tag : Byte) (seq : Nat)
  | readCandidate (p : Port) (tag : Byte) (selector value : Nat)
  | readSeat (p : Port) (tag : Byte) (seat : Nat)
  | readSitting (p : Port) (tag : Byte) (sitting : Nat)
  | portStatus (p : Port) (tag : Byte)
  | archiveStatus (p : Port) (tag : Byte)
  | unknownCommand (p : Port) (tag : Byte) (code : Byte)
  | linkByteReceived (p : Port) (byte : Byte) (parity framing overrun : Bool)
  | frameGapTimeout (p : Port)
  | transmitterStart (p : Port)
  | replyComplete (p : Port)
  | linkBreak (p : Port)
  | lineIdle
  | lineArbiterStart
  | controllerFrameAck (ack : Bool)
  | seatReportHeader
  | holdTimeout
  | seatReportEnd
  | hello
  | key
  | card
  | callReport
  | doneReport
  | tagReport
  | scoringStart
  | scoringEnd
  | waitingResultQueue
  | programStart (plane : PlaneId)
  | programPass (plane : PlaneId)
  | programFail (plane : PlaneId)
  | retireMarkEnd (plane : PlaneId) (pass : Bool)
  | eraseStart (plane : PlaneId)
  | eraseEnd (plane : PlaneId) (pass : Bool)
  | scanBlockClassify (plane : PlaneId) (block : Nat)
  | scanEnd
  | seatReportStart (contenders : List SeatFrame)
  | noticeSent (p : Port)
deriving DecidableEq, Repr

end Sys2Proof
end

