-- ==== Sys2Proof/WellFormed.lean ====
section
/-! DEFINITION. Which commands and events can be given at all: a link command whose fields fit the
bytes that carry them and whose TAG is not 0, and a line or clock event whose operands name something
that exists.  The meanings are total and do not need the check. -/

namespace Sys2Proof

/-- A number that `w` bytes can carry. -/
def fits (w v : Nat) : Bool := v < 256 ^ w

/-- A response R179 gives a form: a column response carries as many columns as it counts, and its
masks use bits 0 to 9 alone. -/
def Response.wf : Response → Bool
  | .option _ => true
  | .column c cols => 1 ≤ c && c ≤ 6 && cols.length == c && cols.all (fun m => m.toNat < 1024)
  | .malformed => false

/-- How many bytes a response takes (R179). -/
def Response.size : Response → Nat
  | .option _ => 2
  | .column c _ => 2 + 2 * c
  | .malformed => 2

/-- A SITTING_DEFINE whose fields fit their bytes and that carries 1 to 8 zones (R15, R177). -/
def SittingFields.wf (f : SittingFields) : Bool :=
  fits 1 f.sitting && f.paper.length == 8 && f.paper.all (fits 1) && fits 2 f.base && fits 2 f.reading
    && fits 2 f.pauseLimit && fits 1 f.zoneCount && 1 ≤ f.zones.length && f.zones.length ≤ 8
    && f.zones.all (fits 1) && fits 2 f.outMax && fits 2 f.passMark && fits 1 f.penalty
    && fits 1 f.invalidPolicy && fits 1 f.floorPolicy

/-- A KEY_ITEM whose fields fit their bytes (R115, R177). -/
def KeyItemFields.wf (f : KeyItemFields) : Bool :=
  fits 1 f.sitting && fits 1 f.item && fits 1 f.kind && fits 1 f.weight && fits 1 f.optionCount
    && fits 1 f.keyed && fits 4 f.numericKey && fits 4 f.tolerance && fits 1 f.columns

/-- A PAGE whose fields fit their bytes and whose responses fit one frame (R179). -/
def PageFields.wf (f : PageFields) : Bool :=
  fits 4 f.script && fits 1 f.flags && fits 4 f.numberRead && fits 1 f.pageNo && fits 1 f.pageCount
    && fits 1 f.responseCount && f.responses.all Response.wf && 1 ≤ f.responses.length
    && (f.responses.map Response.size).sum ≤ 226

/-- A link command whose fields fit the bytes that carry them (R177). -/
def Cmd.wf : Cmd → Bool
  | .sessionOpen a b => fits 2 a && fits 4 b
  | .seatDefine a b c d e => fits 2 a && fits 1 b && fits 1 c && fits 1 d && fits 1 e
  | .zoneGrant a b c => fits 1 a && fits 1 b && fits 1 c
  | .sittingDefine f => f.wf
  | .cueDefine a b c d e => fits 1 a && fits 1 b && fits 1 c && fits 2 d && fits 1 e
  | .layoutDefine a b cs => fits 1 a && fits 1 b && 1 ≤ cs.length && cs.length ≤ 4 && cs.all (fits 1)
  | .candidateAdd a b c d e => fits 4 a && fits 1 b && fits 1 c && fits 1 d && fits 2 e
  | .candidateAmend a b c d => fits 4 a && fits 1 b && fits 2 c && fits 1 d
  | .keyItem f => f.wf
  | .allocate a | .keySeal a | .keyUnseal a | .finalise a | .openDoors a | .start a | .pause a
  | .resume a | .readSitting a => fits 1 a
  | .remark a | .archiveExported a | .restStart a | .restEnd a | .finish a | .withdraw a
  | .voidTag a | .sheetQuery a | .sheetDiscard a | .archiveRead a => fits 4 a
  | .archiveErase a b => fits 1 a && fits 1 b
  | .admitDesk a b c d => fits 4 a && fits 1 b && fits 2 c && fits 1 d
  | .move a b c => fits 4 a && fits 2 b && fits 1 c
  | .seatService a b => fits 2 a && fits 1 b
  | .issueTag a b | .claimTag a b => fits 4 a && fits 4 b
  | .returnTags n ts => fits 1 n && 1 ≤ ts.length && ts.length ≤ 16 && ts.all (fits 4)
  | .announce a b c => fits 1 a && fits 2 b && fits 1 c
  | .batchOpen a | .readSeat a => fits 2 a
  | .page f => f.wf
  | .readCandidate a b => fits 1 a && fits 4 b
  | .sessionGo | .sessionClose | .sessionDiscard | .allocAbort | .batchClose | .portStatus
  | .archiveStatus => true
  | .unknown _ | .badLength _ => false

/-- A report frame whose fields fit the bits of R41 and that carries as many payload bytes as its
length field says. -/
def SeatFrame.wf (r : SeatFrame) : Bool :=
  r.address < 1024 && r.kind < 16 && r.length ≤ 12 && r.payload.length == r.length && r.check < 256

/-- A TAG a partner may choose: 1 to 255 (section 10.1). -/
def tagWf (t : Byte) : Bool := t ≠ 0

/-- Which commands and events can be given.  A sitting is 1 to 12, a candidate index 0 to 639, a seat
1 to 511, a block 0 to 127; one or more units start a report. -/
def Instr.wf : Instr → Bool
  | .sessionOpen _ t a b => tagWf t && (Cmd.sessionOpen a b).wf
  | .sessionGo _ t | .sessionClose _ t | .sessionDiscard _ t | .allocAbort _ t | .batchClose _ t
  | .portStatus _ t | .archiveStatus _ t | .unknownCommand _ t _ => tagWf t
  | .seatDefine _ t a b c d e => tagWf t && (Cmd.seatDefine a b c d e).wf
  | .zoneGrant _ t a b c => tagWf t && (Cmd.zoneGrant a b c).wf
  | .sittingDefine _ t f => tagWf t && f.wf
  | .cueDefine _ t a b c d e => tagWf t && (Cmd.cueDefine a b c d e).wf
  | .layoutDefine _ t a b cs => tagWf t && (Cmd.layoutDefine a b cs).wf
  | .candidateAdd _ t a b c d e => tagWf t && (Cmd.candidateAdd a b c d e).wf
  | .candidateAmend _ t a b c d => tagWf t && (Cmd.candidateAmend a b c d).wf
  | .keyItem _ t f => tagWf t && f.wf
  | .allocate _ t a | .keySeal _ t a | .keyUnseal _ t a | .finalise _ t a | .openDoors _ t a
  | .start _ t a | .pause _ t a | .resume _ t a | .readSitting _ t a => tagWf t && fits 1 a
  | .remark _ t a | .archiveExported _ t a | .restStart _ t a | .restEnd _ t a | .finish _ t a
  | .withdraw _ t a | .voidTag _ t a | .sheetQuery _ t a | .sheetDiscard _ t a
  | .archiveRead _ t a => tagWf t && fits 4 a
  | .archiveErase _ t a b => tagWf t && (Cmd.archiveErase a b).wf
  | .admitDesk _ t a b c d => tagWf t && (Cmd.admitDesk a b c d).wf
  | .move _ t a b c => tagWf t && (Cmd.move a b c).wf
  | .seatService _ t a b => tagWf t && (Cmd.seatService a b).wf
  | .issueTag _ t a b | .claimTag _ t a b => tagWf t && fits 4 a && fits 4 b
  | .returnTags _ t n ts => tagWf t && (Cmd.returnTags n ts).wf
  | .announce _ t a b c => tagWf t && (Cmd.announce a b c).wf
  | .batchOpen _ t a | .readSeat _ t a => tagWf t && fits 2 a
  | .page _ t f => tagWf t && f.wf
  | .readCandidate _ t a b => tagWf t && (Cmd.readCandidate a b).wf
  | .readingEnd n | .elapsedCueFire n | .defaultAdmissionClose n | .pauseLimit n => 1 ≤ n && n ≤ 12
  | .remainingCueFire i | .expiry i | .restBudgetEnd i => i < 640
  | .seatPollDue n => 1 ≤ n && n ≤ 511
  | .scanBlockClassify _ b => b < 128
  | .seatReportStart rs => rs ≠ [] && rs.all SeatFrame.wf
  | .powerReset | .hallSecond | .closingDrainOffer | .closingEnd | .allocationTurn
  | .linkByteReceived .. | .frameGapTimeout _ | .transmitterStart _ | .replyComplete _
  | .linkBreak _ | .lineIdle | .lineArbiterStart | .controllerFrameAck _ | .seatReportHeader
  | .holdTimeout | .seatReportEnd | .hello | .key | .card | .callReport | .doneReport | .tagReport
  | .scoringStart | .scoringEnd | .waitingResultQueue | .programStart _ | .programPass _
  | .programFail _ | .retireMarkEnd .. | .eraseStart _ | .eraseEnd .. | .scanEnd | .noticeSent _ => true

end Sys2Proof
end

