-- ==== Sys2Proof/Decode.lean ====
section
/-! DEFINITION. Bytes and what they spell: the number encodings of R177, the checks of R164 and R180,
the field layouts of the link commands (R178, R179) read and written, and `decodeTableWord`.  The
table gives no row any bits, so no word spells a row; a link command is read from its frame's bytes
by `decodeCommand`. -/

namespace Sys2Proof

/-! ## Numbers in bytes (R177) -/

/-- `w` bytes of a number, most significant first (R177). -/
def beBytes : Nat → Nat → List Byte
  | 0, _ => []
  | w + 1, v => BitVec.ofNat 8 (v / 256 ^ w) :: beBytes w v

/-- The unsigned number a run of bytes spells, most significant first (R177). -/
def ofBytes (bs : List Byte) : Nat :=
  bs.foldl (fun n b => n * 256 + b.toNat) 0

/-- The bytes of one field. -/
def Field.bytes (f : Field) : List Byte := beBytes f.width f.value

/-- The bytes of a run of fields, in order. -/
def fieldBytes : List Field → List Byte
  | [] => []
  | f :: fs => f.bytes ++ fieldBytes fs

/-- A signed field of `w` bytes, in two's complement (R177). -/
def signedField (w : Nat) (v : Int) : Field := ⟨w, (v % (256 ^ w : Nat)).toNat⟩

/-- A set-or-clear mark as one byte, 0 or 1 (R177). -/
def markField (b : Bool) : Field := ⟨1, if b then 1 else 0⟩

/-- A flags byte: its flags from bit 0 upward, in order (R177). -/
def flagsValue : List Bool → Nat
  | [] => 0
  | b :: bs => (if b then 1 else 0) + 2 * flagsValue bs

/-- A seat, sitting or candidate number that may be none, none being 0 (R177). -/
def optField (w : Nat) (o : Option Nat) : Field := ⟨w, o.getD 0⟩

/-- A hall time or sequence number that may be none, none being FFFFFFFFh (R177). -/
def optTimeField (o : Option Nat) : Field := ⟨4, o.getD 0xFFFFFFFF⟩

/-! ## Checks -/

/-- The bits of a byte, most significant first. -/
def byteBits (b : Byte) : List Bool :=
  [b.getLsbD 7, b.getLsbD 6, b.getLsbD 5, b.getLsbD 4, b.getLsbD 3, b.getLsbD 2, b.getLsbD 1, b.getLsbD 0]

/-- One bit into the CRC-16 of R164, generator 1021h. -/
def crc16Bit (c : BitVec 16) (b : Bool) : BitVec 16 :=
  (c <<< 1) ^^^ (if xor c.msb b then 0x1021#16 else 0#16)

/-- The CRC-16 of the links and of the archive pages (R164, R181): initial value FFFFh, bits most
significant first, no final inversion. -/
def crc16 (bs : List Byte) : BitVec 16 :=
  bs.foldl (fun c b => (byteBits b).foldl crc16Bit c) 0xFFFF#16

/-- One bit into the CRC-8 of R180, generator x^8 + x^2 + x + 1. -/
def crc8Bit (c : BitVec 8) (b : Bool) : BitVec 8 :=
  (c <<< 1) ^^^ (if xor c.msb b then 0x07#8 else 0#8)

/-- The CRC-8 of the seat line over a run of bits, initial value 00h (R180). -/
def crc8 (bits : List Bool) : Nat := (bits.foldl crc8Bit 0#8).toNat

/-- The low `w` bits of a number, most significant first, as the line sends them; a set bit is
recessive. (DEDUCED, log 45.) -/
def natBits : Nat → Nat → List Bool
  | 0, _ => []
  | w + 1, v => v.testBit w :: natBits w v

/-- The check of a line frame: over the priority bit, the address, the kind, the length and the
payload, the hold slot left out (R41, R180). (DEDUCED, log 45: each field most significant bit first.) -/
def lineCheck (priority : Bool) (address kind length : Nat) (payload : List Byte) : Nat :=
  crc8 (priority :: natBits 10 address ++ natBits 4 kind ++ natBits 4 length
    ++ (payload.map byteBits).flatten)

/-- The check a seat report should carry; its priority bit is recessive (R41). -/
def SeatFrame.goodCheck (r : SeatFrame) : Nat :=
  lineCheck true r.address r.kind r.length r.payload

/-! ## Link commands -/

/-- The command code of a link command (R178). -/
def Cmd.code : Cmd → Byte
  | .sessionOpen .. => 0x01
  | .sessionGo => 0x02
  | .sessionClose => 0x03
  | .sessionDiscard => 0x04
  | .seatDefine .. => 0x05
  | .zoneGrant .. => 0x06
  | .sittingDefine .. => 0x07
  | .cueDefine .. => 0x08
  | .layoutDefine .. => 0x09
  | .candidateAdd .. => 0x0A
  | .candidateAmend .. => 0x0B
  | .allocate .. => 0x0C
  | .allocAbort => 0x0D
  | .keyItem .. => 0x0E
  | .keySeal .. => 0x0F
  | .keyUnseal .. => 0x10
  | .remark .. => 0x11
  | .finalise .. => 0x12
  | .archiveExported .. => 0x13
  | .archiveErase .. => 0x14
  | .openDoors .. => 0x20
  | .start .. => 0x21
  | .pause .. => 0x22
  | .resume .. => 0x23
  | .admitDesk .. => 0x24
  | .move .. => 0x25
  | .seatService .. => 0x26
  | .restStart .. => 0x27
  | .restEnd .. => 0x28
  | .finish .. => 0x29
  | .withdraw .. => 0x2A
  | .issueTag .. => 0x2B
  | .returnTags .. => 0x2C
  | .voidTag .. => 0x2D
  | .claimTag .. => 0x2E
  | .announce .. => 0x2F
  | .batchOpen .. => 0x40
  | .page .. => 0x41
  | .sheetQuery .. => 0x42
  | .sheetDiscard .. => 0x43
  | .batchClose => 0x44
  | .archiveRead .. => 0x60
  | .readCandidate .. => 0x61
  | .readSeat .. => 0x62
  | .readSitting .. => 0x63
  | .portStatus => 0x70
  | .archiveStatus => 0x71
  | .unknown c => c
  | .badLength c => c

/-- A code that stands in a command row of R178. -/
def isCommandCode (c : Byte) : Bool :=
  let n := c.toNat
  (1 ≤ n && n ≤ 0x14) || (0x20 ≤ n && n ≤ 0x2F) || (0x40 ≤ n && n ≤ 0x44)
    || (0x60 ≤ n && n ≤ 0x63) || n == 0x70 || n == 0x71

/-- The bytes of one response of PAGE (R179). -/
def Response.bytes : Response → List Byte
  | .option m => [0x00, m]
  | .column c cols => 0x01 :: BitVec.ofNat 8 c :: (cols.map (fun m => beBytes 2 m.toNat)).flatten
  | .malformed => [0x02, 0x00]

/-- Fields read by their widths, from a run of bytes that they fill exactly. -/
def readFields : List Nat → List Byte → Option (List Nat)
  | [], [] => some []
  | [], _ :: _ => none
  | w :: ws, bs =>
    if bs.length < w then none
    else (readFields ws (bs.drop w)).map (fun vs => ofBytes (bs.take w) :: vs)

/-- Two-byte column masks, while the bytes last. -/
def readColumns : Nat → List Byte → Option (List (BitVec 16) × List Byte)
  | 0, bs => some ([], bs)
  | n + 1, a :: b :: bs =>
    (readColumns n bs).map (fun r => (BitVec.ofNat 16 (ofBytes [a, b]) :: r.1, r.2))
  | _ + 1, _ => none

/-- The responses of PAGE from their bytes (R179); what no form of R179 can be read from is one
malformed response, which the command's RANGE test refuses. -/
def readResponses : Nat → List Byte → List Response
  | _, [] => []
  | 0, _ :: _ => [.malformed]
  | _ + 1, [_] => [.malformed]
  | fuel + 1, form :: x :: bs =>
    if form = 0x00 then .option x :: readResponses fuel bs
    else if form = 0x01 then
      match readColumns x.toNat bs with
      | some (cols, rest) => .column x.toNat cols :: readResponses fuel rest
      | none => [.malformed]
    else [.malformed]

/-- SITTING_DEFINE from its fields: the zones carried are those the length makes room for, 1 to 8
(R15, R166). -/
def readSitting (c : Byte) (bs : List Byte) : Cmd :=
  let k := bs.length - 23
  if bs.length < 24 ∨ 31 < bs.length then .badLength c else
    match readFields (List.replicate 9 1 ++ [2, 2, 2, 1] ++ List.replicate k 1 ++ [2, 2, 1, 1, 1]) bs with
    | none => .badLength c
    | some vs =>
      let tail := vs.drop (13 + k)
      .sittingDefine
        { sitting := vs.getD 0 0, paper := (vs.drop 1).take 8,
          base := vs.getD 9 0, reading := vs.getD 10 0, pauseLimit := vs.getD 11 0,
          zoneCount := vs.getD 12 0, zones := (vs.drop 13).take k,
          outMax := tail.getD 0 0, passMark := tail.getD 1 0, penalty := tail.getD 2 0,
          invalidPolicy := tail.getD 3 0, floorPolicy := tail.getD 4 0 }

/-- PAGE from its fields (R179).  Every response form has an even length of at least 2 bytes, so the
lengths with a form are the even ones from 14 to the 238 bytes a frame can carry. -/
def readPage (c : Byte) (bs : List Byte) : Cmd :=
  if bs.length < 14 ∨ bs.length % 2 = 1 then .badLength c else
    match readFields [4, 1, 4, 1, 1, 1] (bs.take 12) with
    | some [script, flags, num, pg, pc, n] =>
      .page { script := script, flags := flags, numberRead := num, pageNo := pg, pageCount := pc,
              responseCount := n, responses := readResponses (bs.length) (bs.drop 12) }
    | _ => .badLength c

/-- The link command a CODE and its field bytes carry (R166, R178). (DEDUCED, log 21.) -/
def decodeCommand (c : Byte) (bs : List Byte) : Cmd :=
  match c.toNat with
  | 0x01 => match readFields [2, 4] bs with | some [a, b] => .sessionOpen a b | _ => .badLength c
  | 0x02 => if bs = [] then .sessionGo else .badLength c
  | 0x03 => if bs = [] then .sessionClose else .badLength c
  | 0x04 => if bs = [] then .sessionDiscard else .badLength c
  | 0x05 => match readFields [2, 1, 1, 1, 1] bs with
    | some [a, b, d, e, f] => .seatDefine a b d e f | _ => .badLength c
  | 0x06 => match readFields [1, 1, 1] bs with | some [a, b, d] => .zoneGrant a b d | _ => .badLength c
  | 0x07 => readSitting c bs
  | 0x08 => match readFields [1, 1, 1, 2, 1] bs with
    | some [a, b, d, e, f] => .cueDefine a b d e f | _ => .badLength c
  | 0x09 =>
    if bs.length < 3 ∨ 6 < bs.length then .badLength c else
      match readFields (List.replicate bs.length 1) bs with
      | some (a :: b :: counts) => .layoutDefine a b counts
      | _ => .badLength c
  | 0x0A => match readFields [4, 1, 1, 1, 2] bs with
    | some [a, b, d, e, f] => .candidateAdd a b d e f | _ => .badLength c
  | 0x0B => match readFields [4, 1, 2, 1] bs with
    | some [a, b, d, e] => .candidateAmend a b d e | _ => .badLength c
  | 0x0C => match readFields [1] bs with | some [a] => .allocate a | _ => .badLength c
  | 0x0D => if bs = [] then .allocAbort else .badLength c
  | 0x0E => match readFields [1, 1, 1, 1, 1, 1, 4, 4, 1] bs with
    | some [a, b, d, e, f, g, h, i, j] => .keyItem ⟨a, b, d, e, f, g, h, i, j⟩ | _ => .badLength c
  | 0x0F => match readFields [1] bs with | some [a] => .keySeal a | _ => .badLength c
  | 0x10 => match readFields [1] bs with | some [a] => .keyUnseal a | _ => .badLength c
  | 0x11 => match readFields [4] bs with | some [a] => .remark a | _ => .badLength c
  | 0x12 => match readFields [1] bs with | some [a] => .finalise a | _ => .badLength c
  | 0x13 => match readFields [4] bs with | some [a] => .archiveExported a | _ => .badLength c
  | 0x14 => match readFields [1, 1] bs with | some [a, b] => .archiveErase a b | _ => .badLength c
  | 0x20 => match readFields [1] bs with | some [a] => .openDoors a | _ => .badLength c
  | 0x21 => match readFields [1] bs with | some [a] => .start a | _ => .badLength c
  | 0x22 => match readFields [1] bs with | some [a] => .pause a | _ => .badLength c
  | 0x23 => match readFields [1] bs with | some [a] => .resume a | _ => .badLength c
  | 0x24 => match readFields [4, 1, 2, 1] bs with
    | some [a, b, d, e] => .admitDesk a b d e | _ => .badLength c
  | 0x25 => match readFields [4, 2, 1] bs with | some [a, b, d] => .move a b d | _ => .badLength c
  | 0x26 => match readFields [2, 1] bs with | some [a, b] => .seatService a b | _ => .badLength c
  | 0x27 => match readFields [4] bs with | some [a] => .restStart a | _ => .badLength c
  | 0x28 => match readFields [4] bs with | some [a] => .restEnd a | _ => .badLength c
  | 0x29 => match readFields [4] bs with | some [a] => .finish a | _ => .badLength c
  | 0x2A => match readFields [4] bs with | some [a] => .withdraw a | _ => .badLength c
  | 0x2B => match readFields [4, 4] bs with | some [a, b] => .issueTag a b | _ => .badLength c
  | 0x2C =>
    let k := (bs.length - 1) / 4
    if bs.length ≠ 1 + 4 * k ∨ k = 0 ∨ 16 < k then .badLength c else
      match readFields (1 :: List.replicate k 4) bs with
      | some (n :: scripts) => .returnTags n scripts
      | _ => .badLength c
  | 0x2D => match readFields [4] bs with | some [a] => .voidTag a | _ => .badLength c
  | 0x2E => match readFields [4, 4] bs with | some [a, b] => .claimTag a b | _ => .badLength c
  | 0x2F => match readFields [1, 2, 1] bs with | some [a, b, d] => .announce a b d | _ => .badLength c
  | 0x40 => match readFields [2] bs with | some [a] => .batchOpen a | _ => .badLength c
  | 0x41 => readPage c bs
  | 0x42 => match readFields [4] bs with | some [a] => .sheetQuery a | _ => .badLength c
  | 0x43 => match readFields [4] bs with | some [a] => .sheetDiscard a | _ => .badLength c
  | 0x44 => if bs = [] then .batchClose else .badLength c
  | 0x60 => match readFields [4] bs with | some [a] => .archiveRead a | _ => .badLength c
  | 0x61 => match readFields [1, 4] bs with | some [a, b] => .readCandidate a b | _ => .badLength c
  | 0x62 => match readFields [2] bs with | some [a] => .readSeat a | _ => .badLength c
  | 0x63 => match readFields [1] bs with | some [a] => .readSitting a | _ => .badLength c
  | 0x70 => if bs = [] then .portStatus else .badLength c
  | 0x71 => if bs = [] then .archiveStatus else .badLength c
  | _ => .unknown c

/-- The field bytes a partner sends for a command: the fields in the order its rule lists, in the
widths R177 gives their ranges. -/
def Cmd.fieldBytes : Cmd → List Byte
  | .sessionOpen a b => Sys2Proof.fieldBytes [⟨2, a⟩, ⟨4, b⟩]
  | .seatDefine a b c d e => Sys2Proof.fieldBytes [⟨2, a⟩, ⟨1, b⟩, ⟨1, c⟩, ⟨1, d⟩, ⟨1, e⟩]
  | .zoneGrant a b c => Sys2Proof.fieldBytes [⟨1, a⟩, ⟨1, b⟩, ⟨1, c⟩]
  | .sittingDefine f =>
    Sys2Proof.fieldBytes (⟨1, f.sitting⟩ :: f.paper.map (Field.mk 1)
      ++ [⟨2, f.base⟩, ⟨2, f.reading⟩, ⟨2, f.pauseLimit⟩, ⟨1, f.zoneCount⟩]
      ++ f.zones.map (Field.mk 1)
      ++ [⟨2, f.outMax⟩, ⟨2, f.passMark⟩, ⟨1, f.penalty⟩, ⟨1, f.invalidPolicy⟩, ⟨1, f.floorPolicy⟩])
  | .cueDefine a b c d e => Sys2Proof.fieldBytes [⟨1, a⟩, ⟨1, b⟩, ⟨1, c⟩, ⟨2, d⟩, ⟨1, e⟩]
  | .layoutDefine a b cs => Sys2Proof.fieldBytes (⟨1, a⟩ :: ⟨1, b⟩ :: cs.map (Field.mk 1))
  | .candidateAdd a b c d e => Sys2Proof.fieldBytes [⟨4, a⟩, ⟨1, b⟩, ⟨1, c⟩, ⟨1, d⟩, ⟨2, e⟩]
  | .candidateAmend a b c d => Sys2Proof.fieldBytes [⟨4, a⟩, ⟨1, b⟩, ⟨2, c⟩, ⟨1, d⟩]
  | .keyItem f =>
    Sys2Proof.fieldBytes [⟨1, f.sitting⟩, ⟨1, f.item⟩, ⟨1, f.kind⟩, ⟨1, f.weight⟩, ⟨1, f.optionCount⟩,
      ⟨1, f.keyed⟩, ⟨4, f.numericKey⟩, ⟨4, f.tolerance⟩, ⟨1, f.columns⟩]
  | .allocate a | .keySeal a | .keyUnseal a | .finalise a | .openDoors a | .start a | .pause a
  | .resume a | .readSitting a => Sys2Proof.fieldBytes [⟨1, a⟩]
  | .remark a | .archiveExported a | .restStart a | .restEnd a | .finish a | .withdraw a
  | .voidTag a | .sheetQuery a | .sheetDiscard a | .archiveRead a => Sys2Proof.fieldBytes [⟨4, a⟩]
  | .archiveErase a b => Sys2Proof.fieldBytes [⟨1, a⟩, ⟨1, b⟩]
  | .admitDesk a b c d => Sys2Proof.fieldBytes [⟨4, a⟩, ⟨1, b⟩, ⟨2, c⟩, ⟨1, d⟩]
  | .move a b c => Sys2Proof.fieldBytes [⟨4, a⟩, ⟨2, b⟩, ⟨1, c⟩]
  | .seatService a b => Sys2Proof.fieldBytes [⟨2, a⟩, ⟨1, b⟩]
  | .issueTag a b | .claimTag a b => Sys2Proof.fieldBytes [⟨4, a⟩, ⟨4, b⟩]
  | .returnTags n ts => Sys2Proof.fieldBytes (⟨1, n⟩ :: ts.map (Field.mk 4))
  | .announce a b c => Sys2Proof.fieldBytes [⟨1, a⟩, ⟨2, b⟩, ⟨1, c⟩]
  | .batchOpen a | .readSeat a => Sys2Proof.fieldBytes [⟨2, a⟩]
  | .page f =>
    Sys2Proof.fieldBytes [⟨4, f.script⟩, ⟨1, f.flags⟩, ⟨4, f.numberRead⟩, ⟨1, f.pageNo⟩, ⟨1, f.pageCount⟩,
      ⟨1, f.responseCount⟩] ++ (f.responses.map Response.bytes).flatten
  | .readCandidate a b => Sys2Proof.fieldBytes [⟨1, a⟩, ⟨4, b⟩]
  | .sessionGo | .sessionClose | .sessionDiscard | .allocAbort | .batchClose | .portStatus
  | .archiveStatus | .unknown _ | .badLength _ => []

/-- SYNC, the first byte of every frame (R178). -/
def syncByte : Byte := 0xA5

/-- The bytes of a frame from its TAG, its CODE and what follows: SYNC, LEN, TAG, CODE, the rest and
the CRC over LEN through the last field (R164, R178). -/
def frameBytes (tag code : Byte) (rest : List Byte) : List Byte :=
  let body := BitVec.ofNat 8 (rest.length + 2) :: tag :: code :: rest
  syncByte :: body ++ beBytes 2 (crc16 body).toNat

/-- The frame a partner sends for a command under a TAG (R178). -/
def Cmd.frame (tag : Byte) (c : Cmd) : List Byte := frameBytes tag c.code c.fieldBytes

/-- Which row of spec/opcode_table.json a word of `nbits` bits spells.  The table gives no row any
bits (every row's fields are empty), so no word spells one. -/
def decodeTableWord (_nbits _w : Nat) : Option Instr := none

end Sys2Proof
end

