-- ==== Sys2Proof/Machine/State.lean ====
section
/-! DEFINITION. Everything the controller holds, block by block, as plain data, and its value right
after a POWER reset.  INVENTORY.md lists each field with the rule that names it. -/

namespace Sys2Proof.Machine

/-! ## Names the records use -/

/-- Session states (section 1.2). -/
inductive SessionState where
  | idle | loading | live | closing
deriving DecidableEq, Repr

/-- Seat kinds (R10). -/
inductive SeatKind where
  | standard | access | spare
deriving DecidableEq, Repr

/-- Seat service (R10). -/
inductive Service where
  | inService | outOfService | faulty
deriving DecidableEq, Repr

/-- The group the controller last saw a unit acknowledge (R52). -/
inductive UnitGroup where
  | none
  | sitting (n : Nat)
  | unknown
deriving DecidableEq, Repr

/-- Display modes (R50). -/
inductive DisplayMode where
  | blank | placed | ready | count | held | rest | finished
deriving DecidableEq, Repr

/-- Condition codes, in the order R50 lists them. -/
inductive CondCode where
  | wait | unknown | already | unplaced | wrongSeat | tooLate | exitClosed | entry | state | range
  | duplicate | full | issued | restOver
deriving DecidableEq, Repr

/-- The code of a display record (R50). -/
inductive DispCode where
  | none
  | cond (c : CondCode)
  | announce (n : Nat)
deriving DecidableEq, Repr

/-- Sitting states (R17). -/
inductive SittingState where
  | defined | opened | reading | writing | collecting | closed | final
deriving DecidableEq, Repr

/-- Candidate states (R19). -/
inductive CandState where
  | expected | admitted | writing | resting | finished | collected | absent | withdrawn
deriving DecidableEq, Repr

/-- Finish causes (R18). -/
inductive FinishCause where
  | time | early | desk
deriving DecidableEq, Repr

/-- Cue kinds (section 4.3). -/
inductive CueKind where
  | lastEntry | exitOpen | exitClose | warn | note
deriving DecidableEq, Repr

/-- Key states (R113). -/
inductive KeyState where
  | empty | loading | sealed
deriving DecidableEq, Repr

/-- Item kinds (R115). -/
inductive ItemKind where
  | single | multi | numeric
deriving DecidableEq, Repr

/-- What an INVALID item earns (R14, R132). -/
inductive InvalidPolicy where
  | asWrong | asBlank
deriving DecidableEq, Repr

/-- How a negative mark is bounded (R14, R137). -/
inductive FloorPolicy where
  | clampZero | signed
deriving DecidableEq, Repr

/-- Item outcomes (R131). -/
inductive ItemOutcome where
  | correct | part | wrong | blank | invalid
deriving DecidableEq, Repr

/-- Standings (R138). -/
inductive Standing where
  | below | at | above
deriving DecidableEq, Repr

/-- Tag kinds (R99). -/
inductive TagKind where
  | booklet | sheet
deriving DecidableEq, Repr

/-- Custody states (R99). -/
inductive TagState where
  | issued | returned | marked | void
deriving DecidableEq, Repr

/-- Assembly slot states (R122). -/
inductive SlotState where
  | free | gathering | scoring | waiting
deriving DecidableEq, Repr

/-- Passes of an allocation run (R24). -/
inductive Pass where
  | access | standard
deriving DecidableEq, Repr

/-- Archive record kinds (R146). -/
inductive RecordKind where
  | sessionOpen | sessionClosed | sessionDiscarded | sessionLost | custodyClose | result | incident
  | sittingClose | sittingFinal | batch | exportMark
deriving DecidableEq, Repr

/-- Result codes, in the order of R178. -/
inductive ResultCode where
  | ok | accepted | unknown | role | length | range | state | notFound | duplicate | full | busy
  | zone | adjacent | mismatch | tooLate | alreadyMarked | pending | notExported | layout
deriving DecidableEq, Repr

/-! ## The hall record (Chapter 1) -/

/-- A display record (R50). -/
structure Display where
  group : Option Nat := none
  mode : DisplayMode := .blank
  remaining : Nat := 0
  number : Nat := 0
  code : DispCode := .none
  arg : Nat := 0
  codeSeq : Nat := 0
  lamp : Bool := false
  lock : Bool := false
deriving DecidableEq, Repr

/-- A seat record (R10) with the seat's line state (R58): display record, owed mark, unit group,
keypad entry buffer, quiet time, miss count, fault mark with its hall time, unit fault bits.  A seat
number without a record has its line state at the reset values, since every way of changing it needs
a record. -/
structure Seat where
  seat : Nat
  row : Nat
  column : Nat
  zone : Nat
  kind : SeatKind
  service : Service := .inService
  occupant : Option Nat := none
  waiver : Bool := false
  display : Display := {}
  owed : Bool := false
  unitGroup : UnitGroup := .none
  keys : List Nat := []
  quiet : Nat := 0
  miss : Nat := 0
  faultMark : Option Nat := none
  unitFaults : Nat := 0
deriving DecidableEq, Repr

/-- The four zone masks (R12), zone 0 in bit 0. -/
structure Masks where
  d0 : BitVec 8 := 0#8
  d1 : BitVec 8 := 0#8
  d2 : BitVec 8 := 0#8
  d3 : BitVec 8 := 0#8
deriving DecidableEq, Repr

/-- A cue (section 4.3): its kind, its offset or threshold, its code. -/
structure Cue where
  kind : CueKind
  value : Nat
  code : Nat
deriving DecidableEq, Repr

/-- An item entry of a key (R116). -/
structure ItemEntry where
  kind : ItemKind
  weight : Nat
  optionCount : Nat
  keyed : BitVec 8
  numericKey : Nat
  tolerance : Nat
  columns : Nat
deriving DecidableEq, Repr

/-- How many candidates of a sitting are in each state (R14). -/
structure Counts where
  expected : Nat := 0
  admitted : Nat := 0
  writing : Nat := 0
  resting : Nat := 0
  finished : Nat := 0
  collected : Nat := 0
  absent : Nat := 0
  withdrawn : Nat := 0
deriving DecidableEq, Repr

/-- A sitting record (R14), with its page layout and key (R113).  The items are the defined places of
the key, in ascending item number. -/
structure Sitting where
  number : Nat
  paper : List Nat
  state : SittingState := .defined
  base : Nat
  reading : Nat
  pauseLimit : Nat
  zones : List Nat
  elapsedReading : Nat := 0
  sel : Nat := 0
  pauseAcc : Nat := 0
  elapsedCues : List Cue := []
  remainingCues : List Cue := []
  elapsedPtr : Nat := 0
  admission : Bool := false
  exitOpen : Bool := false
  disrupted : Bool := false
  paused : Bool := false
  layout : Option (List Nat) := none
  items : List (Nat × ItemEntry) := []
  keyState : KeyState := .empty
  rawMax : Nat := 0
  outMax : Nat
  passMark : Nat
  penalty : Nat
  invalidPolicy : InvalidPolicy
  floorPolicy : FloorPolicy
  enrolled : Nat := 0
  counts : Counts := {}
  inFlight : Bool := false
deriving DecidableEq, Repr

/-- The flags a result carries (R139, R141). -/
structure ResultFlags where
  clamped : Bool
  clampSeen : Bool
  idUnread : Bool
  mismatchSeen : Bool
deriving DecidableEq, Repr

/-- A result summary (R139). -/
structure Summary where
  script : Nat
  version : Nat
  seq : Nat
  batch : Nat
  reported : Int
  standing : Standing
  flags : ResultFlags
deriving DecidableEq, Repr

/-- A candidate record (R18), with its result summary (R139).  Its index is its place in the table. -/
structure Cand where
  number : Nat
  sitting : Nat
  access : Bool
  allowance : Nat
  restBudget : Nat
  restUsed : Nat := 0
  state : CandState := .expected
  seat : Option Nat := none
  entitled : Nat
  consumed : Nat := 0
  cuePtr : Nat := 0
  cause : Option FinishCause := none
  late : Bool := false
  lateOverride : Bool := false
  nilScript : Bool := false
  exitClosed : Bool := false
  issued : Nat := 0
  returned : Nat := 0
  version : Nat := 0
  summary : Option Summary := none
deriving DecidableEq, Repr

/-- The closing drain (R7): the candidate index it has come to, or the wait for an empty queue. -/
inductive Drain where
  | off
  | custody (next : Nat)
  | waitEmpty
deriving DecidableEq, Repr

/-- The hall record (R23). -/
structure Hall where
  session : SessionState := .idle
  sessionNo : Option Nat := none
  time : Nat := 0
  seats : List Seat := []
  masks : Masks := {}
  chief : Desk := .d0
  sittings : List Sitting := []
  cands : List Cand := []
  drain : Drain := .off
deriving DecidableEq, Repr

/-! ## The Allocation Engine (R24) -/

/-- The run state of the Allocation Engine (R24).  The cursor, the fill positions and the dropped
marks stand in the order of the run sitting's zone list; `lastTurn` is the highest candidate number
the current pass has given a turn to, which tells who is still to have one (R26). -/
structure Alloc where
  running : Bool := false
  sitting : Option Nat := none
  pass : Pass := .access
  cursor : Nat := 0
  accessFill : List Nat := []
  standardFill : List Nat := []
  dropped : List Bool := []
  placed : Nat := 0
  unplaced : Nat := 0
  abort : Bool := false
  lastTurn : Nat := 0
deriving DecidableEq, Repr

/-! ## The Seat Line Controller (Chapter 3) -/

/-- What a report says (R41, R180). -/
inductive ReportKind where
  | hello (faults : Nat)
  | card (number : Nat)
  | key (code : Nat)
  | call
  | done
  | tag (number : Nat)
deriving DecidableEq, Repr

/-- A report in the inbox (R44): its seat, what it says, and the hall time its acknowledge slot
ended. -/
structure Report where
  seat : Nat
  kind : ReportKind
  time : Nat
deriving DecidableEq, Repr

/-- The action of an ANNOUNCE frame (R41). -/
inductive AnnounceAction where
  | show | hold | run
deriving DecidableEq, Repr

/-- What a controller frame carries (R41). -/
inductive FrameKind where
  | poll
  | display (d : Display)
  | groupSet (g : Option Nat)
  | announce (code : Nat) (action : AnnounceAction)
  | clear
deriving DecidableEq, Repr

/-- A controller frame and its address (R42). -/
structure LineFrame where
  address : Nat
  kind : FrameKind
deriving DecidableEq, Repr

/-- How far the report on the line has come (R44, R45): its kind field is still to come; an inbox
entry is reserved for it; it needs none, for its address has no seat record; or it will not be
acknowledged. -/
inductive ReportStage where
  | started | reserved | noEntry | refused
deriving DecidableEq, Repr

/-- The condition of the line (R40).  A controller frame whose acknowledge slot will have no effect,
because a reset was taken while it was on the line, is marked void (R58). -/
inductive LineCond where
  | idle
  | quiet
  | busyController (f : LineFrame) (voided : Bool)
  | busyReport (r : SeatFrame) (stage : ReportStage)
  | hold (r : SeatFrame)
deriving DecidableEq, Repr

/-- A delivery whose first frame is a GROUP_SET (R52): its seat, the display record as it stood when that
frame started, and whether the GROUP_SET has been acknowledged, so that the DISPLAY follows at the
arbiter's next start. -/
structure Delivery where
  seat : Nat
  record : Display
  acked : Bool
deriving DecidableEq, Repr

/-- The Seat Line Controller's state beside the per-seat line state (R58).  `deliver` is the delivery
under way that began with a GROUP_SET (R52); `acked` tells whether the controller drove the acknowledge
slot of the last report that ended (an output of the line, R41). -/
structure SeatLine where
  cond : LineCond := .quiet
  inbox : List Report := []
  groupQueue : List LineFrame := []
  deliver : Option Delivery := none
  lastServed : Nat := 0
  lastPolled : Nat := 0
  acked : Bool := false
deriving DecidableEq, Repr

/-! ## The Clock Unit (Chapter 4) -/

/-- A record that counts time: a sitting, a candidate by index, a seat's quiet time. -/
inductive TickKey where
  | sitting (n : Nat)
  | cand (i : Nat)
  | seat (n : Nat)
deriving DecidableEq, Repr

/-- The Clock Unit's own state: the hall pause flag (R59), the records that have already taken the hall
second now passing (the model's own, log 3), and the candidates, by index, whose rest has ended in it, which
consume no writing time in that second (R73; the field is the model's own, log 48). -/
structure Clock where
  hallPause : Bool := false
  ahead : List TickKey := []
  restEnded : List Nat := []
deriving DecidableEq, Repr

/-! ## The Custody List (Chapter 6) -/

/-- A custody entry (R99). -/
structure Custody where
  script : Nat
  cand : Option Nat
  kind : TagKind
  state : TagState
  issueTime : Option Nat
  returnTime : Option Nat
  remarks : Nat := 0
deriving DecidableEq, Repr

/-! ## Sheet Assembler and Scoring Unit (Chapters 7 and 8) -/

/-- The batch state (R119). -/
structure Batch where
  opened : Bool := false
  number : Nat := 0
  openedAt : Nat := 0
  scored : Nat := 0
  clamped : Nat := 0
  discarded : Nat := 0
  mismatches : Nat := 0
  clampSeen : Bool := false
deriving DecidableEq, Repr

/-- The working result of a sheet (R130, R140), with the slot's read seen and MISMATCH_SEEN as they were
read when its scoring began (R130, log 49). -/
structure SheetResult where
  outcomes : List ItemOutcome
  raw : Int
  invalid : Nat
  reported : Int
  clamped : Bool
  standing : Standing
  readSeen : Bool := false
  mismatchSeen : Bool := false
deriving DecidableEq, Repr

/-- An assembly slot (R122): the pages held, each with its page number and its responses, in the
order they came; and the result of a slot in WAITING (R140). -/
structure Slot where
  state : SlotState := .free
  script : Nat := 0
  cand : Nat := 0
  sitting : Nat := 0
  pageCount : Nat := 0
  pages : List (Nat × List Response) := []
  readSeen : Bool := false
  mismatchSeen : Bool := false
  result : Option SheetResult := none
deriving DecidableEq, Repr

/-- The slot the Scoring Unit is scoring and its working result (R130). -/
structure ScoringJob where
  slot : Nat
  working : SheetResult
deriving DecidableEq, Repr

/-- The Sheet Assembler and the Scoring Unit. -/
structure Marking where
  batch : Batch := {}
  slots : List Slot := List.replicate 8 {}
  order : List Nat := []
  waiting : List Nat := []
  job : Option ScoringJob := none
deriving DecidableEq, Repr

/-! ## The Result Archive (Chapter 9) -/

/-- A record in the archive queue (R146): the body's fields after the gap count. -/
structure ArchRecord where
  seq : Nat
  kind : RecordKind
  gap : Nat
  body : List Field
deriving DecidableEq, Repr

/-- Block states (R145), and two that stand only while the power-up scan runs: not yet classified,
and candidate OPEN (R159). -/
inductive BlockState where
  | erased | opened | full | retired | erasing
  | unread | candidate
deriving DecidableEq, Repr

/-- A block table entry (R145). -/
structure Block where
  state : BlockState := .unread
  used : Nat := 0
  first : Option Nat := none
  highest : Option Nat := none
  failed : Option Nat := none
deriving DecidableEq, Repr

/-- The status marks of a plane (R149). -/
inductive Mark where
  | none | pass | fail
deriving DecidableEq, Repr

/-- What a plane is programming (R149, R151, R156): nothing; a record into a page of a block; the
retire mark into a block's tail; or nothing yet, the tail program waiting for an erase to end. -/
inductive Run where
  | none
  | record (block page : Nat)
  | tail (block : Nat)
  | tailDue (block : Nat)
deriving DecidableEq, Repr

/-- A plane (R149): its block table, its two buffers, its status marks and its condition.
`stallAlertDue` is the notice a plane left STALLED by the scan still owes (R153); `eraseBegun` tells
an erase that runs from one that is only accepted (R156). -/
structure Plane where
  blocks : List Block := List.replicate 128 {}
  staging : Option ArchRecord := none
  progBuf : Option ArchRecord := none
  run : Run := .none
  prev : Mark := .none
  cur : Mark := .none
  stalled : Bool := false
  stallAlertDue : Bool := false
  eraseBegun : Bool := false
deriving DecidableEq, Repr

/-- What the power-up scan has found so far (R160): whether any page was not blank, the highest
sequence number, the EXPORT_MARK record with the highest sequence number and the mark it carries, and
the session record with the highest sequence number, its kind code and its session number. -/
structure Scan where
  written : Bool := false
  high : Nat := 0
  exportSeen : Option (Nat × Nat) := none
  sessionSeen : Option (Nat × Nat × Nat) := none
deriving DecidableEq, Repr

/-- The Result Archive (R162).  `mem` is the nonvolatile memory, byte by byte (see Machine/Memory);
`scan` is present while the power-up scan runs; `disturbances` counts the failed and cut-off programs
and erases, and indexes the free values of Config (the model's own, log 38). -/
structure Archive where
  mem : List Host.Cell := []
  p0 : Plane := {}
  p1 : Plane := {}
  queue : List ArchRecord := []
  seqCounter : Nat := 0
  lastStored : Nat := 0
  exported : Nat := 0
  lost : Nat := 0
  torn : Nat := 0
  scan : Option Scan := some {}
  disturbances : Nat := 0
deriving DecidableEq, Repr

/-! ## The Link Interface (Chapter 10) -/

/-- Causes of SEAT_FAULT (R48, R56). -/
inductive FaultCause where
  | unit (bits : Nat)
  | silent
deriving DecidableEq, Repr

/-- Causes of ARCHIVE_ALERT, with what each carries before the hall time (R148, R151, R152, R153,
R156). -/
inductive AlertCause where
  | lost (kind : RecordKind) (count : Nat)
  | programFail (plane block page seq : Nat)
  | retireFail (plane block failed : Nat)
  | stalled (plane retired : Nat)
  | eraseFail (plane block : Nat)
deriving DecidableEq, Repr

/-- Notices (R170) with the fields their rules list. -/
inductive Notice where
  | call (seat number : Nat) (state : CandState) (time : Nat)
  | seatFault (cause : FaultCause) (seat : Nat) (number : Option Nat) (time : Nat)
  | seatRecovered (seat : Nat) (number : Option Nat) (time : Nat)
  | wrongSeat (seat number : Nat) (right : Option Nat) (time : Nat)
  | collect (seat number : Nat) (cause : Option FinishCause) (issued returned time : Nat)
  | strayTag (script : Nat) (kind : TagKind) (desk : Port) (time : Nat)
  | cueFired (sitting : Nat) (kind : CueKind) (offset code absent time : Nat)
  | pauseLimit (sitting acc limit time : Nat)
  | allocDone (sitting placed unplaced : Nat) (aborted : Bool) (time : Nat)
  | archiveAlert (cause : AlertCause) (time : Nat)
  | sheetScored (script number sitting batch version seq : Nat) (reported : Int)
      (standing : Standing) (flags : ResultFlags) (invalid time : Nat)
deriving DecidableEq, Repr

/-- A command frame a port has taken or holds in its receive buffer (R165). -/
structure LinkFrame where
  tag : Byte
  cmd : Cmd
deriving DecidableEq, Repr

/-- A reply (R169): the command's TAG and CODE, the result and the fields. -/
structure Reply where
  tag : Byte
  code : Byte
  result : ResultCode
  fields : List Field
deriving DecidableEq, Repr

/-- A port's receive assembly (R163): the bytes after SYNC so far, and whether one of them was
received with an error. -/
inductive Assembly where
  | hunting
  | collecting (got : List Byte) (bad : Bool)
deriving DecidableEq, Repr

/-- What a port's transmitter is sending (R169). -/
inductive Sending where
  | none
  | reply
  | notice (n : Notice)
deriving DecidableEq, Repr

/-- A port's state (Chapter 10). -/
structure PortState where
  asm : Assembly := .hunting
  buffer : Option LinkFrame := none
  inService : Option LinkFrame := none
  replySlot : Option Reply := none
  notices : List Notice := []
  errorFlag : Bool := false
  lostFlag : Bool := false
  sending : Sending := .none
deriving DecidableEq, Repr

/-- The six ports. -/
structure Links where
  d0 : PortState := {}
  d1 : PortState := {}
  d2 : PortState := {}
  d3 : PortState := {}
  g : PortState := {}
  k : PortState := {}
deriving DecidableEq, Repr

/-! ## The machine -/

/-- The state of the controller, and the commands that wait (`pending`, first in first out). -/
structure State where
  hall : Hall
  alloc : Alloc
  line : SeatLine
  clock : Clock
  custody : List Custody
  marking : Marking
  arch : Archive
  links : Links
  pending : List Instr
deriving DecidableEq, Repr

/-- Why the controller stops: it never does.  Every command and event of the manual has an effect
there, so no meaning raises a fault and the type has no constructor (safe). -/
inductive Fault where
deriving DecidableEq, Repr

/-- Why a command is refused a meaning. -/
inductive Refusal where
  /-- A row of the opcode table with no meaning in this model; raised by exec's arm alone, and by no
  arm as the model stands (safe). -/
  | notModelled (mnemonic : String)
deriving DecidableEq, Repr

/-- One CLEAR to every unit, which a reset leaves in the group frame queue (R53). -/
def clearFrame : LineFrame := ⟨0, .clear⟩

/-- The seat line after a POWER reset (R58): the line is tracked afresh from QUIET (log 8). -/
def SeatLine.power : SeatLine := { groupQueue := [clearFrame] }

/-- The machine right after a POWER reset of a controller whose archive has never been programmed
(R23, R24, R58, R59, R99, R119, R122, R130, R139, R162, R176): every block at its POWER values, the
power-up scan running, no command waiting.  The blank archive is log 7. -/
def State.reset : State where
  hall := {}
  alloc := {}
  line := SeatLine.power
  clock := {}
  custody := []
  marking := {}
  arch := {}
  links := {}
  pending := []

end Sys2Proof.Machine
end

