-- ==== Sys2Proof/Machine/Operands.lean ====
section
/-! DEFINITION. The operands of commands: the ranges their rules give, the enumerated values by the
positions R177 carries, and the same values written out. -/

namespace Sys2Proof.Machine

/-! ## Ranges -/

/-- A candidate number, 000000001 to 999999999 (Identifiers, R177). -/
def numberOk (n : Nat) : Bool := 1 ≤ n && n ≤ 999999999
/-- A seat number, 1 to 511. -/
def seatOk (n : Nat) : Bool := 1 ≤ n && n ≤ 511
/-- A sitting number, 1 to 12. -/
def sittingOk (n : Nat) : Bool := 1 ≤ n && n ≤ 12
/-- A set-or-clear mark: 0 or 1 (R177). -/
def markOk (n : Nat) : Bool := n ≤ 1
/-- The leading digit of a tag (R177). -/
def leadingDigit (t : Nat) : Nat := t / 10000000
/-- A tag whose leading digit is 1 to 9 (Identifiers, R177). -/
def scriptOk (t : Nat) : Bool := 1 ≤ leadingDigit t && leadingDigit t ≤ 9
/-- The kind a tag's leading digit gives (R99). -/
def scriptKind (t : Nat) : TagKind := if leadingDigit t ≤ 7 then .booklet else .sheet
/-- A list with no value twice. -/
def distinct : List Nat → Bool
  | [] => true
  | x :: xs => !xs.contains x && distinct xs

/-! ## Enumerated operands (R177) -/

/-- Seat kinds in the order R10 lists them. -/
def seatKindOf : Nat → Option SeatKind
  | 0 => some .standard
  | 1 => some .access
  | 2 => some .spare
  | _ => none

/-- Invalid policies in the order R14 lists them. -/
def invalidPolicyOf : Nat → Option InvalidPolicy
  | 0 => some .asWrong
  | 1 => some .asBlank
  | _ => none

/-- Floor policies in the order R14 lists them. -/
def floorPolicyOf : Nat → Option FloorPolicy
  | 0 => some .clampZero
  | 1 => some .signed
  | _ => none

/-- Cue kinds in the order section 4.3 lists them. -/
def cueKindOf : Nat → Option CueKind
  | 0 => some .lastEntry
  | 1 => some .exitOpen
  | 2 => some .exitClose
  | 3 => some .warn
  | 4 => some .note
  | _ => none

/-- Item kinds in the order R115 lists them. -/
def itemKindOf : Nat → Option ItemKind
  | 0 => some .single
  | 1 => some .multi
  | 2 => some .numeric
  | _ => none

/-- Desk ports by number (R13). -/
def deskOf : Nat → Option Desk
  | 0 => some .d0
  | 1 => some .d1
  | 2 => some .d2
  | 3 => some .d3
  | _ => none

/-- Planes by number (R145). -/
def planeOfNat : Nat → Option PlaneId
  | 0 => some .p0
  | 1 => some .p1
  | _ => none

/-! ## Enumerated values written out (R177, R178, R181, R182, R183) -/

def deskCode : Desk → Nat
  | .d0 => 0
  | .d1 => 1
  | .d2 => 2
  | .d3 => 3

/-- Ports in the order of the connection table: the desks, G, K (log 12). -/
def portCode : Port → Nat
  | .desk d => deskCode d
  | .g => 4
  | .k => 5

/-- Roles in the order of R167's table. -/
def roleCode : Port → Nat
  | .g => 0
  | .desk _ => 1
  | .k => 2

def SessionState.code : SessionState → Nat
  | .idle => 0
  | .loading => 1
  | .live => 2
  | .closing => 3

def SeatKind.code : SeatKind → Nat
  | .standard => 0
  | .access => 1
  | .spare => 2

def Service.code : Service → Nat
  | .inService => 0
  | .outOfService => 1
  | .faulty => 2

/-- A unit group in READ_SEAT: a form byte, the forms none, a sitting and UNKNOWN in the order R52 names
them, and a value byte, 0 for a form that carries no value (R177). -/
def UnitGroup.fields : UnitGroup → List Field
  | .none => [⟨1, 0⟩, ⟨1, 0⟩]
  | .sitting n => [⟨1, 1⟩, ⟨1, n⟩]
  | .unknown => [⟨1, 2⟩, ⟨1, 0⟩]

def DisplayMode.code : DisplayMode → Nat
  | .blank => 0
  | .placed => 1
  | .ready => 2
  | .count => 3
  | .held => 4
  | .rest => 5
  | .finished => 6

/-- Condition codes 1 to 14, in the order R50 lists them (R180). -/
def CondCode.code : CondCode → Nat
  | .wait => 1
  | .unknown => 2
  | .already => 3
  | .unplaced => 4
  | .wrongSeat => 5
  | .tooLate => 6
  | .exitClosed => 7
  | .entry => 8
  | .state => 9
  | .range => 10
  | .duplicate => 11
  | .full => 12
  | .issued => 13
  | .restOver => 14

/-- A display code's class and value (R180). -/
def DispCode.code : DispCode → Nat × Nat
  | .none => (0, 0)
  | .cond c => (1, CondCode.code c)
  | .announce n => (2, n)

def SittingState.code : SittingState → Nat
  | .defined => 0
  | .opened => 1
  | .reading => 2
  | .writing => 3
  | .collecting => 4
  | .closed => 5
  | .final => 6

def CandState.code : CandState → Nat
  | .expected => 0
  | .admitted => 1
  | .writing => 2
  | .resting => 3
  | .finished => 4
  | .collected => 5
  | .absent => 6
  | .withdrawn => 7

/-- Finish causes: the codes R183 gives the field, which R177 has carried wherever it stands. -/
def causeCode : Option FinishCause → Nat
  | none => 0
  | some .time => 1
  | some .early => 2
  | some .desk => 3

def CueKind.code : CueKind → Nat
  | .lastEntry => 0
  | .exitOpen => 1
  | .exitClose => 2
  | .warn => 3
  | .note => 4

def KeyState.code : KeyState → Nat
  | .empty => 0
  | .loading => 1
  | .sealed => 2

def InvalidPolicy.code : InvalidPolicy → Nat
  | .asWrong => 0
  | .asBlank => 1

def FloorPolicy.code : FloorPolicy → Nat
  | .clampZero => 0
  | .signed => 1

def ItemOutcome.code : ItemOutcome → Nat
  | .correct => 0
  | .part => 1
  | .wrong => 2
  | .blank => 3
  | .invalid => 4

def Standing.code : Standing → Nat
  | .below => 0
  | .at => 1
  | .above => 2

def TagKind.code : TagKind → Nat
  | .booklet => 0
  | .sheet => 1

def TagState.code : TagState → Nat
  | .issued => 0
  | .returned => 1
  | .marked => 2
  | .void => 3

/-- A custody state, none last (log 12). -/
def tagStateCode : Option TagState → Nat
  | some t => TagState.code t
  | none => 4

def SlotState.code : SlotState → Nat
  | .free => 0
  | .gathering => 1
  | .scoring => 2
  | .waiting => 3

def Mark.code : Mark → Nat
  | .pass => 0
  | .fail => 1
  | .none => 2

def AnnounceAction.code : AnnounceAction → Nat
  | .show => 0
  | .hold => 1
  | .run => 2

/-- Result codes 00h to 12h (R178). -/
def ResultCode.code : ResultCode → Nat
  | .ok => 0
  | .accepted => 1
  | .unknown => 2
  | .role => 3
  | .length => 4
  | .range => 5
  | .state => 6
  | .notFound => 7
  | .duplicate => 8
  | .full => 9
  | .busy => 10
  | .zone => 11
  | .adjacent => 12
  | .mismatch => 13
  | .tooLate => 14
  | .alreadyMarked => 15
  | .pending => 16
  | .notExported => 17
  | .layout => 18

/-- A result's flags as one byte, CLAMPED, CLAMP_SEEN, ID_UNREAD, MISMATCH_SEEN in bits 0 to 3 (R182). -/
def ResultFlags.field (f : ResultFlags) : Field :=
  ⟨1, flagsValue [f.clamped, f.clampSeen, f.idUnread, f.mismatchSeen]⟩

/-! ## Seat-line frames (R41, R42, R180) -/

/-- The four-bit kind of a controller frame: its position in R41's table, counting from 0 (log 13). -/
def FrameKind.code : FrameKind → Nat
  | .poll => 6
  | .display _ => 7
  | .groupSet _ => 8
  | .announce _ _ => 9
  | .clear => 10

/-- The 12 bytes of a DISPLAY payload (R180). -/
def Display.payload (d : Display) : List Byte :=
  let c := DispCode.code d.code
  fieldBytes [optField 1 d.group, ⟨1, DisplayMode.code d.mode⟩, ⟨2, d.remaining⟩, ⟨2, d.number⟩,
    ⟨1, c.1⟩, ⟨1, c.2⟩, ⟨2, d.arg⟩, ⟨1, d.codeSeq⟩, ⟨1, flagsValue [d.lamp, d.lock]⟩]

/-- The payload of a controller frame (R180). -/
def FrameKind.payload : FrameKind → List Byte
  | .poll => []
  | .display d => Display.payload d
  | .groupSet g => fieldBytes [optField 1 g]
  | .announce c a => fieldBytes [⟨1, c⟩, ⟨1, AnnounceAction.code a⟩]
  | .clear => []

/-- The bits of a controller frame, start through check, a set bit being recessive: start and priority
dominant, address, kind, length, payload, check (R41); every field most significant bit first.
(DEDUCED, log 45.) -/
def LineFrame.bits (f : LineFrame) : List Bool :=
  let k := FrameKind.code f.kind
  let pl := FrameKind.payload f.kind
  false :: false :: natBits 10 f.address ++ natBits 4 k ++ natBits 4 pl.length
    ++ (pl.map byteBits).flatten ++ natBits 8 (lineCheck false f.address k pl.length pl)

/-- What an acceptable report says, from its kind, length and payload; none where length or payload
are not those of a report kind (R41, R177, R180).  The kinds are numbered by their position in R41's
table (log 13); of a HELLO byte the four fault bits are read.
(DESIGN CHOICE, log 34: the upper bits of a HELLO byte are not read.) -/
def reportKindOf (kind length : Nat) (payload : List Byte) : Option ReportKind :=
  if payload.length ≠ length then none else
  match kind, payload with
  | 0, [b] => some (.hello (b.toNat % 16))
  | 1, [a, b, c, d] => let n := ofBytes [a, b, c, d]; if n ≤ 999999999 then some (.card n) else none
  | 2, [b] => if b.toNat ≤ 0x0B then some (.key b.toNat) else none
  | 3, [] => some .call
  | 4, [] => some .done
  | 5, [a, b, c, d] => let n := ofBytes [a, b, c, d]; if n ≤ 99999999 then some (.tag n) else none
  | _, _ => none

/-- A report received whole and correct says this; none where it fails a test of R41 or R44. -/
def reportOf (r : SeatFrame) : Option ReportKind :=
  if r.check = r.goodCheck ∧ r.length ≤ 12 then reportKindOf r.kind r.length r.payload else none

end Sys2Proof.Machine
end

