-- ==== Sys2Proof/Machine/Flags.lean ====
section
/-! DEFINITION. The conditions the rules test and the counts they keep: records found, held, zone
screening, the late test, what a candidate's display shows, room in the queues. -/

namespace Sys2Proof.Machine

/-! ## Records found -/

/-- The record of a seat number (section 1.4). -/
def State.seat? (s : State) (n : Nat) : Option Seat := s.hall.seats.find? (fun x => x.seat == n)

/-- The record of a sitting number (R14). -/
def State.sitting? (s : State) (n : Nat) : Option Sitting := s.hall.sittings.find? (fun x => x.number == n)

/-- The candidate record at an index (R18). -/
def State.cand? (s : State) (i : Nat) : Option Cand := s.hall.cands[i]?

/-- The index of the record that holds a candidate number (section 1.7). -/
def State.findCand (s : State) (number : Nat) : Option Nat :=
  s.hall.cands.findIdx? (fun c => c.number == number)

/-- The custody entry of a tag (R99). -/
def State.entry? (s : State) (t : Nat) : Option Custody := s.custody.find? (fun e => e.script == t)

/-- The assembly slot that holds a tag (R125). -/
def State.slotOf (s : State) (t : Nat) : Option Nat :=
  s.marking.slots.findIdx? (fun x => decide (x.state ≠ .free) && x.script == t)

/-- The candidate number of a candidate index that may be none. -/
def State.numberOf (s : State) (o : Option Nat) : Option Nat :=
  o.bind (fun i => (s.cand? i).map (fun c => c.number))

/-! ## Counts by state (R14, R19) -/

/-- One more candidate in a state. -/
def Counts.inc (c : Counts) : CandState → Counts
  | .expected => { c with expected := c.expected + 1 }
  | .admitted => { c with admitted := c.admitted + 1 }
  | .writing => { c with writing := c.writing + 1 }
  | .resting => { c with resting := c.resting + 1 }
  | .finished => { c with finished := c.finished + 1 }
  | .collected => { c with collected := c.collected + 1 }
  | .absent => { c with absent := c.absent + 1 }
  | .withdrawn => { c with withdrawn := c.withdrawn + 1 }

/-- One candidate fewer in a state. -/
def Counts.dec (c : Counts) : CandState → Counts
  | .expected => { c with expected := c.expected - 1 }
  | .admitted => { c with admitted := c.admitted - 1 }
  | .writing => { c with writing := c.writing - 1 }
  | .resting => { c with resting := c.resting - 1 }
  | .finished => { c with finished := c.finished - 1 }
  | .collected => { c with collected := c.collected - 1 }
  | .absent => { c with absent := c.absent - 1 }
  | .withdrawn => { c with withdrawn := c.withdrawn - 1 }

/-- The counts in the order of the candidate states, two bytes each. -/
def Counts.fields (c : Counts) : List Field :=
  [⟨2, c.expected⟩, ⟨2, c.admitted⟩, ⟨2, c.writing⟩, ⟨2, c.resting⟩, ⟨2, c.finished⟩, ⟨2, c.collected⟩,
    ⟨2, c.absent⟩, ⟨2, c.withdrawn⟩]

/-- Nobody is left to write or to arrive (R78). -/
def Counts.nobodyLeft (c : Counts) : Bool :=
  c.expected == 0 && c.admitted == 0 && c.writing == 0 && c.resting == 0

/-! ## Clock conditions -/

/-- A sitting is held: the hall pause flag or its own is set (R59). -/
def State.held (s : State) (n : Nat) : Bool :=
  s.clock.hallPause || ((s.sitting? n).map (fun x => x.paused)).getD false

/-- The candidate's remaining time, E less consumed. -/
def Cand.remaining (c : Cand) : Nat := c.entitled - c.consumed

/-- The entitlement formula (R60): the least whole number of seconds not below B x (100 + a) / 100. -/
def entitlement (base allowance : Nat) : Nat := (base * (100 + allowance) + 99) / 100

/-- The late test of R74 fails: E - S_el is 0 or less. -/
def tooLate (x : Sitting) (c : Cand) : Bool := c.entitled ≤ x.sel

/-- The last four digits of a number. -/
def lastFour (n : Nat) : Nat := n % 10000

/-- The mode, the remaining time, the number and the lock of a seated candidate's display (R69); none
for a candidate that has left its seat. -/
def Cand.shown (c : Cand) (held : Bool) : Option (DisplayMode × Nat × Nat × Bool) :=
  match c.state with
  | .expected => some (.placed, 0, lastFour c.number, false)
  | .admitted => some (.ready, c.remaining, 0, false)
  | .writing => some (if held then .held else .count, c.remaining, 0, false)
  | .resting => some (if held then .held else .rest, c.remaining, 0, false)
  | .finished => some (.finished, 0, 0, true)
  | .collected | .absent | .withdrawn => none

/-- The sitting has a cue of a kind (R62). -/
def Sitting.hasCue (x : Sitting) (k : CueKind) : Bool :=
  (x.elapsedCues ++ x.remainingCues).any (fun q => decide (q.kind = k))

/-! ## Zones (R168) -/

/-- A desk's zone mask. -/
def Masks.get (m : Masks) : Desk → BitVec 8
  | .d0 => m.d0
  | .d1 => m.d1
  | .d2 => m.d2
  | .d3 => m.d3

/-- A desk's zone mask replaced. -/
def Masks.set (m : Masks) (d : Desk) (v : BitVec 8) : Masks :=
  match d with
  | .d0 => { m with d0 := v }
  | .d1 => { m with d1 := v }
  | .d2 => { m with d2 := v }
  | .d3 => { m with d3 := v }

/-- A desk passes for a zone when it is chief or its mask holds the zone (R168). -/
def State.deskPasses (s : State) (d : Desk) (zone : Nat) : Bool :=
  d = s.hall.chief || (s.hall.masks.get d).getLsbD zone

/-- A port passes zone screening for a zone (R168); only desks are screened. -/
def State.passes (s : State) (p : Port) (zone : Nat) : Bool :=
  match p with
  | .desk d => s.deskPasses d zone
  | _ => false

/-- A port holds the CHIEF mark. -/
def State.isChief (s : State) (p : Port) : Bool := p = .desk s.hall.chief

/-- The zone a command on a candidate is screened on: its seat's, or the first of its sitting's zone
list when it has no seat (R168). -/
def State.candZone (s : State) (c : Cand) : Nat :=
  match c.seat.bind s.seat? with
  | some x => x.zone
  | none => (((s.sitting? c.sitting).map (fun y => y.zones)).getD []).headD 0

/-! ## Seats (R10, R28, R35) -/

/-- Two seats are adjacent: one row and columns 1 apart, or one column and rows 1 apart (R10). -/
def adjacent (a b : Seat) : Bool :=
  (a.row == b.row && (a.column + 1 == b.column || b.column + 1 == a.column))
    || (a.column == b.column && (a.row + 1 == b.row || b.row + 1 == a.row))

/-- A seat's occupant is a candidate of a sitting. -/
def State.occupiedBy (s : State) (x : Seat) (sitting : Nat) : Bool :=
  match x.occupant.bind s.cand? with
  | some c => c.sitting == sitting
  | none => false

/-- A seat adjacent to `t`, other than seat number `leaving`, has an occupant of a sitting (R28,
R35). -/
def State.neighbourOf (s : State) (t : Seat) (sitting : Nat) (leaving : Option Nat) : Bool :=
  s.hall.seats.any (fun x => adjacent t x && !(leaving == some x.seat) && s.occupiedBy x sitting)

/-- The target-seat tests: no occupant, and in service (R35). -/
def Seat.target (x : Seat) : Bool := x.occupant.isNone && x.service = .inService

/-! ## Runs, queues and slots -/

/-- A run is in flight for a sitting (R24). -/
def State.inFlight (s : State) (n : Nat) : Bool := ((s.sitting? n).map (fun x => x.inFlight)).getD false

/-- A record is bound for plane (sequence number mod 2) (R147). -/
def planeOf (seq : Nat) : PlaneId := if seq % 2 = 0 then .p0 else .p1

/-- RESULT records in the archive queue. -/
def Archive.results (a : Archive) : Nat := (a.queue.filter (fun r => decide (r.kind = .result))).length

/-- The queue can take a non-result record (R147). -/
def Archive.canTake (a : Archive) : Bool := a.queue.length < Config.archiveQueueSize

/-- The queue can take a RESULT record (R147). -/
def Archive.canTakeResult (a : Archive) : Bool :=
  a.queue.length < Config.archiveQueueSize && a.results < Config.resultLimit

/-- The power-up scan runs (R158). -/
def State.scanning (s : State) : Bool := s.arch.scan.isSome

/-- An assembly slot in use holds a sheet of a sitting (R118, R143). -/
def State.slotInUse (s : State) (sitting : Nat) : Bool :=
  s.marking.slots.any (fun x => decide (x.state ≠ .free) && x.sitting == sitting)

/-- A candidate holds a SHEET entry that is not VOID (R102, R108). -/
def State.hasLiveSheet (s : State) (i : Nat) : Bool :=
  s.custody.any (fun e => decide (e.cand = some i) && decide (e.kind = .sheet) && decide (e.state ≠ .void))

/-- The item count N of a layout (R113). -/
def itemCount (layout : List Nat) : Nat := layout.sum

/-- The first item of a page of a layout, pages counted from 1 (R114). -/
def firstItem (layout : List Nat) (page : Nat) : Nat := 1 + (layout.take (page - 1)).sum

/-- The entry of an item (R116). -/
def Sitting.item? (x : Sitting) (i : Nat) : Option ItemEntry :=
  (x.items.find? (fun e => e.1 == i)).map (fun e => e.2)

/-- Items of the layout that are defined (R116). -/
def Sitting.definedItems (x : Sitting) : Nat :=
  (x.items.filter (fun e => e.1 ≤ itemCount (x.layout.getD []))).length

end Sys2Proof.Machine
end

