-- ==== Sys2Proof/Machine/Memory.lean ====
section
/-! DEFINITION. The archive's nonvolatile memory (R145, R181): bytes by address in one canonical form,
pages read, programmed and erased, and what a page's bytes mean. -/

namespace Sys2Proof.Machine

/-- What a byte of memory that nothing has programmed since its block's erase reads as (R181: a blank
page holds FFh in every byte). (DESIGN CHOICE, log 7.) -/
def Memory.blankByte : Byte := 0xFF

/-- The byte at an address. -/
def Memory.read (m : List Host.Cell) (a : Nat) : Byte :=
  match m.find? (fun c => c.1 == a) with
  | some c => c.2
  | none => Memory.blankByte

/-- The memory with one byte changed, in canonical form. -/
def Memory.write : List Host.Cell → Nat → Byte → List Host.Cell
  | [], a, b => if b = Memory.blankByte then [] else [(a, b)]
  | (k, v) :: m, a, b =>
    if a < k then (if b = Memory.blankByte then (k, v) :: m else (a, b) :: (k, v) :: m)
    else if a = k then (if b = Memory.blankByte then m else (a, b) :: m)
    else (k, v) :: Memory.write m a b

/-- The canonical form: addresses strictly rising, and no entry that an unlisted address would read
the same. -/
def Memory.wf : List Host.Cell → Bool
  | [] => true
  | [c] => c.2 ≠ Memory.blankByte
  | c :: d :: m => c.2 ≠ Memory.blankByte && c.1 < d.1 && Memory.wf (d :: m)

/-- A run of bytes written from an address on. -/
def Memory.writeRun : List Host.Cell → Nat → List Byte → List Host.Cell
  | m, _, [] => m
  | m, a, b :: bs => Memory.writeRun (Memory.write m a b) (a + 1) bs

/-- The entries of an address range, from `lo` up to but not including `hi`. -/
def Memory.window (m : List Host.Cell) (lo hi : Nat) : List Host.Cell :=
  m.filter (fun c => lo ≤ c.1 && c.1 < hi)

/-- The memory with an address range blank. -/
def Memory.clear (m : List Host.Cell) (lo hi : Nat) : List Host.Cell :=
  m.filter (fun c => !(lo ≤ c.1 && c.1 < hi))

/-- `n` bytes from an address on. -/
def Memory.readRun (m : List Host.Cell) (a n : Nat) : List Byte :=
  let w := Memory.window m a (a + n)
  (List.range n).map (fun i => Memory.read w (a + i))

/-- A plane's number (R145). -/
def planeNo : PlaneId → Nat
  | .p0 => 0
  | .p1 => 1

/-- Where a page begins. -/
def pageAddr (p : PlaneId) (block page : Nat) : Nat :=
  ((planeNo p * Config.blocksPerPlane + block) * Config.pagesPerBlock + page) * Config.pageSize

/-- The bytes of a page. -/
def readPage (m : List Host.Cell) (p : PlaneId) (block page : Nat) : List Byte :=
  Memory.readRun m (pageAddr p block page) Config.pageSize

/-- A page programmed with bytes from its first one on.  R145 has a page programmed at most once between two
erases; where a resumed block makes one of a page that is not blank (R152, R159), the bytes written replace
those the page held, and the rest of the page stays. (DESIGN CHOICE, log 51.) -/
def programPage (m : List Host.Cell) (p : PlaneId) (block page : Nat) (bs : List Byte) : List Host.Cell :=
  Memory.writeRun m (pageAddr p block page) bs

/-- A page with every byte FFh again. -/
def blankPage (m : List Host.Cell) (p : PlaneId) (block page : Nat) : List Host.Cell :=
  Memory.clear m (pageAddr p block page) (pageAddr p block (page + 1))

/-- A block erased whole (R145). -/
def eraseBlock (m : List Host.Cell) (p : PlaneId) (block : Nat) : List Host.Cell :=
  Memory.clear m (pageAddr p block 0) (pageAddr p (block + 1) 0)

/-! ## What a page's bytes mean (R145, R181) -/

/-- Every byte FFh. -/
def pageBlank (bs : List Byte) : Bool := bs.all (fun b => b == Memory.blankByte)

/-- The header's sequence number. -/
def pageSeq (bs : List Byte) : Nat := ofBytes (bs.take 4)

/-- The header's kind byte. -/
def pageKind (bs : List Byte) : Nat := (bs.getD 4 0).toNat

/-- The header's body length. -/
def pageLength (bs : List Byte) : Nat := (bs.getD 5 0).toNat

/-- The body of a page, as long as its header says. -/
def pageBody (bs : List Byte) : List Byte := (bs.drop 8).take (pageLength bs)

/-- The page's CRC agrees with the header's first six bytes and the body. -/
def pageCrcGood (bs : List Byte) : Bool :=
  ofBytes ((bs.drop 6).take 2) == (crc16 (bs.take 6 ++ pageBody bs)).toNat

/-- A valid record page: not blank, a body of 2 to 120 bytes, and a CRC that agrees. -/
def pageValid (bs : List Byte) : Bool :=
  !pageBlank bs && 2 ≤ pageLength bs && pageLength bs ≤ 120 && pageCrcGood bs

/-- A valid retire mark: kind FFh, length 0, and a CRC that agrees (R181). -/
def retireValid (bs : List Byte) : Bool :=
  !pageBlank bs && pageKind bs == 0xFF && pageLength bs == 0 && pageCrcGood bs

/-- A page that is neither blank, nor valid, nor a valid retire mark. -/
def pageTorn (bs : List Byte) : Bool := !pageBlank bs && !pageValid bs && !retireValid bs

/-- The code of a record kind in a page header (R181). -/
def RecordKind.code : RecordKind → Nat
  | .sessionOpen => 0x01
  | .sessionClosed => 0x02
  | .sessionDiscarded => 0x03
  | .sessionLost => 0x04
  | .custodyClose => 0x05
  | .result => 0x06
  | .incident => 0x07
  | .sittingClose => 0x08
  | .sittingFinal => 0x09
  | .batch => 0x0A
  | .exportMark => 0x0B

/-- The body of a record: the gap count, then the kind's fields (R146). (DEDUCED, log 14.) -/
def ArchRecord.bodyBytes (r : ArchRecord) : List Byte :=
  fieldBytes (⟨2, r.gap⟩ :: r.body)

/-- A page's bytes from its header fields and its body, the CRC set between them (R181). -/
def pageBytes (seq kind : Nat) (body : List Byte) : List Byte :=
  let head := fieldBytes [⟨4, seq⟩, ⟨1, kind⟩, ⟨1, body.length⟩]
  head ++ beBytes 2 (crc16 (head ++ body)).toNat ++ body

/-- The page a record is programmed as (R181). -/
def ArchRecord.page (r : ArchRecord) : List Byte := pageBytes r.seq r.kind.code r.bodyBytes

/-- The tail page of a retired block (R181). -/
def retireMark (failed : Nat) : List Byte := pageBytes failed 0xFF []

/-- What a page holds after a failed or cut-off program (R151, R152, R162): free bytes of Config, kept
torn as the manual says such a page is.  FREE VALUE (log 10): every torn content is possible. -/
def tornPage (event page : Nat) : List Byte :=
  let bs := (List.range Config.pageSize).map (Config.tornByte event page)
  if pageTorn bs then bs else 0x00 :: List.replicate (Config.pageSize - 1) Memory.blankByte

/-- One page of a block whose erase failed or was cut off: left, blank or torn (log 11). -/
def disturbPage (p : PlaneId) (block event page : Nat) (m : List Host.Cell) : List Host.Cell :=
  match Config.eraseResidue event page % 3 with
  | 0 => m
  | 1 => blankPage m p block page
  | _ => programPage m p block page (tornPage event page)

/-- A block whose erase failed or was cut off, page by page (log 11). -/
def disturbBlock (p : PlaneId) (block event : Nat) (m : List Host.Cell) : List Host.Cell :=
  (List.range Config.pagesPerBlock).foldl (fun m pg => disturbPage p block event pg m) m

/-- A block whose erase was cut off by a POWER reset: neither blank nor wholly valid (R159), so that
where the free values tear none of its record pages, page 0 is torn. -/
def cutErase (p : PlaneId) (block event : Nat) (m : List Host.Cell) : List Host.Cell :=
  let m' := disturbBlock p block event m
  if (List.range Config.tailPage).any (fun pg => pageTorn (readPage m' p block pg)) then m'
  else programPage m' p block 0 (tornPage event 0)

end Sys2Proof.Machine
end

