-- ==== Sys2Proof/Machine/Ops.lean ====
section
/-! DEFINITION. The operations the commands share: records changed, notices routed, displays written,
archive records queued and staged, seats released and filled, candidates finished and collected. -/

namespace Sys2Proof.Machine

/-! ## Records changed -/

/-- The records of a seat number changed. -/
def State.mapSeat (s : State) (n : Nat) (f : Seat → Seat) : State :=
  { s with hall := { s.hall with seats := s.hall.seats.map (fun x => if x.seat = n then f x else x) } }

/-- The record of a sitting number changed. -/
def State.mapSitting (s : State) (n : Nat) (f : Sitting → Sitting) : State :=
  { s with hall := { s.hall with sittings := s.hall.sittings.map (fun x => if x.number = n then f x else x) } }

/-- The candidate record at an index changed. -/
def State.mapCand (s : State) (i : Nat) (f : Cand → Cand) : State :=
  { s with hall := { s.hall with cands := s.hall.cands.modify i f } }

/-- The custody entry of a tag changed. -/
def State.mapEntry (s : State) (t : Nat) (f : Custody → Custody) : State :=
  { s with custody := s.custody.map (fun e => if e.script = t then f e else e) }

/-- An assembly slot changed. -/
def State.mapSlot (s : State) (i : Nat) (f : Slot → Slot) : State :=
  { s with marking := { s.marking with slots := s.marking.slots.modify i f } }

/-- The batch state changed. -/
def State.mapBatch (s : State) (f : Batch → Batch) : State :=
  { s with marking := { s.marking with batch := f s.marking.batch } }

/-- A port's state. -/
def Links.port (l : Links) : Port → PortState
  | .desk .d0 => l.d0
  | .desk .d1 => l.d1
  | .desk .d2 => l.d2
  | .desk .d3 => l.d3
  | .g => l.g
  | .k => l.k

/-- A port's state replaced. -/
def Links.set (l : Links) (p : Port) (v : PortState) : Links :=
  match p with
  | .desk .d0 => { l with d0 := v }
  | .desk .d1 => { l with d1 := v }
  | .desk .d2 => { l with d2 := v }
  | .desk .d3 => { l with d3 := v }
  | .g => { l with g := v }
  | .k => { l with k := v }

/-- A port's state. -/
def State.port (s : State) (p : Port) : PortState := s.links.port p

/-- A port's state changed. -/
def State.mapPort (s : State) (p : Port) (f : PortState → PortState) : State :=
  { s with links := s.links.set p (f (s.links.port p)) }

/-! ## Notices (R170, R171) -/

/-- A notice joins a port's queue, or is dropped with NOTICES_LOST set when the queue is full (R171). -/
def PortState.notify (ps : PortState) (n : Notice) : PortState :=
  if ps.notices.length < Config.noticeQueueSize then { ps with notices := ps.notices ++ [n] }
  else { ps with lostFlag := true }

/-- A notice routed to one port. -/
def State.notify (s : State) (p : Port) (n : Notice) : State := s.mapPort p (fun ps => ps.notify n)

/-- The four desks, in port order. -/
def allDesks : List Desk := [.d0, .d1, .d2, .d3]

/-- A notice routed to the desks a test picks, one copy each. -/
def State.notifyWhere (s : State) (q : Desk → Bool) (n : Notice) : State :=
  allDesks.foldl (fun t d => if q d then t.notify (.desk d) n else t) s

/-- A notice routed to zone desks and chief (R170). -/
def State.notifyZone (s : State) (zone : Nat) (n : Notice) : State :=
  s.notifyWhere (fun d => s.deskPasses d zone) n

/-- A notice routed to every desk (R170). -/
def State.notifyDesks (s : State) (n : Notice) : State := s.notifyWhere (fun _ => true) n

/-! ## Display records (R50) -/

/-- A write to a seat's display record: it marks the seat owed whatever it writes (R50). -/
def State.writeDisplay (s : State) (n : Nat) (f : Display → Display) : State :=
  s.mapSeat n (fun x => { x with display := f x.display, owed := true })

/-- A write that carries a code: the code, its argument, and the next code sequence (R50). -/
def Display.withCode (d : Display) (c : DispCode) (arg : Nat) : Display :=
  { d with code := c, arg := arg, codeSeq := (d.codeSeq + 1) % 256 }

/-- A code written over whatever the record holds (R84, R103). -/
def State.writeCode (s : State) (n : Nat) (c : DispCode) (arg : Nat) : State :=
  s.writeDisplay n (fun d => d.withCode c arg)

/-- A display record with a code when the write carries one (R69); the code's argument is 0.
(DEDUCED, log 47.) -/
def Display.withCode? (d : Display) : Option DispCode → Display
  | none => d
  | some k => d.withCode k 0

/-- The Clock Unit's write for candidate `i` to the display of seat `n` (R69): the mode, the remaining time,
the number and the lock by the candidate's state, with a code when the cause has one.  For a candidate in a
state that has no seat, a code is written alone (R68). -/
def State.showAt (s : State) (n i : Nat) (code : Option DispCode) : State :=
  match (s.cand? i).bind (fun c => c.shown (s.held c.sitting)), code with
  | some (mode, rem, num, lock), _ =>
    s.writeDisplay n (fun d =>
      { d with mode := mode, remaining := rem, number := num, lock := lock }.withCode? code)
  | none, some k => s.writeCode n k 0
  | none, none => s

/-- The Clock Unit's write of a seated candidate's display (R69), with a code when its cause has one. -/
def State.showCand (s : State) (i : Nat) (code : Option DispCode := none) : State :=
  match (s.cand? i).bind (fun c => c.seat) with
  | none => s
  | some n => s.showAt n i code

/-- The lamp of a seat put out (R93). (DEDUCED, log 20.) -/
def State.lampOff (s : State) (o : Option Nat) : State :=
  match o with
  | none => s
  | some n => s.writeDisplay n (fun d => { d with lamp := false })

/-! ## The archive queue and the plane pipelines (R147, R148, R149) -/

/-- A plane. -/
def Archive.plane (a : Archive) : PlaneId → Plane
  | .p0 => a.p0
  | .p1 => a.p1

/-- A plane replaced. -/
def Archive.setPlane (a : Archive) (p : PlaneId) (v : Plane) : Archive :=
  match p with
  | .p0 => { a with p0 := v }
  | .p1 => { a with p1 := v }

/-- The lowest-numbered block of a plane in a state. -/
def Plane.findBlock (pl : Plane) (st : BlockState) : Option Nat :=
  pl.blocks.findIdx? (fun b => decide (b.state = st))

/-- How many blocks of a plane are in a state. -/
def Plane.countBlocks (pl : Plane) (st : BlockState) : Nat :=
  (pl.blocks.filter (fun b => decide (b.state = st))).length

/-- A block table entry changed. -/
def Plane.mapBlock (pl : Plane) (b : Nat) (f : Block → Block) : Plane :=
  { pl with blocks := pl.blocks.modify b f }

/-- A record stands in one of a plane's buffers. -/
def Plane.buffered (pl : Plane) (r : ArchRecord) : Bool :=
  pl.staging.any (fun x => x.seq == r.seq) || pl.progBuf.any (fun x => x.seq == r.seq)

/-- The oldest queued record of a plane that is in neither of its buffers (R149). -/
def Archive.nextToStage (a : Archive) (p : PlaneId) : Option ArchRecord :=
  a.queue.find? (fun r => decide (planeOf r.seq = p) && !(a.plane p).buffered r)

/-- Staging filled when it is empty (R149). -/
def Archive.fillStaging (a : Archive) (p : PlaneId) : Archive :=
  match (a.plane p).staging with
  | some _ => a
  | none => a.setPlane p { a.plane p with staging := a.nextToStage p }

/-- The staged record moved into an empty program buffer, and staging filled again (R149). -/
def Archive.fillProgram (a : Archive) (p : PlaneId) : Archive :=
  match (a.plane p).progBuf, (a.plane p).staging with
  | none, some r => (a.setPlane p { a.plane p with progBuf := some r, staging := none }).fillStaging p
  | _, _ => a

/-- A program begun when the program buffer holds a record not being programmed, the plane has an OPEN
block, and no erase is accepted or running in the plane (R149, R156). -/
def Archive.startProgram (a : Archive) (p : PlaneId) : Archive :=
  let pl := a.plane p
  match pl.run, pl.progBuf, pl.findBlock .opened, pl.findBlock .erasing with
  | .none, some _, some b, none =>
    a.setPlane p { pl with run := .record b ((pl.blocks[b]?.map (fun x => x.used)).getD 0) }
  | _, _, _, _ => a

/-- The pipeline of a plane brought up to date, in the event that makes it possible (R149). -/
def Archive.pump (a : Archive) (p : PlaneId) : Archive :=
  ((a.fillStaging p).fillProgram p).startProgram p

/-- The notice a plane that the scan left STALLED owes at its first record (R153), stamped with the hall
time at which the event was taken (R1). -/
def State.stallAlertAt (s : State) (p : PlaneId) (now : Nat := s.hall.time) : State :=
  let pl := s.arch.plane p
  if pl.stallAlertDue then
    let s' := { s with arch := s.arch.setPlane p { pl with stallAlertDue := false } }
    if pl.stalled then
      s'.notify .g (.archiveAlert (.stalled (planeNo p) (pl.countBlocks .retired)) now)
    else s'
  else s

/-- A record queued: it takes the sequence counter's value and the lost-record count, joins the tail,
and its plane's pipeline takes what it can (R147, R149).
(DESIGN CHOICE, log 35: the counter is not bounded.) -/
def State.enqueue (s : State) (kind : RecordKind) (body : List Field) (now : Nat := s.hall.time) : State :=
  let a := s.arch
  let r : ArchRecord := { seq := a.seqCounter, kind := kind, gap := a.lost, body := body }
  let p := planeOf r.seq
  let a' := { a with queue := a.queue ++ [r], seqCounter := a.seqCounter + 1, lost := 0 }
  ({ s with arch := a'.pump p }).stallAlertAt p now

/-- A non-result record dropped for want of a queue entry (R148). -/
def State.dropRecord (s : State) (kind : RecordKind) (now : Nat := s.hall.time) : State :=
  let n := min 65535 (s.arch.lost + 1)
  ({ s with arch := { s.arch with lost := n } }).notify .g (.archiveAlert (.lost kind n) now)

/-- A non-result record offered to the queue: queued, or dropped and counted lost (R147, R148).  A notice
it makes is stamped with the hall time at which the event was taken, `now`: where the event has set hall
time before the offer, that is the hall time before it (R1). -/
def State.offer (s : State) (kind : RecordKind) (body : List Field) (now : Nat := s.hall.time) : State :=
  if s.arch.canTake then s.enqueue kind body now else s.dropRecord kind now

/-- The current session number as a record carries it. -/
def State.sessionField (s : State) : Field := optField 2 s.hall.sessionNo

/-- The hall time as a record carries it. -/
def State.timeField (s : State) : Field := ⟨4, s.hall.time⟩

/-! ## Candidate states and the sitting tests (R19, R78, R79) -/

/-- A candidate's state changed, and the sitting's counts by state moved with it (R19). -/
def State.setCandState (s : State) (i : Nat) (new : CandState) : State :=
  match s.cand? i with
  | none => s
  | some c =>
    (s.mapCand i (fun c => { c with state := new })).mapSitting c.sitting
      (fun x => { x with counts := (x.counts.dec c.state).inc new })

/-- The body of a SITTING_CLOSE record (R79). -/
def State.sittingCloseBody (s : State) (x : Sitting) : List Field :=
  s.sessionField :: ⟨1, x.number⟩ :: x.counts.fields
    ++ [⟨2, x.sel⟩, ⟨4, x.pauseAcc⟩, markField x.disrupted, s.timeField]

/-- The CLOSED test (R79). -/
def State.closedTest (s : State) (n : Nat) : State :=
  match s.sitting? n with
  | none => s
  | some x =>
    if x.state = .collecting ∧ x.counts.finished = 0 then
      (s.mapSitting n (fun y => { y with state := .closed })).offer .sittingClose (s.sittingCloseBody x)
    else s

/-- The COLLECTING test (R78), the CLOSED test following in the same event. -/
def State.sittingTests (s : State) (n : Nat) : State :=
  match s.sitting? n with
  | none => s
  | some x =>
    if x.state = .writing ∧ x.counts.nobodyLeft then
      (s.mapSitting n (fun y => { y with state := .collecting, admission := false })).closedTest n
    else s.closedTest n

/-! ## The end of a rest (R22, R73, R90) -/

/-- A candidate marked as one whose rest has ended in the second now passing (R73, log 48). -/
def State.markRestEnded (s : State) (i : Nat) : State :=
  { s with clock := { s.clock with restEnded := s.clock.restEnded ++ [i] } }

/-- A RESTING candidate of a sitting returns to WRITING, its display written with the code its cause has, if
any (R22, R73, R90).  It consumes no writing time in the second in which its rest ends (R73): the one that
passes next. (DEDUCED, log 48.) -/
def State.leaveRest (s : State) (i n : Nat) (code : Option DispCode) : State :=
  (((s.setCandState i .writing).showCand i code).markRestEnded i).sittingTests n

/-! ## Seats released and filled (R30, R37) -/

/-- A seat released: no occupant, no waiver, an empty keypad buffer, a blank display, owed (R37). -/
def Seat.release (x : Seat) : Seat :=
  { x with occupant := none, waiver := false, keys := [], display := {}, owed := true }

/-- A candidate's seat released, and the candidate's record without it (R37). -/
def State.releaseCand (s : State) (i : Nat) : State :=
  match (s.cand? i).bind (fun c => c.seat) with
  | none => s
  | some n => (s.mapSeat n Seat.release).mapCand i (fun c => { c with seat := none })

/-- What a placement by a run or by an ADMIT shows: PLACED with the last four digits, no code, the
lamp off, the lock clear (R30); the argument and the remaining time are 0, and the code sequence is not a
write's and stays. (DEDUCED, log 33.) -/
def Display.placedFor (d : Display) (c : Cand) : Display :=
  { d with group := some c.sitting, mode := .placed, remaining := 0, number := lastFour c.number,
           code := .none, arg := 0, lamp := false, lock := false }

/-- A candidate placed on a seat: both sides of the occupancy, the keypad buffer emptied, the display
record given its content, the seat owed (R30). -/
def State.place (s : State) (i n : Nat) (content : Display → Display) : State :=
  (s.mapSeat n (fun x => { x with occupant := some i, keys := [], display := content x.display,
                                  owed := true })).mapCand i (fun c => { c with seat := some n })

/-! ## Collection and finishing (R94, R109, R110) -/

/-- The entries that name a candidate, in list order (R110). -/
def State.entriesOf (s : State) (i : Nat) : List Custody :=
  s.custody.filter (fun e => decide (e.cand = some i))

/-- The body of a CUSTODY_CLOSE record (R110, R183). -/
def State.custodyCloseBody (s : State) (i : Nat) (c : Cand) (amended : Bool) : List Field :=
  let es := s.entriesOf i
  [s.sessionField, ⟨1, c.sitting⟩, ⟨4, c.number⟩, ⟨2, i⟩, ⟨1, CandState.code c.state⟩,
    ⟨1, causeCode c.cause⟩, ⟨2, c.entitled⟩, ⟨2, c.consumed⟩, ⟨2, c.restUsed⟩,
    ⟨1, flagsValue [c.late, c.lateOverride, c.nilScript, c.exitClosed, amended]⟩,
    ⟨2, c.issued⟩, ⟨2, c.returned⟩, ⟨2, es.length⟩, s.timeField]
    ++ ((es.take 12).map (fun e => [Field.mk 4 e.script, Field.mk 1 (TagState.code e.state)])).flatten

/-- A CUSTODY_CLOSE record offered for a candidate as its record stands (R109, R110). -/
def State.offerCustodyClose (s : State) (i : Nat) (amended : Bool) : State :=
  match s.cand? i with
  | none => s
  | some c => s.offer .custodyClose (s.custodyCloseBody i c amended)

/-- The candidate is FINISHED and no entry names it in ISSUED (R109). -/
def State.collectable (s : State) (i : Nat) : Bool :=
  match s.cand? i with
  | none => false
  | some c => decide (c.state = .finished) && (s.entriesOf i).all (fun e => decide (e.state ≠ .issued))

/-- The collection test (R109). -/
def State.collectionTest (s : State) (i : Nat) : State :=
  if s.collectable i then
    match s.cand? i with
    | none => s
    | some c =>
      let nil := (s.entriesOf i).all (fun e => decide (e.state = .void))
      ((((s.setCandState i .collected).mapCand i (fun c => { c with nilScript := c.nilScript || nil })).releaseCand
        i).offerCustodyClose i false).sittingTests c.sitting
  else s

/-- The COLLECT notice of a finished candidate (R72). (DEDUCED, log 37.) -/
def State.notifyCollect (s : State) (i : Nat) : State :=
  match s.cand? i with
  | none => s
  | some c =>
    match c.seat.bind s.seat? with
    | none => s
    | some x =>
      s.notifyZone x.zone (.collect x.seat c.number c.cause c.issued c.returned s.hall.time)

/-- How many remaining cues the candidate's sitting has. -/
def State.remainingCount (s : State) (c : Cand) : Nat :=
  ((s.sitting? c.sitting).map (fun x => x.remainingCues.length)).getD 0

/-- A candidate finished: FINISHED with its cause, the pointer past every cue, the display FINISHED and
locked, COLLECT, the collection test, the sitting tests (R72, R94). -/
def State.finishCand (s : State) (i : Nat) (cause : FinishCause) : State :=
  match s.cand? i with
  | none => s
  | some c =>
    let len := s.remainingCount c
    (((((s.setCandState i .finished).mapCand i
      (fun c => { c with cause := some cause, cuePtr := max c.cuePtr len })).showCand i).notifyCollect
        i).collectionTest i).sittingTests c.sitting

/-! ## Replies -/

/-- What judging a command gives: the state after it, the result code and the reply's fields (R169). -/
structure Answer where
  state : State
  result : ResultCode
  fields : List Field

/-- A command refused with nothing changed and the result code alone (R169). -/
def refuse (s : State) (r : ResultCode) : Answer := ⟨s, r, []⟩

/-- A command answered OK. -/
def okay (s : State) (fields : List Field := []) : Answer := ⟨s, .ok, fields⟩

end Sys2Proof.Machine
end

