-- ==== Sys2Proof/Machine/Allocation.lean ====
section
/-! DEFINITION. Chapter 2: the allocation run and its turns, MOVE and SEAT_SERVICE. -/

namespace Sys2Proof.Machine

/-! ## Serpentine order (R27) -/

/-- Where a seat stands in its zone's serpentine order: by row, and within an odd row by column
ascending, within an even row by column descending. -/
def Seat.serpentine (x : Seat) : Nat :=
  x.row * 64 + (if x.row % 2 = 1 then x.column else 33 - x.column)

/-- A seat put in its place in serpentine order. -/
def insertSerpentine (x : Seat) : List Seat → List Seat
  | [] => [x]
  | y :: ys => if x.serpentine < y.serpentine then x :: y :: ys else y :: insertSerpentine x ys

/-- A zone's serpentine order: its defined seats, whatever their kind and service. -/
def State.serpentine (s : State) (zone : Nat) : List Seat :=
  (s.hall.seats.filter (fun x => x.zone == zone)).foldl (fun l x => insertSerpentine x l) []

/-! ## A turn (R28, R29) -/

/-- The kind of seat a pass places on. -/
def Pass.kind : Pass → SeatKind
  | .access => .access
  | .standard => .standard

/-- A seat qualifies for a candidate of the run sitting in a pass (R28). -/
def State.qualifies (s : State) (sitting : Nat) (pass : Pass) (x : Seat) : Bool :=
  x.occupant.isNone && decide (x.service = .inService) && decide (x.kind = pass.kind)
    && !s.neighbourOf x sitting none

/-- Seats examined in order from a fill position on: the first that passes, and the position after the
last seat examined (R27). -/
def State.searchFrom (s : State) (sitting : Nat) (pass : Pass) : List Seat → Nat → Option Nat × Nat
  | [], k => (none, k)
  | x :: xs, k =>
    if s.qualifies sitting pass x then (some x.seat, k + 1) else s.searchFrom sitting pass xs (k + 1)

/-- The fill position of a zone of the list for the current pass (R27). -/
def Alloc.fill (a : Alloc) (j : Nat) : Nat :=
  match a.pass with
  | .access => a.accessFill.getD j 0
  | .standard => a.standardFill.getD j 0

/-- The fill position of a zone of the list moved. -/
def Alloc.setFill (a : Alloc) (j v : Nat) : Alloc :=
  match a.pass with
  | .access => { a with accessFill := a.accessFill.set j v }
  | .standard => { a with standardFill := a.standardFill.set j v }

/-- Zones tried in order, by their places in the list: the first seat found with its zone's place, or
none; each zone searched moves its fill position, and one that finds nothing is dropped (R29). -/
def State.tryZones (s : State) (sitting : Nat) (zones : List Nat) : List Nat → Alloc → Option (Nat × Nat) × Alloc
  | [], a => (none, a)
  | j :: js, a =>
    if a.dropped.getD j false then s.tryZones sitting zones js a
    else
      let found := s.searchFrom sitting a.pass ((s.serpentine (zones.getD j 0)).drop (a.fill j)) (a.fill j)
      let a' := a.setFill j found.2
      match found.1 with
      | some n => (some (n, j), a')
      | none => s.tryZones sitting zones js { a' with dropped := a'.dropped.set j true }

/-- The zones of a list of `k` from the cursor on, wrapping (R29). -/
def zonesFrom (cursor k : Nat) : List Nat := (List.range k).map (fun t => (cursor + t) % k)

/-! ## Whose turn it is (R26) -/

/-- A candidate a run gives a turn to in a pass: EXPECTED with no seat, of the pass's need, and of a
number above the last one that had a turn. -/
def Cand.awaits (c : Cand) (sitting : Nat) (pass : Pass) (after : Nat) : Bool :=
  c.sitting == sitting && decide (c.state = .expected) && c.seat.isNone
    && (c.access == decide (pass = .access)) && decide (after < c.number)

/-- The lower candidate number of two candidates that may be none. -/
def lowerNumber (best : Option Cand) (c : Cand) : Option Cand :=
  match best with
  | none => some c
  | some b => if c.number < b.number then some c else some b

/-- The candidate of lowest number that awaits its turn in a pass. -/
def State.nextTurn (s : State) (sitting : Nat) (pass : Pass) (after : Nat) : Option Cand :=
  (s.hall.cands.filter (fun c => c.awaits sitting pass after)).foldl lowerNumber none

/-- How many candidates of the run sitting have had no turn (R31, R33). -/
def State.turnsLeft (s : State) (sitting : Nat) (a : Alloc) : Nat :=
  let count := fun pass after => (s.hall.cands.filter (fun c => c.awaits sitting pass after)).length
  match a.pass with
  | .access => count .access a.lastTurn + count .standard 0
  | .standard => count .standard a.lastTurn

/-! ## The run (R25, R31) -/

/-- The end of a run: ALLOC_DONE to G, the sitting's mark cleared, no run (R31). -/
def State.endRun (s : State) (sitting : Nat) (aborted : Bool) : State :=
  let un := s.alloc.unplaced + s.turnsLeft sitting s.alloc
  let s' := s.mapSitting sitting (fun x => { x with inFlight := false })
  { s' with alloc := { s.alloc with running := false, sitting := none, unplaced := un } }.notify .g
    (.allocDone sitting s.alloc.placed un aborted s.hall.time)

/-- The change to the STANDARD pass when no ACCESS-need candidate is left without a turn (R26); it is made
at the start of the turn that finds none left. (DESIGN CHOICE, log 44.) -/
def State.settlePass (s : State) (sitting : Nat) (a : Alloc) : Alloc :=
  if a.pass = .access ∧ (s.nextTurn sitting .access a.lastTurn).isNone then
    { a with pass := .standard, dropped := a.dropped.map (fun _ => false), lastTurn := 0 }
  else a

/-- A seat found for a candidate in its turn: the placement, and the cursor at the zone after the one
used (R29, R30). -/
def State.placeTurn (s : State) (c : Cand) (seat j zones : Nat) (a : Alloc) : State :=
  let s' := match s.findCand c.number with
    | some i => s.place i seat (fun d => d.placedFor c)
    | none => s
  { s' with alloc := { a with placed := a.placed + 1, cursor := (j + 1) % zones, lastTurn := c.number } }

/-- One turn given to a candidate (R29). -/
def State.giveTurn (s : State) (x : Sitting) (c : Cand) (a : Alloc) : State :=
  let k := x.zones.length
  match s.tryZones x.number x.zones (zonesFrom a.cursor k) a with
  | (some (seat, j), a') => s.placeTurn c seat j k a'
  | (none, a') => { s with alloc := { a' with unplaced := a'.unplaced + 1, lastTurn := c.number } }

/-- The run ends in the event of its last turn (R31). -/
def State.endIfDone (s : State) (sitting : Nat) : State :=
  if s.turnsLeft sitting s.alloc = 0 then s.endRun sitting false else s

/-- The next turn of the run in flight (R26, R29, R31). -/
def State.allocationTurn (s : State) : State :=
  match s.alloc.running, s.alloc.sitting.bind s.sitting? with
  | true, some x =>
    let a := s.settlePass x.number s.alloc
    match s.nextTurn x.number a.pass a.lastTurn with
    | some c => (s.giveTurn x c a).endIfDone x.number
    | none => s.endRun x.number false
  | _, _ => s

/-- ALLOCATION_TURN (R29): with no run in flight there is no turn. -/
def execAllocationTurn (s : State) : Host.Outcome State Fault Refusal := .next s.allocationTurn

/-- ALLOCATE (R25); a run with no candidate to visit ends at once (R31). -/
def cmdAllocate (sitting : Nat) (s : State) : Answer :=
  if ¬ sittingOk sitting then refuse s .range
  else
    match s.sitting? sitting with
    | none => refuse s .notFound
    | some x =>
      if s.alloc.running then refuse s .busy
      else if x.state ≠ .defined ∧ x.state ≠ .opened then refuse s .state
      else
        let k := x.zones.length
        let a : Alloc :=
          { running := true, sitting := some sitting, pass := .access, cursor := 0,
            accessFill := List.replicate k 0, standardFill := List.replicate k 0,
            dropped := List.replicate k false }
        let s' := s.mapSitting sitting (fun y => { y with inFlight := true })
        ⟨{ s' with alloc := a }.endIfDone sitting, .accepted, []⟩

/-- ALLOC_ABORT (R33). -/
def cmdAllocAbort (s : State) : Answer :=
  match s.alloc.running, s.alloc.sitting with
  | true, some n => okay ({ s with alloc := { s.alloc with abort := true } }.endRun n true)
  | _, _ => refuse s .state

/-! ## MOVE (R34 to R36) -/

/-- A candidate MOVE moves (R34). -/
def Cand.movable (c : Cand) : Bool :=
  match c.state with
  | .expected | .admitted | .writing | .resting | .finished => true
  | .collected | .absent | .withdrawn => false

/-- What t's display record takes from u's: every field but the group and the lamp (R36). -/
def Display.movedFor (u : Display) (c : Cand) : Display :=
  { u with group := some c.sitting, lamp := false }

/-- What t's display record takes where the moved candidate had no seat: the group (R30) and the mode PLACED
with the last four digits (R36).  The write carries no code, so the code, the argument and the code sequence
stay as they are (R50), and R36 names no other field. -/
def Display.movedIn (d : Display) (c : Cand) : Display :=
  { d with group := some c.sitting, mode := .placed, number := lastFour c.number }

/-- A MOVE taken: the old seat released, the new one filled, its waiver set where the move breached
adjacency (R36). -/
def State.moveCand (s : State) (i : Nat) (c : Cand) (t : Nat) (breach : Bool) : State :=
  let s' :=
    match c.seat.bind s.seat? with
    | some u => (s.mapSeat u.seat Seat.release).place i t (fun _ => u.display.movedFor c)
    | none => s.place i t (fun d => d.movedIn c)
  if breach then s'.mapSeat t (fun x => { x with waiver := true }) else s'

/-- MOVE's own tests and effects, after screening (R34, R35). -/
def moveScreened (i : Nat) (c : Cand) (x : Seat) (waiver : Nat) (s : State) : Answer :=
  let breach := s.neighbourOf x c.sitting c.seat
  if s.inFlight c.sitting then refuse s .busy
  else if ¬ c.movable then refuse s .state
  else if ¬ x.target then refuse s .state
  else if breach ∧ waiver = 0 then refuse s .adjacent
  else okay (s.moveCand i c x.seat breach) [optField 2 c.seat, ⟨2, x.seat⟩]

/-- MOVE (R34).  Passing zone screening puts out the lamp of the candidate's seat (R93). -/
def cmdMove (p : Port) (number seat waiver : Nat) (s : State) : Answer :=
  if ¬ numberOk number ∨ ¬ seatOk seat ∨ ¬ markOk waiver then refuse s .range
  else
    match (s.findCand number).bind (fun i => (s.cand? i).map (fun c => (i, c))), s.seat? seat with
    | some (i, c), some x =>
      if s.passes p x.zone ∧ (c.seat.isNone ∨ s.passes p (s.candZone c)) then
        let s' := s.lampOff c.seat
        moveScreened i c ((s'.seat? seat).getD x) waiver s'
      else refuse s .zone
    | _, _ => refuse s .notFound

/-! ## SEAT_SERVICE (R38) -/

/-- A seat's service changed: the miss count is cleared, and a FAULTY seat's fault mark (R38). -/
def Seat.setService (x : Seat) (v : Service) : Seat :=
  if x.service = v then x
  else { x with service := v, miss := 0,
                faultMark := if x.service = .faulty then none else x.faultMark }

/-- SEAT_SERVICE (R38): direction 0 is IN and 1 is OUT. -/
def cmdSeatService (p : Port) (seat direction : Nat) (s : State) : Answer :=
  if ¬ seatOk seat ∨ 1 < direction then refuse s .range
  else
    match s.seat? seat with
    | none => refuse s .notFound
    | some x =>
      if ¬ s.passes p x.zone then refuse s .zone
      else if s.alloc.running then refuse s .busy
      else if direction = 1 ∧ x.occupant.isSome then refuse s .state
      else
        let v : Service := if direction = 1 then .outOfService else .inService
        okay (s.mapSeat seat (fun y => y.setService v)) [⟨1, Service.code v⟩]

end Sys2Proof.Machine
end

