-- ==== Sys2Proof/Machine/Archive.lean ====
section
/-! DEFINITION. Chapter 9: programs, retirement and stalls, erases, the power-up scan, reads, exports and
the archive's status. -/

namespace Sys2Proof.Machine

/-- The Result Archive changed. -/
def State.mapArch (s : State) (f : Archive → Archive) : State := { s with arch := f s.arch }

/-- A plane changed. -/
def State.mapPlane (s : State) (p : PlaneId) (f : Plane → Plane) : State :=
  s.mapArch (fun a => a.setPlane p (f (a.plane p)))

/-- The archive's memory changed. -/
def State.mapMem (s : State) (f : List Host.Cell → List Host.Cell) : State :=
  s.mapArch (fun a => { a with mem := f a.mem })

/-- A plane's pipeline brought up to date (R149). (DEDUCED, log 16.) -/
def State.pump (s : State) (p : PlaneId) : State := s.mapArch (fun a => a.pump p)

/-- The status marks move (R150, R151). -/
def Plane.shift (pl : Plane) (m : Mark) : Plane := { pl with prev := pl.cur, cur := m }

/-- A block opened: it takes the plane's next record (R145). -/
def Block.opened (_ : Block) : Block := { state := .opened }

/-- The plane's lowest-numbered ERASED block opened, or the plane STALLED with its notice (R150, R151,
R153).  Either way a notice owed from the power-up scan is owed no longer: the plane is no longer the one
the scan left STALLED. -/
def State.openOrStall (s : State) (p : PlaneId) : State :=
  let pl := s.arch.plane p
  match pl.findBlock .erased with
  | some b => s.mapPlane p (fun q => { q.mapBlock b Block.opened with stalled := false, stallAlertDue := false })
  | none =>
    (s.mapPlane p (fun q => { q with stalled := true, stallAlertDue := false })).notify .g
      (.archiveAlert (.stalled (planeNo p) (pl.countBlocks .retired)) s.hall.time)

/-! ## Programs (R149 to R152) -/

/-- PROGRAM_START (R149): the buffers are filled and a program begins, as far as that is possible. -/
def execProgramStart (p : PlaneId) (s : State) : Host.Outcome State Fault Refusal := .next (s.pump p)

/-- A block table entry after the program of a record into a page (R150). -/
def Block.stored (b : Block) (page seq : Nat) : Block :=
  { b with used := page + 1, first := if page = 0 then some seq else b.first, highest := some seq,
           state := if page = Config.lastRecordPage then .full else b.state }

/-- The queue without a record (R147). -/
def freeEntry (queue : List ArchRecord) (seq : Nat) : List ArchRecord := queue.filter (fun r => r.seq != seq)

/-- A program that ends with PASS (R150). -/
def State.programPass (s : State) (p : PlaneId) (b page : Nat) (r : ArchRecord) : State :=
  let s1 := s.mapMem (fun m => programPage m p b page r.page)
  let s2 := s1.mapPlane p (fun pl =>
    { (pl.shift .pass).mapBlock b (fun x => x.stored page r.seq) with run := .none, progBuf := none })
  let s3 := s2.mapArch (fun a =>
    { a with lastStored := max a.lastStored r.seq, queue := freeEntry a.queue r.seq })
  (if page = Config.lastRecordPage then s3.openOrStall p else s3).pump p

/-- PROGRAM_PASS (R150): with no program of a record running in the plane, none ends. -/
def execProgramPass (p : PlaneId) (s : State) : Host.Outcome State Fault Refusal :=
  match (s.arch.plane p).run, (s.arch.plane p).progBuf with
  | .record b page, some r => .next (s.programPass p b page r)
  | _, _ => .next s

/-- A block table entry after a failed program (R151). -/
def Block.failedAt (b : Block) (page seq : Nat) : Block :=
  { b with state := .retired, used := page + 1, failed := some seq }

/-- A disturbance counted: the next free values of Config are fresh (logs 10, 11, 38). -/
def State.disturb (s : State) : State := s.mapArch (fun a => { a with disturbances := a.disturbances + 1 })

/-- A program that ends with FAIL (R151); the tail program waits where an erase is accepted (R156). -/
def State.programFail (s : State) (p : PlaneId) (b page : Nat) (r : ArchRecord) : State :=
  let event := s.arch.disturbances
  let waits := ((s.arch.plane p).findBlock .erasing).isSome
  let s1 := (s.mapMem (fun m => programPage m p b page (tornPage event page))).disturb
  let s2 := s1.mapPlane p (fun pl =>
    { (pl.shift .fail).mapBlock b (fun x => x.failedAt page r.seq) with
        run := if waits then .tailDue b else .tail b })
  s2.notify .g (.archiveAlert (.programFail (planeNo p) b page r.seq) s.hall.time)

/-- PROGRAM_FAIL (R151). -/
def execProgramFail (p : PlaneId) (s : State) : Host.Outcome State Fault Refusal :=
  match (s.arch.plane p).run, (s.arch.plane p).progBuf with
  | .record b page, some r => .next (s.programFail p b page r)
  | _, _ => .next s

/-- The failed sequence a block's table entry holds, 0 for none. -/
def Plane.failedSeq (pl : Plane) (b : Nat) : Nat := ((pl.blocks[b]?).bind (fun x => x.failed)).getD 0

/-- The tail page after a tail program (R151, R152). -/
def State.tailProgrammed (s : State) (p : PlaneId) (b : Nat) (pass : Bool) : State :=
  let seq := (s.arch.plane p).failedSeq b
  if pass then s.mapMem (fun m => programPage m p b Config.tailPage (retireMark seq))
  else
    ((s.mapMem (fun m =>
      programPage m p b Config.tailPage (tornPage s.arch.disturbances Config.tailPage))).disturb).notify .g
        (.archiveAlert (.retireFail (planeNo p) b seq) s.hall.time)

/-- A tail program that ends (R151, R152): the marks move, a block is opened for the failed record or the
plane stalls, and the record is programmed again. -/
def State.retireEnd (s : State) (p : PlaneId) (b : Nat) (pass : Bool) : State :=
  let s1 := s.tailProgrammed p b pass
  let s2 := s1.mapPlane p (fun pl => { pl.shift (if pass then .pass else .fail) with run := .none })
  (s2.openOrStall p).pump p

/-- RETIRE_MARK_END (R151, R152). -/
def execRetireMarkEnd (p : PlaneId) (pass : Bool) (s : State) : Host.Outcome State Fault Refusal :=
  match (s.arch.plane p).run with
  | .tail b => .next (s.retireEnd p b pass)
  | _ => .next s

/-! ## Erases (R156) -/

/-- No program, of a record or of a tail, runs in a plane. -/
def Run.quiet : Run → Bool
  | .none | .tailDue _ => true
  | .record _ _ | .tail _ => false

/-- ERASE_START (R156): an accepted erase begins once no program is running in its plane.
(DESIGN CHOICE, log 17.) -/
def execEraseStart (p : PlaneId) (s : State) : Host.Outcome State Fault Refusal :=
  match (s.arch.plane p).findBlock .erasing, (s.arch.plane p).run.quiet with
  | some _, true => .next (s.mapPlane p (fun pl => { pl with eraseBegun := true }))
  | _, _ => .next s

/-- The waiting programs of a plane begin (R156). -/
def State.resumePrograms (s : State) (p : PlaneId) : State :=
  (s.mapPlane p (fun pl =>
    { pl with run := match pl.run with
                     | .tailDue b => .tail b
                     | r => r })).pump p

/-- An erase that ends with PASS (R156, R153). -/
def State.erasePass (s : State) (p : PlaneId) (b : Nat) : State :=
  let s1 := s.mapMem (fun m => eraseBlock m p b)
  let s2 := s1.mapPlane p (fun pl =>
    { pl.mapBlock b (fun _ => { state := .erased }) with eraseBegun := false })
  (if (s.arch.plane p).stalled then s2.openOrStall p else s2).resumePrograms p

/-- An erase that ends with FAIL (R156). -/
def State.eraseFail (s : State) (p : PlaneId) (b : Nat) : State :=
  let s1 := (s.mapMem (fun m => disturbBlock p b s.arch.disturbances m)).disturb
  let s2 := s1.mapPlane p (fun pl =>
    { pl.mapBlock b (fun _ => { state := .retired, used := 31 }) with eraseBegun := false })
  (s2.notify .g (.archiveAlert (.eraseFail (planeNo p) b) s.hall.time)).resumePrograms p

/-- ERASE_END (R156): the end of the plane's erase, which has begun when no program runs (log 17). -/
def execEraseEnd (p : PlaneId) (pass : Bool) (s : State) : Host.Outcome State Fault Refusal :=
  match (s.arch.plane p).findBlock .erasing, (s.arch.plane p).run.quiet with
  | some b, true => .next (if pass then s.erasePass p b else s.eraseFail p b)
  | _, _ => .next s

/-! ## The power-up scan (R158 to R160) -/

/-- The record pages 0..30 of a block, and its tail. -/
def blockPages (m : List Host.Cell) (p : PlaneId) (b : Nat) : List (List Byte) :=
  (List.range Config.tailPage).map (fun pg => readPage m p b pg)

/-- A block classified by its contents, by the first line of R159's table that fits it.
(DEDUCED, log 27.) -/
def classifyBlock (pages : List (List Byte)) (tail : List Byte) : Block :=
  let seqs := (pages.filter pageValid).map pageSeq
  let first := seqs.head?
  let highest := seqs.foldl (fun h q => some (max (h.getD 0) q)) none
  let blank0 := (pages.head?).any pageBlank
  match pages.findIdx? pageBlank with
  | some n =>
    if pages.all pageBlank && pageBlank tail then { state := .erased }
    else if retireValid tail then
      { state := .retired, used := (pages.zipIdx.filter (fun g => !pageBlank g.1)).foldl (fun _ g => g.2 + 1) 0,
        first := first, highest := highest, failed := some (pageSeq tail) }
    else if blank0 then { state := .full, used := 31, first := first, highest := highest }
    else { state := .candidate, used := n, first := first, highest := highest }
  | none =>
    if retireValid tail then
      { state := .retired, used := 31, first := first, highest := highest, failed := some (pageSeq tail) }
    else { state := .full, used := 31, first := first, highest := highest }

/-- The torn pages of a block: record pages neither blank nor valid, and a tail neither blank nor a valid
retire mark (R145, R159). -/
def tornCount (pages : List (List Byte)) (tail : List Byte) : Nat :=
  (pages.filter pageTorn).length + (if pageBlank tail || retireValid tail then 0 else 1)

/-- The number two bytes or four bytes of a record's body spell, from an offset on. -/
def bodyNumber (bs : List Byte) (offset width : Nat) : Nat := ofBytes (((pageBody bs).drop offset).take width)

/-- A kind that tells how a session stands (R160, step 4). -/
def sessionKind (k : Nat) : Bool := 1 ≤ k && k ≤ 4

/-- What one valid page adds to the scan (R159, R160). -/
def Scan.page (c : Scan) (bs : List Byte) : Scan :=
  if ¬ pageValid bs then c
  else
    let q := pageSeq bs
    let c1 : Scan := { c with high := max c.high q }
    let c2 : Scan :=
      if pageKind bs = RecordKind.code .exportMark ∧ (c1.exportSeen.all (fun e => e.1 < q)) then
        { c1 with exportSeen := some (q, bodyNumber bs 2 4) }
      else c1
    if sessionKind (pageKind bs) ∧ (c2.sessionSeen.all (fun e => e.1 < q)) then
      { c2 with sessionSeen := some (q, pageKind bs, bodyNumber bs 2 2) }
    else c2

/-- What one block adds to the scan. -/
def Scan.block (c : Scan) (pages : List (List Byte)) (tail : List Byte) : Scan :=
  let c1 := pages.foldl Scan.page c
  let c2 := { c1 with written := c1.written || !(pages.all pageBlank && pageBlank tail) }
  if retireValid tail then { c2 with high := max c2.high (pageSeq tail) } else c2

/-- One block read and classified (R159). -/
def State.classify (s : State) (p : PlaneId) (b : Nat) (c : Scan) : State :=
  let pages := blockPages s.arch.mem p b
  let tail := readPage s.arch.mem p b Config.tailPage
  let s1 := s.mapPlane p (fun pl => pl.mapBlock b (fun _ => classifyBlock pages tail))
  s1.mapArch (fun a => { a with torn := a.torn + tornCount pages tail, scan := some (c.block pages tail) })

/-- SCAN_BLOCK_CLASSIFY (R158, R159): a block not yet classified, while the scan runs.
(DESIGN CHOICE, log 26: the blocks come in any order.) -/
def execScanBlockClassify (p : PlaneId) (b : Nat) (s : State) : Host.Outcome State Fault Refusal :=
  match s.arch.scan, (s.arch.plane p).blocks[b]? with
  | some c, some x => if x.state = .unread then .next (s.classify p b c) else .next s
  | _, _ => .next s

/-- The highest sequence number in a plane's valid pages. -/
def Plane.highest (pl : Plane) : Option Nat :=
  (pl.blocks.filterMap (fun x => x.highest)).foldl (fun h q => some (max (h.getD 0) q)) none

/-- The candidate OPEN block that holds the plane's highest sequence number (R159). -/
def Plane.resumeBlock (pl : Plane) : Option Nat :=
  pl.blocks.findIdx? (fun x => decide (x.state = .candidate) && x.highest.isSome && decide (x.highest = pl.highest))

/-- A block table entry with a candidate that was not chosen made FULL (R159). -/
def Block.settle (x : Block) : Block := if x.state = .candidate then { x with state := .full } else x

/-- A plane after the scan: its OPEN block chosen, every other candidate FULL, or STALLED (R159, R160). -/
def Plane.settle (pl : Plane) : Plane :=
  let full := { pl with blocks := pl.blocks.map Block.settle, prev := .none, cur := .none, stalled := false }
  match pl.resumeBlock with
  | some b => full.mapBlock b (fun x => { x with state := .opened })
  | none =>
    match pl.findBlock .erased with
    | some b => full.mapBlock b Block.opened
    | none => { full with stalled := true }

/-- The archive after the scan's first three steps (R160). -/
def Archive.settle (a : Archive) (c : Scan) : Archive :=
  { a with seqCounter := if c.written then c.high + 33 else 1
           lastStored := c.high
           exported := (c.exportSeen.map (fun e => e.2)).getD 0
           p0 := a.p0.settle, p1 := a.p1.settle }

/-- SESSION_LOST queued when the last session record found is a SESSION_OPEN (R160, step 4); the torn count
takes 4 bytes. (DESIGN CHOICE, log 53.) -/
def State.lostSession (s : State) (c : Scan) : State :=
  match c.sessionSeen with
  | some (q, 1, n) => s.offer .sessionLost [⟨2, n⟩, ⟨4, q⟩, ⟨4, c.high⟩, ⟨4, s.arch.torn⟩, s.timeField]
  | _ => s

/-- A plane the scan left STALLED owes its notice to the first record queued after the scan (R153).
(DEDUCED, log 40.) -/
def Plane.oweAlert (pl : Plane) : Plane := { pl with stallAlertDue := pl.stalled }

/-- Every block of both planes is classified. -/
def Archive.allRead (a : Archive) : Bool :=
  a.p0.blocks.all (fun x => decide (x.state ≠ .unread)) && a.p1.blocks.all (fun x => decide (x.state ≠ .unread))

/-- The steps that end the scan (R160). -/
def State.scanEnd (s : State) (c : Scan) : State :=
  ((s.mapArch (fun a => a.settle c)).lostSession c).mapArch (fun a =>
    { a with scan := none, p0 := a.p0.oweAlert, p1 := a.p1.oweAlert })

/-- SCAN_END (R160): every block has been classified. -/
def execScanEnd (s : State) : Host.Outcome State Fault Refusal :=
  match s.arch.scan, s.arch.allRead with
  | some c, true => .next (s.scanEnd c)
  | _, _ => .next s

/-! ## ARCHIVE_READ (R154) -/

/-- A block ARCHIVE_READ searches (R154). -/
def Block.readable (x : Block) : Bool :=
  match x.state with
  | .opened | .full | .retired => true
  | .erased | .erasing | .unread | .candidate => false

/-- The block with the greatest first sequence not above a number, with its table entry (R154). -/
def Plane.choose (pl : Plane) (seq : Nat) : Option (Nat × Block × Nat) :=
  pl.blocks.zipIdx.foldl (fun best g =>
    match g.1.first with
    | none => best
    | some f =>
      if g.1.readable ∧ f ≤ seq ∧ best.all (fun b => b.2.2 < f) then some (g.2, g.1, f) else best) none

/-- The void page of a block: the failed page of a RETIRED block with a failed sequence (R151, R154). -/
def Block.voidPage (x : Block) : Option Nat :=
  if x.state = .retired ∧ x.failed.isSome then some (x.used - 1) else none

/-- The first page, in page order, whose header carries a number, void and blank pages passed, before a
valid page that carries a higher one (R154). -/
def searchPages (seq : Nat) (void : Option Nat) : List (List Byte) → Nat → Option (Nat × List Byte)
  | [], _ => none
  | bs :: rest, n =>
    if void = some n ∨ pageBlank bs then searchPages seq void rest (n + 1)
    else if pageSeq bs = seq then some (n, bs)
    else if pageValid bs ∧ seq < pageSeq bs then none
    else searchPages seq void rest (n + 1)

/-- The fields of a page ARCHIVE_READ found (R154): a condition byte, 0 for a record and 1 for TORN, then the
record, its gap count once and the body without the two bytes that hold it, then the place.
(DESIGN CHOICE, log 12.) -/
def foundFields (p : PlaneId) (b page : Nat) (bs : List Byte) : List Field :=
  let place : List Field := [⟨1, planeNo p⟩, ⟨1, b⟩, ⟨1, page⟩]
  if pageValid bs then
    [⟨1, 0⟩, ⟨4, pageSeq bs⟩, ⟨1, pageKind bs⟩, ⟨2, bodyNumber bs 0 2⟩]
      ++ ((pageBody bs).drop 2).map (fun x => Field.mk 1 x.toNat) ++ place
  else ⟨1, 1⟩ :: place

/-- The search of a plane for a record (R154, R160). (DEDUCED, logs 41 and 50: a reserve number that a torn
page's header carries is answered OK TORN.) -/
def State.findRecord (s : State) (seq : Nat) : Answer :=
  let p := planeOf seq
  match (s.arch.plane p).choose seq with
  | none => refuse s .notFound
  | some (b, x, _) =>
    match searchPages seq x.voidPage (blockPages s.arch.mem p b) 0 with
    | none => refuse s .notFound
    | some (page, bs) => okay s (foundFields p b page bs)

/-- ARCHIVE_READ (R154). -/
def cmdArchiveRead (seq : Nat) (s : State) : Answer :=
  if seq = 0 then refuse s .range
  else if s.arch.queue.any (fun r => r.seq == seq) then refuse s .pending
  else if ((s.arch.plane (planeOf seq)).findBlock .erasing).isSome then refuse s .busy
  else if s.arch.seqCounter ≤ seq then refuse s .notFound
  else s.findRecord seq

/-! ## ARCHIVE_EXPORTED and ARCHIVE_ERASE (R155, R156) -/

/-- ARCHIVE_EXPORTED (R155). (DEDUCED, log 28: a session number of none is 0.) -/
def cmdArchiveExported (seq : Nat) (s : State) : Answer :=
  if seq < s.arch.exported ∨ s.arch.lastStored < seq then refuse s .range
  else if s.arch.queue.any (fun r => r.seq ≤ seq) then refuse s .pending
  else if ¬ s.arch.canTake then refuse s .full
  else
    let s' := s.mapArch (fun a => { a with exported := seq })
    okay (s'.enqueue .exportMark [⟨4, seq⟩, s.sessionField, s.timeField]) [⟨4, seq⟩, ⟨4, s.arch.seqCounter⟩]

/-- ARCHIVE_ERASE (R156). -/
def cmdArchiveErase (plane block : Nat) (s : State) : Answer :=
  match planeOfNat plane with
  | none => refuse s .range
  | some p =>
    match (s.arch.plane p).blocks[block]? with
    | none => refuse s .range
    | some x =>
      if x.state ≠ .full then refuse s .state
      else if x.highest.any (fun h => s.arch.exported ≤ h) then refuse s .notExported
      else if ((s.arch.plane p).findBlock .erasing).isSome then refuse s .busy
      else ⟨s.mapPlane p (fun pl => pl.mapBlock block (fun y => { y with state := .erasing })), .accepted, []⟩

/-! ## ARCHIVE_STATUS (R157) -/

/-- A block number that may be none, none being FFh (log 12). -/
def optBlock (o : Option Nat) : Field := ⟨1, o.getD 0xFF⟩

/-- The fields of one plane in ARCHIVE_STATUS (R157, R162).  Of a plane with no OPEN block the pages-used byte
is still sent, as 0, where R157 and R177 are silent. (DESIGN CHOICE, log 12.) -/
def Plane.statusFields (pl : Plane) : List Field :=
  let o := pl.findBlock .opened
  [markField pl.stalled, optBlock o, ⟨1, ((o.bind (fun b => pl.blocks[b]?)).map (fun x => x.used)).getD 0⟩,
    optBlock (pl.findBlock .erasing), ⟨1, pl.countBlocks .erased⟩,
    ⟨1, pl.countBlocks .full + pl.countBlocks .candidate⟩, ⟨1, pl.countBlocks .retired⟩,
    optTimeField (pl.staging.map (fun r => r.seq)), optTimeField (pl.progBuf.map (fun r => r.seq)),
    ⟨1, Mark.code pl.prev⟩, ⟨1, Mark.code pl.cur⟩]

/-- Blocks classified so far, in both planes. -/
def Archive.classified (a : Archive) : Nat :=
  256 - (a.p0.countBlocks .unread + a.p1.countBlocks .unread)

/-- ARCHIVE_STATUS (R157). -/
def cmdArchiveStatus (s : State) : Answer :=
  let a := s.arch
  let scan : List Field := if s.scanning then [⟨1, 0⟩, ⟨2, a.classified⟩] else [⟨1, 1⟩, ⟨2, 0⟩]
  okay s (scan ++ [⟨1, SessionState.code s.hall.session⟩, ⟨4, a.seqCounter⟩, ⟨4, a.lastStored⟩,
    ⟨4, a.exported⟩, ⟨1, a.queue.length⟩, ⟨1, a.results⟩, ⟨2, a.lost⟩, ⟨4, a.torn⟩]
    ++ a.p0.statusFields ++ a.p1.statusFields)

end Sys2Proof.Machine
end

