-- ==== Sys2Proof/Machine/SeatLine.lean ====
section
/-! DEFINITION. Chapter 3: the line's conditions, reports taken into the inbox, the arbiter and its
deliveries, presence and faults, HELLO, ANNOUNCE. -/

namespace Sys2Proof.Machine

/-- The condition of the line changed. -/
def State.setLine (s : State) (c : LineCond) : State := { s with line := { s.line with cond := c } }

/-- A frame queued on the group frame queue, or dropped when it is full (R53). -/
def State.queueFrame (s : State) (f : LineFrame) : State :=
  if s.line.groupQueue.length < Config.groupQueueSize then
    { s with line := { s.line with groupQueue := s.line.groupQueue ++ [f] } }
  else s

/-- The address of a sitting's group (R42). -/
def groupAddress (sitting : Nat) : Nat := 512 + sitting

/-! ## Presence and faults (R55 to R57) -/

/-- A seat's quiet time set to 0 (R55). -/
def State.quietZero (s : State) (n : Nat) : State := s.mapSeat n (fun x => { x with quiet := 0 })

/-- A seat's unit has answered: the miss count is 0, and a FAULTY seat with its fault mark set recovers
(R57). -/
def State.seatPresent (s : State) (n : Nat) : State :=
  match s.seat? n with
  | none => s
  | some x =>
    if x.service = .faulty ∧ x.faultMark.isSome then
      (s.mapSeat n (fun y => { y with miss := 0, service := .inService, faultMark := none })).notifyZone
        x.zone (.seatRecovered n (s.numberOf x.occupant) s.hall.time)
    else s.mapSeat n (fun y => { y with miss := 0 })

/-- A seat's unit has not answered: one miss more, up to 3; the third makes a seat in service FAULTY
(R56). -/
def State.seatMiss (s : State) (n : Nat) : State :=
  match s.seat? n with
  | none => s
  | some x =>
    if x.miss = 2 ∧ x.service = .inService then
      (s.mapSeat n (fun y => { y with miss := 3, service := .faulty, faultMark := some s.hall.time })).notifyZone
        x.zone (.seatFault .silent n (s.numberOf x.occupant) s.hall.time)
    else s.mapSeat n (fun y => { y with miss := min 3 (y.miss + 1) })

/-! ## Reports on the line (R40, R43 to R45) -/

/-- The fields of a report in the order the line carries them, for the contest of R43. -/
def contestKey (r : SeatFrame) : List Nat :=
  [r.address, r.kind, r.length] ++ r.payload.map (fun b => b.toNat) ++ [r.check]

/-- The field of a report at a place of the contest; a report already at its end sends nothing there. -/
def contestField (place : Nat) (r : SeatFrame) : Nat := (contestKey r).getD place 0

/-- The contenders left after the field at a place: a sender that is not among those of the lowest value
has left a bit recessive that another sends dominant, and stops (R43). -/
def stillSending (contenders : List SeatFrame) (place : Nat) : List SeatFrame :=
  contenders.filter (fun r => contenders.all (fun q => contestField place r ≤ contestField place q))

/-- The places of the longest contest: address, kind, length, 15 payload bytes, check. -/
def contestPlaces : List Nat := List.range 19

/-- The report that goes on when several units start in one bit time (R43); where several agree in every
field, they complete as one. -/
def winner (r : SeatFrame) (rs : List SeatFrame) : SeatFrame :=
  (contestPlaces.foldl stillSending (r :: rs)).headD r

/-- SEAT_REPORT_START (R40, R43): units start on an IDLE line, and the line is BUSY_REPORT.  On a line
that is not IDLE no unit starts (R40). (DEDUCED, log 29.) -/
def execSeatReportStart (contenders : List SeatFrame) (s : State) : Host.Outcome State Fault Refusal :=
  match s.line.cond, contenders with
  | .idle, r :: rs => .next (s.setLine (.busyReport (winner r rs) .started))
  | _, _ => .next s

/-- SEAT_REPORT_HEADER (R44, R45): the kind field has been received; an entry is reserved, or the
report is held, or, from an address with no seat record, it needs no entry (R42). -/
def execSeatReportHeader (s : State) : Host.Outcome State Fault Refusal :=
  match s.line.cond with
  | .busyReport r .started =>
    if (s.seat? r.address).isNone ∨ ¬ seatOk r.address then .next (s.setLine (.busyReport r .noEntry))
    else if s.line.inbox.length < Config.inboxSize then .next (s.setLine (.busyReport r .reserved))
    else .next (s.setLine (.hold r))
  | _ => .next s

/-- HOLD_TIMEOUT (R45): 40 ms have passed; the line is released and the report will not be
acknowledged. (DESIGN CHOICE, log 6: the 40 ms are the event.) -/
def execHoldTimeout (s : State) : Host.Outcome State Fault Refusal :=
  match s.line.cond with
  | .hold r => .next (s.setLine (.busyReport r .refused))
  | _ => .next s

/-- The line left QUIET with the acknowledge slot driven or not. -/
def State.endReport (s : State) (ack : Bool) : State :=
  { s with line := { s.line with cond := .quiet, acked := ack } }

/-- A report joins the inbox at the tail, with the hall time its acknowledge slot ended (R44). -/
def State.pushReport (s : State) (n : Nat) (k : ReportKind) : State :=
  { s with line := { s.line with inbox := s.line.inbox ++ [⟨n, k, s.hall.time⟩] } }

/-- SEAT_REPORT_END (R42, R44, R45): the report is judged whole.  Received whole and correct from a
defined seat it is evidence of presence, acknowledged or not. -/
def execSeatReportEnd (s : State) : Host.Outcome State Fault Refusal :=
  match s.line.cond with
  | .busyReport r .reserved =>
    match reportOf r with
    | some k => .next ((((s.endReport true).pushReport r.address k).quietZero r.address).seatPresent r.address)
    | none => .next (s.endReport false)
  | .busyReport r .refused =>
    match reportOf r with
    | some _ => .next (((s.endReport false).quietZero r.address).seatPresent r.address)
    | none => .next (s.endReport false)
  | .busyReport r .noEntry => .next (s.endReport (seatOk r.address && (reportOf r).isSome))
  | _ => .next s

/-- LINE_IDLE (R40): 12 recessive bit times have passed after a frame, or after a start that every
sender abandoned. (DESIGN CHOICE, log 30.) -/
def execLineIdle (s : State) : Host.Outcome State Fault Refusal :=
  match s.line.cond with
  | .quiet => .next (s.setLine .idle)
  | .busyReport _ _ => .next (s.setLine .idle)
  | _ => .next s

/-! ## The arbiter (R52, R53, R55) -/

/-- The unit group a record's group agrees with (R52). -/
def unitGroupOf : Option Nat → UnitGroup
  | none => .none
  | some n => .sitting n

/-- The lowest seat above `last` that a test picks, or else the lowest (R52). -/
def nextSeat (seats : List Seat) (q : Seat → Bool) (last : Nat) : Option Seat :=
  match seats.find? (fun x => q x && decide (last < x.seat)) with
  | some x => some x
  | none => seats.find? q

/-- The frame a delivery to a seat begins with: GROUP_SET where the record's group differs from the
unit group, and else DISPLAY (R52). -/
def Seat.firstFrame (x : Seat) : LineFrame :=
  if unitGroupOf x.display.group = x.unitGroup then ⟨x.seat, .display x.display⟩
  else ⟨x.seat, .groupSet x.display.group⟩

/-- A frame started on the line. -/
def State.startFrame (s : State) (f : LineFrame) : State := s.setLine (.busyController f false)

/-- The delivery a first frame begins: one that goes on with a DISPLAY after a GROUP_SET, or none (R52).
(DEDUCED, log 42.) -/
def Seat.delivery (x : Seat) : Option Delivery :=
  if unitGroupOf x.display.group = x.unitGroup then none else some ⟨x.seat, x.display, false⟩

/-- A delivery's first frame, a due POLL, or nothing (R52, steps 2 and 3). -/
def State.serveSeats (s : State) : State :=
  match nextSeat s.hall.seats (fun x => x.owed && decide (x.miss < 3)) s.line.lastServed with
  | some x =>
    let s' := s.mapSeat x.seat (fun y => { y with owed := false })
    { s' with line := { s'.line with lastServed := x.seat, deliver := x.delivery } }.startFrame x.firstFrame
  | none =>
    match nextSeat s.hall.seats (fun x => x.occupant.isSome && decide (8 ≤ x.quiet)) s.line.lastPolled with
    | some x => { s with line := { s.line with lastPolled := x.seat } }.startFrame ⟨x.seat, .poll⟩
    | none => s

/-- The arbiter's start on an IDLE line: the DISPLAY that follows an acknowledged GROUP_SET, carrying the
record as it stood when the delivery began, ahead of every other source; then the group frame queue, the owed set and the due polls (R52). -/
def State.arbiterStart (s : State) : State :=
  match s.line.deliver with
  | some ⟨n, d, true⟩ => { s with line := { s.line with deliver := none } }.startFrame ⟨n, .display d⟩
  | _ =>
    match s.line.groupQueue with
    | f :: fs => { s with line := { s.line with groupQueue := fs } }.startFrame f
    | [] => s.serveSeats

/-- LINE_ARBITER_START (R52): the line is IDLE and the 20 bit times have passed. -/
def execLineArbiterStart (s : State) : Host.Outcome State Fault Refusal :=
  match s.line.cond with
  | .idle => .next s.arbiterStart
  | _ => .next s

/-- What the ACK of a frame addressed to one seat does (R52, R57): presence, and after a GROUP_SET the
unit group and the DISPLAY to follow. (DEDUCED, log 31.) -/
def State.frameAcked (s : State) (n : Nat) (k : FrameKind) : State :=
  let s' := s.seatPresent n
  match k with
  | .groupSet g =>
    let s'' := s'.mapSeat n (fun x => { x with unitGroup := unitGroupOf g })
    { s'' with line := { s''.line with deliver := s''.line.deliver.map (fun d => { d with acked := true }) } }
  | _ => s'

/-- What the NACK of a frame addressed to one seat does (R52, R56): a miss, and the seat owed again
where the frame belonged to a delivery. -/
def State.frameNacked (s : State) (n : Nat) (k : FrameKind) : State :=
  let s' := s.seatMiss n
  match k with
  | .groupSet _ =>
    let s'' := s'.mapSeat n (fun x => { x with owed := true })
    { s'' with line := { s''.line with deliver := none } }
  | .display _ => s'.mapSeat n (fun x => { x with owed := true })
  | _ => s'

/-- CONTROLLER_FRAME_ACK (R52, R53, R55 to R57): the acknowledge slot of a controller frame ends.  A
frame to a group or to every unit changes no seat. -/
def execControllerFrameAck (ack : Bool) (s : State) : Host.Outcome State Fault Refusal :=
  match s.line.cond with
  | .busyController f voided =>
    let s' := s.setLine .quiet
    if voided then .next s'
    else if seatOk f.address then
      let s'' := s'.quietZero f.address
      if ack then .next (s''.frameAcked f.address f.kind) else .next (s''.frameNacked f.address f.kind)
    else .next s'
  | _ => .next s

/-! ## The inbox (R47, R45) -/

/-- The report at the head leaves the inbox; on a held line the freed entry is reserved for the held
report and the line is released in the same event (R45). -/
def State.leaveInbox (s : State) : State :=
  { s with line := { s.line with inbox := s.line.inbox.tail
                                 cond := match s.line.cond with
                                         | .hold r => .busyReport r .reserved
                                         | c => c } }

/-- What a HELLO does for its seat (R48). -/
def State.helloAt (s : State) (n bits : Nat) : State :=
  match s.seat? n with
  | none => s
  | some x =>
    let s' := s.mapSeat n (fun y => { y with unitFaults := bits, unitGroup := .unknown, owed := true })
    if bits = 0 then s'
    else s'.notifyZone x.zone (.seatFault (.unit bits) n (s.numberOf x.occupant) s.hall.time)

/-- HELLO (R48): the event of the report at the head of the inbox, when that is a HELLO. -/
def execHello (s : State) : Host.Outcome State Fault Refusal :=
  match s.line.inbox with
  | ⟨n, .hello bits, _⟩ :: _ => .next (s.leaveInbox.helloAt n bits)
  | _ => .next s

/-! ## ANNOUNCE (R54) -/

/-- The address an ANNOUNCE target names: form 0 a seat, 1 a sitting, 2 the hall (R54, R177). -/
def announceAddress (form value : Nat) : Nat :=
  match form with
  | 0 => value
  | 1 => groupAddress value
  | _ => 0

/-- The RANGE test of ANNOUNCE (R54). -/
def announceInRange (form value code : Nat) : Bool :=
  1 ≤ code && code ≤ 255 &&
    (match form with
     | 0 => seatOk value
     | 1 => sittingOk value
     | 2 => true
     | _ => false)

/-- ANNOUNCE (R54). -/
def cmdAnnounce (p : Port) (form value code : Nat) (s : State) : Answer :=
  if ¬ announceInRange form value code then refuse s .range
  else if (form = 0 ∧ (s.seat? value).isNone) ∨ (form = 1 ∧ (s.sitting? value).isNone) then
    refuse s .notFound
  else if ¬ (if form = 0 then s.passes p (((s.seat? value).map (fun x => x.zone)).getD 0) else s.isChief p) then
    refuse s .zone
  else if Config.groupQueueSize ≤ s.line.groupQueue.length then refuse s .full
  else okay (s.queueFrame ⟨announceAddress form value, .announce code .show⟩)

end Sys2Proof.Machine
end

