-- ==== Sys2Proof/Machine/Clock.lean ====
section
/-! DEFINITION. Chapter 4: what a hall second does at each record, cues, phases, pauses, and the
commands CUE_DEFINE, OPEN_DOORS, START, PAUSE and RESUME. -/

namespace Sys2Proof.Machine

/-- The candidate indexes whose records a test picks, ascending. -/
def State.indexesWhere (s : State) (q : Cand → Bool) : List Nat :=
  (s.hall.cands.zipIdx.filter (fun p => q p.1)).map (fun p => p.2)

/-- The candidates of a sitting in a state, by ascending index. -/
def State.candsIn (s : State) (n : Nat) (st : CandState) : List Nat :=
  s.indexesWhere (fun c => c.sitting == n && decide (c.state = st))

/-- A candidate entering WRITING in a second its sitting has already taken takes that second with it:
its consumed time counts from the sitting's (R70, R74, log 3). (DESIGN CHOICE, log 3.) -/
def State.joinSecond (s : State) (i n : Nat) : State :=
  if s.clock.ahead.contains (.sitting n) then
    { s with clock := { s.clock with ahead := s.clock.ahead ++ [.cand i] } }
  else s

/-! ## Elapsed cues (R66 to R68) -/

/-- A candidate made ABSENT by the close of admission, its seat released (R68, R37). -/
def State.makeAbsent (s : State) (i : Nat) : State := (s.setCandState i .absent).releaseCand i

/-- The doors of a sitting closed (R68): admission CLOSED and every EXPECTED candidate ABSENT, in ascending
index. -/
def State.closeDoors (s : State) (n : Nat) : State :=
  let s' := s.mapSitting n (fun x => { x with admission := false })
  (s'.candsIn n .expected).foldl State.makeAbsent s'

/-- The close of admission (R68): the doors closed, and the COLLECTING test. -/
def State.closeAdmission (s : State) (n : Nat) : State := (s.closeDoors n).sittingTests n

/-- The Clock Unit's write of a code at a seat, with what R69 has each write set for the occupant; nothing at
a seat that has none. -/
def State.showSeatCode (c : DispCode) (s : State) (x : Seat) : State :=
  match x.occupant with
  | none => s
  | some i => s.showAt x.seat i (some c)

/-- A code written to the display record of every seat whose occupant belongs to a sitting (R68), with what
R69 has each write set. (DEDUCED, log 46.) -/
def State.writeGroupCode (s : State) (n : Nat) (c : DispCode) : State :=
  (s.hall.seats.filter (fun x => s.occupiedBy x n)).foldl (State.showSeatCode c) s

/-- The effect of an elapsed cue by its kind, with its CUE_FIRED notice to every desk (R68).  `close` is what
a LAST_ENTRY does at the doors: the close of admission, or at the start of writing the doors alone, the
COLLECTING test being step 5 of R66. -/
def State.elapsedEffect (close : State → Nat → State) (s : State) (n : Nat) (q : Cue) : State :=
  let absent := match q.kind with
    | .lastEntry => (s.candsIn n .expected).length
    | _ => 0
  let s' := match q.kind with
    | .lastEntry => close s n
    | .exitOpen => s.mapSitting n (fun x => { x with exitOpen := true })
    | .note => (s.writeGroupCode n (.announce q.code)).queueFrame ⟨groupAddress n, .announce q.code .show⟩
    | .exitClose | .warn => s
  s'.notifyDesks (.cueFired n q.kind q.value q.code absent s.hall.time)

/-- The elapsed-cue pointer passes one cue (R66, R67). -/
def State.passElapsed (s : State) (n : Nat) : State :=
  s.mapSitting n (fun y => { y with elapsedPtr := y.elapsedPtr + 1 })

/-- One elapsed cue of a second fires and the pointer passes it; once the sitting has left WRITING no elapsed
cue of that second fires (R67, R68, R78). (DEDUCED, log 19.) -/
def State.fireElapsed (n : Nat) (s : State) (q : Cue) : State :=
  match s.sitting? n with
  | some x =>
    if x.state = .writing then State.elapsedEffect State.closeAdmission (s.passElapsed n) n q else s
  | none => s

/-- One elapsed cue at offset 0 fires at the start of writing and the pointer passes it (R66, step 4). -/
def State.fireAtStart (n : Nat) (s : State) (q : Cue) : State :=
  State.elapsedEffect State.closeDoors (s.passElapsed n) n q

/-- The elapsed cues at or after the pointer whose offset is not above a value (R66, R67). -/
def Sitting.dueElapsed (x : Sitting) (sel : Nat) : List Cue :=
  (x.elapsedCues.drop x.elapsedPtr).takeWhile (fun q => q.value ≤ sel)

/-- Every due elapsed cue fires, in list order, each as `fire` makes it fire. -/
def State.fireDueElapsed (fire : Nat → State → Cue → State) (s : State) (n : Nat) : State :=
  match s.sitting? n with
  | some x => (x.dueElapsed x.sel).foldl (fire n) s
  | none => s

/-- An ADMITTED candidate begins writing (R66, step 2). -/
def State.beginWriting (n : Nat) (s : State) (i : Nat) : State :=
  (((s.setCandState i .writing).mapCand i (fun c => { c with consumed := 0 })).joinSecond i n).showCand i

/-- The start of writing (R66). -/
def State.startOfWriting (s : State) (n : Nat) : State :=
  let s1 := s.mapSitting n (fun x => { x with state := .writing, sel := 0 })
  let s2 := (s1.candsIn n .admitted).foldl (State.beginWriting n) s1
  let s3 := s2.mapSitting n (fun x => { x with exitOpen := x.exitOpen || !x.hasCue .exitOpen })
  (State.fireDueElapsed State.fireAtStart s3 n).sittingTests n

/-! ## A second at a sitting (R65, R67, R77) -/

/-- A second of a held sitting in READING or WRITING: pause accumulated counts, and at the pause limit
the sitting becomes disrupted (R77).  The INCIDENT body begins with its cause, PAUSE_LIMIT as 0.
(DESIGN CHOICE, log 12.) -/
def State.heldSecond (s : State) (x : Sitting) : State :=
  let acc := x.pauseAcc + 1
  let s' := s.mapSitting x.number (fun y => { y with pauseAcc := acc })
  if 0 < x.pauseLimit ∧ ¬ x.disrupted ∧ acc = x.pauseLimit then
    ((s'.mapSitting x.number (fun y => { y with disrupted := true })).offer .incident
      [⟨1, 0⟩, s.sessionField, ⟨1, x.number⟩, ⟨4, acc⟩, s.timeField]).notify (.desk s.hall.chief)
        (.pauseLimit x.number acc x.pauseLimit s.hall.time)
  else s'

/-- A second of a reading sitting that is not held; at its reading time the start of writing is made in
the same event (R65). -/
def State.readingSecond (s : State) (x : Sitting) : State :=
  let e := x.elapsedReading + 1
  let s' := s.mapSitting x.number (fun y => { y with elapsedReading := e })
  if e = x.reading then s'.startOfWriting x.number else s'

/-- The default close of admission at S_el = B, for a sitting with no LAST_ENTRY cue (R67). -/
def State.defaultClose (s : State) (n : Nat) : State :=
  match s.sitting? n with
  | some x => if ¬ x.hasCue .lastEntry ∧ x.admission ∧ x.sel = x.base then s.closeAdmission n else s
  | none => s

/-- A second of a writing sitting that is not held: S_el, the elapsed cues, the default close (R67). -/
def State.writingSecond (s : State) (x : Sitting) : State :=
  if x.sel < Config.maxElapsed then
    (State.fireDueElapsed State.fireElapsed (s.mapSitting x.number (fun y => { y with sel := y.sel + 1 }))
      x.number).defaultClose x.number
  else s

/-- What a passing hall second does at a sitting (section 4.7). -/
def State.tickSitting (s : State) (n : Nat) : State :=
  match s.sitting? n with
  | none => s
  | some x =>
    match x.state, s.held n with
    | .reading, false => s.readingSecond x
    | .writing, false => s.writingSecond x
    | .reading, true => s.heldSecond x
    | .writing, true => s.heldSecond x
    | _, _ => s

/-! ## A second at a candidate (R70, R71, R73) -/

/-- A remaining cue fires for a candidate, and the candidate's pointer passes it (R71).  The write of
EXIT_CLOSE sets with its code what R69 has each write set. (DEDUCED, log 46.) -/
def State.fireRemaining (i : Nat) (s : State) (q : Cue) : State :=
  let s' := s.mapCand i (fun c => { c with cuePtr := c.cuePtr + 1 })
  match q.kind with
  | .warn | .note => s'.showCand i (some (.announce q.code))
  | .exitClose =>
    (s'.mapCand i (fun c => { c with exitClosed := true })).showCand i (some (.cond .exitClosed))
  | .lastEntry | .exitOpen => s'

/-- The remaining cues at or after a candidate's pointer whose threshold is at least a remaining time
(R70, R74). -/
def Sitting.dueRemaining (x : Sitting) (ptr rem : Nat) : List Cue :=
  (x.remainingCues.drop ptr).takeWhile (fun q => rem ≤ q.value)

/-- The remaining cues due to a candidate at a remaining time. -/
def State.cuesDue (s : State) (c : Cand) (rem : Nat) : List Cue :=
  ((s.sitting? c.sitting).map (fun x => x.dueRemaining c.cuePtr rem)).getD []

/-- A second of consumption: expiry at E, and else the cue walk and the display points (R70, R72). -/
def State.consume (s : State) (i : Nat) (c : Cand) : State :=
  let used := c.consumed + 1
  let rem := c.entitled - used
  let s' := s.mapCand i (fun c => { c with consumed := used })
  if used = c.entitled then s'.finishCand i .time
  else
    let s'' := (s.cuesDue c rem).foldl (State.fireRemaining i) s'
    if rem % 60 = 0 ∨ rem < 60 then s''.showCand i else s''

/-- A second of rest: at the rest budget the candidate returns to WRITING with REST_OVER (R73). -/
def State.restSecond (s : State) (i : Nat) (c : Cand) : State :=
  let used := c.restUsed + 1
  let s' := s.mapCand i (fun c => { c with restUsed := used })
  if used = c.restBudget then s'.leaveRest i c.sitting (some (.cond .restOver)) else s'

/-- A candidate whose rest has ended in the second now passing (R73, log 48). -/
def State.restJustEnded (s : State) (i : Nat) : Bool := s.clock.restEnded.contains i

/-- What a passing hall second does at a candidate (section 4.7); a candidate in WRITING whose rest has ended
in that second consumes nothing in it (R73). -/
def State.tickCand (s : State) (i : Nat) : State :=
  match s.cand? i with
  | none => s
  | some c =>
    match c.state, s.held c.sitting with
    | .writing, false => if s.restJustEnded i then s else s.consume i c
    | .resting, false => s.restSecond i c
    | _, _ => s

/-! ## A second at a seat (R55) -/

/-- The quiet time of an occupied seat counts up to 8. -/
def State.tickSeat (s : State) (n : Nat) : State :=
  s.mapSeat n (fun x => if x.occupant.isSome ∧ x.quiet < 8 then { x with quiet := x.quiet + 1 } else x)

/-! ## The hall second (R1, log 3) -/

/-- What a passing hall second does at one record. -/
def State.tick (s : State) : TickKey → State
  | .sitting n => s.tickSitting n
  | .cand i => s.tickCand i
  | .seat n => s.tickSeat n

/-- A record has already taken the hall second now passing. -/
def State.isAhead (s : State) (k : TickKey) : Bool := s.clock.ahead.contains k

/-- A record marked as having taken the hall second now passing. -/
def State.markAhead (s : State) (k : TickKey) : State :=
  { s with clock := { s.clock with ahead := s.clock.ahead ++ [k] } }

/-- A record takes the second, unless it already has. (DESIGN CHOICE, log 3.) -/
def State.second (s : State) (k : TickKey) : State :=
  if s.isAhead k then s else (s.markAhead k).tick k

/-- Hall time after one more second (R1). -/
def nextTime (t : Nat) : Nat := if 86399 ≤ t then 0 else t + 1

/-- A hall second passes: hall time, then every sitting, every candidate and every seat that has not
taken it yet (R1, section 4.7, logs 3 and 4). (DEDUCED, log 4.) -/
def State.hallSecond (s : State) : State :=
  let s0 := { s with hall := { s.hall with time := nextTime s.hall.time } }
  let s1 := (s0.hall.sittings.map (fun x => x.number)).foldl (fun t n => t.second (.sitting n)) s0
  let s2 := (List.range s1.hall.cands.length).foldl (fun t i => t.second (.cand i)) s1
  let s3 := (s2.hall.seats.map (fun x => x.seat)).foldl (fun t n => t.second (.seat n)) s2
  { s3 with clock := { s3.clock with ahead := [], restEnded := [] } }

/-- HALL_SECOND (R1). -/
def execHallSecond (s : State) : Host.Outcome State Fault Refusal := .next s.hallSecond

/-- One record takes the hall second now passing before the others, where the second brings about a
named event there; where it does not, or the record has taken it, the event does not arise (log 2).
(DEDUCED, log 2.) -/
def State.early (s : State) (k : TickKey) (arises : Bool) : State := if arises then s.second k else s

/-- The next second ends a sitting's reading time (R65). -/
def State.readingEndDue (s : State) (n : Nat) : Bool :=
  match s.sitting? n with
  | some x => decide (x.state = .reading) && !s.held n && x.elapsedReading + 1 == x.reading
  | none => false

/-- READING_END (R65). -/
def execReadingEnd (n : Nat) (s : State) : Host.Outcome State Fault Refusal :=
  .next (s.early (.sitting n) (s.readingEndDue n))

/-- The next second brings a writing sitting's S_el to a given test. -/
def State.writingDue (s : State) (n : Nat) (q : Sitting → Bool) : Bool :=
  match s.sitting? n with
  | some x => decide (x.state = .writing) && !s.held n && decide (x.sel < Config.maxElapsed) && q x
  | none => false

/-- ELAPSED_CUE_FIRE (R68): the second at which one or more elapsed cues fire. -/
def execElapsedCueFire (n : Nat) (s : State) : Host.Outcome State Fault Refusal :=
  .next (s.early (.sitting n) (s.writingDue n (fun x => !(x.dueElapsed (x.sel + 1)).isEmpty)))

/-- DEFAULT_ADMISSION_CLOSE (R67). -/
def execDefaultAdmissionClose (n : Nat) (s : State) : Host.Outcome State Fault Refusal :=
  .next (s.early (.sitting n) (s.writingDue n
    (fun x => !x.hasCue .lastEntry && x.admission && x.sel + 1 == x.base)))

/-- The next second is a second of consumption of a candidate that passes a test. -/
def State.consumeDue (s : State) (i : Nat) (q : Cand → Bool) : Bool :=
  match s.cand? i with
  | some c => decide (c.state = .writing) && !s.held c.sitting && !s.restJustEnded i && q c
  | none => false

/-- REMAINING_CUE_FIRE (R71): the second at which one or more remaining cues fire for a candidate. -/
def execRemainingCueFire (i : Nat) (s : State) : Host.Outcome State Fault Refusal :=
  .next (s.early (.cand i) (s.consumeDue i (fun c => c.consumed + 1 != c.entitled
    && !(s.cuesDue c (c.entitled - (c.consumed + 1))).isEmpty)))

/-- EXPIRY (R72): the second that brings consumed to E. -/
def execExpiry (i : Nat) (s : State) : Host.Outcome State Fault Refusal :=
  .next (s.early (.cand i) (s.consumeDue i (fun c => c.consumed + 1 == c.entitled)))

/-- The next second uses up a candidate's rest budget (R73). -/
def State.restEndDue (s : State) (i : Nat) : Bool :=
  match s.cand? i with
  | some c => decide (c.state = .resting) && !s.held c.sitting && c.restUsed + 1 == c.restBudget
  | none => false

/-- REST_BUDGET_END (R73). -/
def execRestBudgetEnd (i : Nat) (s : State) : Host.Outcome State Fault Refusal :=
  .next (s.early (.cand i) (s.restEndDue i))

/-- The next second brings a held sitting's pause accumulated to its pause limit (R77). -/
def State.pauseLimitDue (s : State) (n : Nat) : Bool :=
  match s.sitting? n with
  | some x => (decide (x.state = .reading) || decide (x.state = .writing)) && s.held n
      && decide (0 < x.pauseLimit) && !x.disrupted && x.pauseAcc + 1 == x.pauseLimit
  | none => false

/-- PAUSE_LIMIT (R77). -/
def execPauseLimit (n : Nat) (s : State) : Host.Outcome State Fault Refusal :=
  .next (s.early (.sitting n) (s.pauseLimitDue n))

/-- The next second brings an occupied seat's quiet time to 8 (R55). -/
def State.pollDueNext (s : State) (n : Nat) : Bool :=
  match s.seat? n with
  | some x => x.occupant.isSome && x.quiet == 7
  | none => false

/-- SEAT_POLL_DUE (R55). -/
def execSeatPollDue (n : Nat) (s : State) : Host.Outcome State Fault Refusal :=
  .next (s.early (.seat n) (s.pollDueNext n))

/-! ## CUE_DEFINE (R61, R62) -/

/-- A cue entered in an elapsed list, after every cue whose offset equals its own (R62). -/
def insertElapsed (q : Cue) : List Cue → List Cue
  | [] => [q]
  | r :: rs => if q.value < r.value then q :: r :: rs else r :: insertElapsed q rs

/-- A cue entered in a remaining list, after every cue whose threshold equals its own (R62). -/
def insertRemaining (q : Cue) : List Cue → List Cue
  | [] => [q]
  | r :: rs => if r.value < q.value then q :: r :: rs else r :: insertRemaining q rs

/-- A cue is of the elapsed base; the base field, 0 ELAPSED or 1 REMAINING, is read for NOTE (R61). -/
def elapsedBase (k : CueKind) (base : Nat) : Bool :=
  match k with
  | .lastEntry | .exitOpen => true
  | .exitClose | .warn => false
  | .note => base == 0

/-- A cue kind carries a code (section 4.3). -/
def CueKind.coded : CueKind → Bool
  | .warn | .note => true
  | .lastEntry | .exitOpen | .exitClose => false

/-- A cue kind a sitting holds at most one of (section 4.3). -/
def CueKind.single : CueKind → Bool
  | .lastEntry | .exitOpen | .exitClose => true
  | .warn | .note => false

/-- The first RANGE test of CUE_DEFINE (R61). -/
def cueInRange (sitting : Nat) (k : CueKind) (base value code : Nat) : Bool :=
  sittingOk sitting && (decide (k ≠ .note) || base ≤ 1) && value ≤ 28799
    && (!k.coded || (1 ≤ code && code ≤ 255))

/-- CUE_DEFINE (R61, R62).  A cue whose kind has no code holds 0 there, which is what CUE_FIRED carries for an
elapsed one (R68) and, by the model's choice, READ_SITTING for each. (DESIGN CHOICE, log 12.) -/
def cmdCueDefine (sitting kind base value code : Nat) (s : State) : Answer :=
  match cueKindOf kind with
  | none => refuse s .range
  | some k =>
    if ¬ cueInRange sitting k base value code then refuse s .range
    else
      match s.sitting? sitting with
      | none => refuse s .notFound
      | some x =>
        let el := elapsedBase k base
        let held := x.elapsedCues.length + x.remainingCues.length
        if x.state ≠ .defined ∧ x.state ≠ .opened then refuse s .state
        else if x.base ≤ value ∨ (¬ el ∧ value = 0) then refuse s .range
        else if k.single ∧ x.hasCue k then refuse s .duplicate
        else if 8 ≤ held then refuse s .full
        else
          let q : Cue := ⟨k, value, if k.coded then code else 0⟩
          okay (s.mapSitting sitting (fun y =>
            if el then { y with elapsedCues := insertElapsed q y.elapsedCues }
            else { y with remainingCues := insertRemaining q y.remainingCues })) [⟨1, held + 1⟩]

/-! ## The phases (R63, R64) -/

/-- OPEN_DOORS (R63). -/
def cmdOpenDoors (p : Port) (sitting : Nat) (s : State) : Answer :=
  if ¬ sittingOk sitting then refuse s .range
  else
    match s.sitting? sitting with
    | none => refuse s .notFound
    | some x =>
      if ¬ s.isChief p then refuse s .zone
      else if x.state ≠ .defined then refuse s .state
      else okay (s.mapSitting sitting (fun y => { y with state := .opened, admission := true }))

/-- START (R64). -/
def cmdStart (p : Port) (sitting : Nat) (s : State) : Answer :=
  if ¬ sittingOk sitting then refuse s .range
  else
    match s.sitting? sitting with
    | none => refuse s .notFound
    | some x =>
      if ¬ s.isChief p then refuse s .zone
      else if x.inFlight then refuse s .busy
      else if x.state ≠ .opened then refuse s .state
      else if 0 < x.reading then
        okay (s.mapSitting sitting (fun y => { y with state := .reading, elapsedReading := 0 }))
      else okay (s.startOfWriting sitting)

/-! ## Pause (R75, R76) -/

/-- A sitting is within a scope: 0 is the hall. -/
def inScope (scope sitting : Nat) : Bool := scope == 0 || scope == sitting

/-- The candidates in WRITING or RESTING within a scope. -/
def State.runningIn (s : State) (scope : Nat) : List Nat :=
  s.indexesWhere (fun c => inScope scope c.sitting
    && (decide (c.state = .writing) || decide (c.state = .resting)))

/-- The flag of a scope set or cleared. -/
def State.setPause (s : State) (scope : Nat) (v : Bool) : State :=
  if scope = 0 then { s with clock := { s.clock with hallPause := v } }
  else s.mapSitting scope (fun x => { x with paused := v })

/-- The address of a scope's group, 0 for the hall (R75). -/
def scopeAddress (scope : Nat) : Nat := if scope = 0 then 0 else groupAddress scope

/-- PAUSE's fourth test (R75): the flag is already set, or the sitting is not in READING or WRITING. -/
def State.pauseRefused (s : State) (scope : Nat) : Bool :=
  if scope = 0 then s.clock.hallPause
  else
    match s.sitting? scope with
    | some x => x.paused || !(decide (x.state = .reading) || decide (x.state = .writing))
    | none => true

/-- A HOLD or RUN frame; the code it carries is free (R75, R76, log 32). -/
def State.pauseFrame (s : State) (address : Nat) (action : AnnounceAction) : LineFrame :=
  ⟨address, .announce (1 + Config.holdRunCode address s.hall.time % 255) action⟩

/-- PAUSE (R75). -/
def cmdPause (p : Port) (scope : Nat) (s : State) : Answer :=
  if 12 < scope then refuse s .range
  else if scope ≠ 0 ∧ (s.sitting? scope).isNone then refuse s .notFound
  else if ¬ s.isChief p then refuse s .zone
  else if s.pauseRefused scope then refuse s .state
  else
    let s' := s.setPause scope true
    okay (((s'.runningIn scope).foldl (fun t i => t.showCand i) s').queueFrame
      (s'.pauseFrame (scopeAddress scope) .hold))

/-- The flag of a scope is set (R76). -/
def State.pauseSet (s : State) (scope : Nat) : Bool :=
  if scope = 0 then s.clock.hallPause else ((s.sitting? scope).map (fun x => x.paused)).getD false

/-- The RUN frames a RESUME queues (R76). -/
def State.runTargets (s : State) (scope : Nat) : List Nat :=
  if scope = 0 then
    (s.hall.sittings.filter (fun x =>
      (decide (x.state = .reading) || decide (x.state = .writing)) && !x.paused)).map (fun x => x.number)
  else if s.clock.hallPause then [] else [scope]

/-- The candidates in WRITING or RESTING within a scope that are not held. -/
def State.unheldIn (s : State) (scope : Nat) : List Nat :=
  s.indexesWhere (fun c => inScope scope c.sitting
    && (decide (c.state = .writing) || decide (c.state = .resting)) && !s.held c.sitting)

/-- RESUME (R76). -/
def cmdResume (p : Port) (scope : Nat) (s : State) : Answer :=
  if 12 < scope then refuse s .range
  else if scope ≠ 0 ∧ (s.sitting? scope).isNone then refuse s .notFound
  else if ¬ s.isChief p then refuse s .zone
  else if ¬ s.pauseSet scope then refuse s .state
  else
    let s' := s.setPause scope false
    let s'' := (s'.unheldIn scope).foldl (fun t i => t.showCand i) s'
    okay ((s'.runTargets scope).foldl (fun t n => t.queueFrame (s'.pauseFrame (groupAddress n) .run)) s'')

end Sys2Proof.Machine
end

