-- ==== Sys2Proof/Machine/Conduct.lean ====
section
/-! DEFINITION. Chapter 5: admissions by a seat and by a desk, rest, DONE, CALL, FINISH and WITHDRAW. -/

namespace Sys2Proof.Machine

/-- The record that holds a candidate number, with its index (section 1.7). -/
def State.candByNumber (s : State) (number : Nat) : Option (Nat × Cand) :=
  (s.findCand number).bind (fun i => (s.cand? i).map (fun c => (i, c)))

/-! ## Entering the paper (R74, R83) -/

/-- The remaining cues a late admission skips: those whose threshold is at least the starting remaining
time E - S_el (R74). -/
def lateSkips (x : Sitting) (c : Cand) : List Cue := x.dueRemaining c.cuePtr (c.entitled - x.sel)

/-- A late admission (R74): WRITING with consumed S_el and LATE, its remaining cues skipped, a skipped
EXIT_CLOSE setting EXIT_CLOSED without a code, and the display written. -/
def State.enterLate (s : State) (i : Nat) (c : Cand) (x : Sitting) (override : Bool) : State :=
  let skips := lateSkips x c
  let s' := (s.setCandState i .writing).mapCand i (fun y =>
    { y with consumed := x.sel, late := true, lateOverride := y.lateOverride || override,
             cuePtr := y.cuePtr + skips.length,
             exitClosed := y.exitClosed || skips.any (fun q => decide (q.kind = .exitClose)) })
  ((s'.joinSecond i x.number).showCand i).sittingTests x.number

/-- A taken admission at the candidate's own seat (R83). -/
def State.admitCand (s : State) (i : Nat) (c : Cand) (x : Sitting) : State :=
  if x.state = .writing then s.enterLate i c x false
  else ((s.setCandState i .admitted).mapCand i (fun y => { y with consumed := 0 })).showCand i

/-- A sitting whose candidates may be admitted (R81, R87). -/
def Sitting.admits (x : Sitting) : Bool :=
  match x.state with
  | .opened | .reading | .writing => true
  | .defined | .collecting | .closed | .final => false

/-! ## Admission by a seat (R81 to R85) -/

/-- A failed admission's code on the seat's display record (R84). -/
def State.failAt (s : State) (n : Nat) (c : CondCode) (arg : Nat := 0) : State :=
  s.writeCode n (.cond c) arg

/-- The WRONG_SEAT notice (R85). -/
def State.notifyWrongSeat (s : State) (n number : Nat) (right : Option Nat) : State :=
  match s.seat? n with
  | none => s
  | some y => s.notifyZone y.zone (.wrongSeat n number right s.hall.time)

/-- The keypad entry buffer of a seat emptied. -/
def State.clearKeys (s : State) (n : Nat) : State := s.mapSeat n (fun y => { y with keys := [] })

/-- Tests 5 to 8 of a seat admission (R82, R83). -/
def State.judgeAtSeat (s : State) (n i : Nat) (c : Cand) (x : Sitting) : State :=
  match c.state with
  | .expected =>
    match c.seat with
    | none => (s.failAt n .unplaced).notifyWrongSeat n c.number none
    | some m =>
      if m ≠ n then (s.failAt n .wrongSeat m).notifyWrongSeat n c.number (some m)
      else if x.state = .writing ∧ tooLate x c then s.failAt n .tooLate
      else (s.admitCand i c x).clearKeys n
  | .admitted | .writing | .resting =>
    if c.seat = some n then (s.showCand i).clearKeys n else s.failAt n .already
  | .finished | .collected | .absent | .withdrawn => s.failAt n .already

/-- A seat admission of a candidate number at a seat (R81 to R83). -/
def State.admitAtSeat (s : State) (n number : Nat) : State :=
  if s.hall.session ≠ .live then s.failAt n .wait
  else
    match s.candByNumber number with
    | none => s.failAt n .unknown
    | some (i, c) =>
      match s.sitting? c.sitting with
      | none => s.failAt n .wait
      | some x =>
        if ¬ x.admits ∨ x.inFlight then s.failAt n .wait else s.judgeAtSeat n i c x

/-- CARD (R80, R81): the event of the report at the head of the inbox, when that is a CARD. -/
def execCard (s : State) : Host.Outcome State Fault Refusal :=
  match s.line.inbox with
  | ⟨n, .card number, _⟩ :: _ => .next (s.leaveInbox.admitAtSeat n number)
  | _ => .next s

/-! ## The keypad (R49) -/

/-- A digit typed: appended, the oldest of nine removed first. -/
def pushDigit (keys : List Nat) (d : Nat) : List Nat :=
  if keys.length < 9 then keys ++ [d] else keys.tail ++ [d]

/-- The candidate number nine digits form, oldest first. -/
def keysNumber (keys : List Nat) : Nat := keys.foldl (fun n d => n * 10 + d) 0

/-- What a key does for its seat: 0Ah is CLEAR and 0Bh is ENTER (R49, R180).
(DEDUCED, log 47: the argument of ENTRY is 0.) -/
def State.keyAt (s : State) (n code : Nat) : State :=
  match s.seat? n with
  | none => s
  | some x =>
    if code = 0x0A then s.clearKeys n
    else if code = 0x0B then
      if x.keys.length < 9 then s.writeCode n (.cond .entry) 0 else s.admitAtSeat n (keysNumber x.keys)
    else s.mapSeat n (fun y => { y with keys := pushDigit y.keys code })

/-- KEY (R49): the event of the report at the head of the inbox, when that is a KEY. -/
def execKey (s : State) : Host.Outcome State Fault Refusal :=
  match s.line.inbox with
  | ⟨n, .key code, _⟩ :: _ => .next (s.leaveInbox.keyAt n code)
  | _ => .next s

/-! ## CALL and DONE (R91, R92) -/

/-- The occupant of a seat: the seat's record, and the candidate with its index. -/
def State.occupantOf (s : State) (n : Nat) : Option (Seat × Nat × Cand) :=
  (s.seat? n).bind (fun x => x.occupant.bind (fun i => (s.cand? i).map (fun c => (x, i, c))))

/-- What a CALL does at its seat (R92); with no occupant the report is dropped. -/
def State.callAt (s : State) (n : Nat) : State :=
  match s.occupantOf n with
  | none => s
  | some (x, _, c) =>
    (s.writeDisplay n (fun d => { d with lamp := true })).notifyZone x.zone
      (.call n c.number c.state s.hall.time)

/-- CALL_REPORT (R92): the event of the report at the head of the inbox, when that is a CALL. -/
def execCallReport (s : State) : Host.Outcome State Fault Refusal :=
  match s.line.inbox with
  | ⟨n, .call, _⟩ :: _ => .next (s.leaveInbox.callAt n)
  | _ => .next s

/-- The exit-open mark of a candidate's sitting (R66). -/
def State.exitOpen (s : State) (c : Cand) : Bool :=
  ((s.sitting? c.sitting).map (fun x => x.exitOpen)).getD false

/-- What a DONE does at its seat (R91); with no occupant the report is dropped. -/
def State.doneAt (s : State) (n : Nat) : State :=
  match s.occupantOf n with
  | none => s
  | some (_, i, c) =>
    if c.state = .writing ∧ ¬ s.held c.sitting ∧ s.exitOpen c ∧ ¬ c.exitClosed then s.finishCand i .early
    else if c.state = .writing ∧ c.exitClosed then s.failAt n .exitClosed
    else s.failAt n .wait

/-- DONE_REPORT (R91): the event of the report at the head of the inbox, when that is a DONE. -/
def execDoneReport (s : State) : Host.Outcome State Fault Refusal :=
  match s.line.inbox with
  | ⟨n, .done, _⟩ :: _ => .next (s.leaveInbox.doneAt n)
  | _ => .next s

/-! ## Desk commands on a candidate (R86, R93) -/

/-- The screening of R86 on a candidate number: RANGE, NOT_FOUND and ZONE.  A command that passes puts
out the lamp of the candidate's seat (R93) and goes on in the state after that. -/
def screenCand (p : Port) (number : Nat) (s : State)
    (own : Nat → Cand → State → Answer) : Answer :=
  if ¬ numberOk number then refuse s .range
  else
    match s.candByNumber number with
    | none => refuse s .notFound
    | some (i, c) =>
      if ¬ s.passes p (s.candZone c) then refuse s .zone else own i c (s.lampOff c.seat)

/-! ## ADMIT (R87, R88) -/

/-- The fields of a taken ADMIT's reply (R87). -/
def admitFields (s : State) (i : Nat) : List Field :=
  match s.cand? i with
  | none => []
  | some c => [optField 2 c.seat, ⟨2, c.entitled⟩, ⟨2, c.remaining⟩, ⟨1, flagsValue [c.late, c.lateOverride]⟩]

/-- ADMIT's own tests for a candidate that is not ABSENT with override (R87). -/
def admitOwn (i : Nat) (c : Cand) (s : State) : Answer :=
  match s.sitting? c.sitting with
  | none => refuse s .state
  | some x =>
    if x.inFlight then refuse s .busy
    else if ¬ x.admits then refuse s .state
    else if c.state ≠ .expected then refuse s .state
    else if c.seat.isNone then refuse s .state
    else if x.state = .writing ∧ tooLate x c then refuse s .tooLate
    else
      let s' := s.admitCand i c x
      -- the keypad buffer of the candidate's seat is emptied with R83's other effects
      let s' := match c.seat with
        | some n => s'.clearKeys n
        | none => s'
      okay s' (admitFields s' i)

/-- The return of an ABSENT candidate to the paper on a named seat (R88). -/
def State.readmit (s : State) (i : Nat) (c : Cand) (x : Sitting) (seat : Nat) (breach : Bool) : State :=
  let s' := s.place i seat (fun d => d.placedFor c)
  let s'' := if breach then s'.mapSeat seat (fun y => { y with waiver := true }) else s'
  s''.enterLate i c x true

/-- ADMIT with override of an ABSENT candidate, after the RANGE and NOT_FOUND tests (R88). -/
def admitOverride (p : Port) (i : Nat) (c : Cand) (seat waiver : Nat) (s : State) : Answer :=
  if seat = 0 then refuse s .state
  else
    match s.seat? seat, s.sitting? c.sitting with
    | some y, some x =>
      let breach := s.neighbourOf y c.sitting none
      if ¬ s.passes p y.zone then refuse s .zone
      else if x.inFlight then refuse s .busy
      else if x.state ≠ .writing then refuse s .state
      else if ¬ y.target then refuse s .state
      else if breach ∧ waiver = 0 then refuse s .adjacent
      else if tooLate x c then refuse s .tooLate
      else
        let s' := s.readmit i c x seat breach
        okay s' (admitFields s' i)
    | _, _ => refuse s .notFound

/-- ADMIT (R87, R88). -/
def cmdAdmit (p : Port) (number override seat waiver : Nat) (s : State) : Answer :=
  if ¬ markOk override ∨ 511 < seat ∨ ¬ markOk waiver then refuse s .range
  else
    match s.candByNumber number with
    | some (i, c) =>
      if ¬ numberOk number then refuse s .range
      else if c.state = .absent ∧ override = 1 then admitOverride p i c seat waiver s
      else screenCand p number s admitOwn
    | none => screenCand p number s admitOwn

/-! ## Rest (R89, R90) -/

/-- REST_START's own tests and effects (R89). -/
def restStartOwn (i : Nat) (c : Cand) (s : State) : Answer :=
  if c.state ≠ .writing then refuse s .state
  else if c.restBudget ≤ c.restUsed then refuse s .range
  else okay ((s.setCandState i .resting).showCand i) [⟨2, c.restBudget - c.restUsed⟩]

/-- REST_START (R89). -/
def cmdRestStart (p : Port) (number : Nat) (s : State) : Answer := screenCand p number s restStartOwn

/-- REST_END's own test and effects (R90). -/
def restEndOwn (i : Nat) (c : Cand) (s : State) : Answer :=
  if c.state ≠ .resting then refuse s .state
  else okay (s.leaveRest i c.sitting none)
    [⟨2, c.restUsed⟩, ⟨2, c.restBudget - c.restUsed⟩]

/-- REST_END (R90). -/
def cmdRestEnd (p : Port) (number : Nat) (s : State) : Answer := screenCand p number s restEndOwn

/-! ## FINISH and WITHDRAW (R95, R96) -/

/-- FINISH's own test and effects (R95). -/
def finishOwn (i : Nat) (c : Cand) (s : State) : Answer :=
  if c.state ≠ .writing ∧ c.state ≠ .resting then refuse s .state
  else okay (s.finishCand i .desk) [⟨2, c.consumed⟩, ⟨2, c.issued⟩, ⟨2, c.returned⟩]

/-- FINISH (R95). -/
def cmdFinish (p : Port) (number : Nat) (s : State) : Answer := screenCand p number s finishOwn

/-- A candidate WITHDRAW takes (R96). -/
def Cand.withdrawable (c : Cand) : Bool :=
  match c.state with
  | .expected | .admitted | .writing | .resting | .finished => true
  | .collected | .absent | .withdrawn => false

/-- The body of an INCIDENT record with cause WITHDRAWN (R96); the cause leads it, in the order R146 names
the causes' rules. (DESIGN CHOICE, log 12.) -/
def State.withdrawnBody (s : State) (c : Cand) : List Field :=
  [⟨1, 1⟩, s.sessionField, ⟨1, c.sitting⟩, ⟨4, c.number⟩, ⟨1, CandState.code c.state⟩, ⟨2, c.consumed⟩,
    ⟨2, c.issued⟩, ⟨2, c.returned⟩, s.timeField]

/-- WITHDRAW's own tests and effects (R96). -/
def withdrawOwn (i : Nat) (c : Cand) (s : State) : Answer :=
  if s.inFlight c.sitting then refuse s .busy
  else if ¬ c.withdrawable then refuse s .state
  else okay (((((s.setCandState i .withdrawn).releaseCand i).offer .incident (s.withdrawnBody c))).sittingTests
      c.sitting)
    [⟨1, CandState.code c.state⟩, ⟨2, c.issued⟩, ⟨2, c.returned⟩]

/-- WITHDRAW (R96). -/
def cmdWithdraw (p : Port) (number : Nat) (s : State) : Answer := screenCand p number s withdrawOwn

end Sys2Proof.Machine
end

