-- ==== Sys2Proof/Machine/Custody.lean ====
section
/-! DEFINITION. Chapter 6: issue, return, void and claim of tags. -/

namespace Sys2Proof.Machine

/-! ## Issue (R102, R103) -/

/-- A candidate a tag can be issued to (R102, test 2). -/
def Cand.issuable (c : Cand) : Bool :=
  match c.state with
  | .admitted | .writing | .resting => true
  | .expected | .finished | .collected | .absent | .withdrawn => false

/-- What an issue comes to: the state after it, the result, and whether it was taken without change. -/
structure Issued where
  state : State
  result : ResultCode
  again : Bool

/-- An issue that creates an entry (R102, R101). -/
def State.createEntry (s : State) (i t : Nat) : State :=
  let e : Custody := { script := t, cand := some i, kind := scriptKind t, state := .issued,
                       issueTime := some s.hall.time, returnTime := none }
  { s with custody := s.custody ++ [e] }.mapCand i (fun c => { c with issued := c.issued + 1 })

/-- An issue of a tag to a candidate (R102). -/
def State.issue (s : State) (i : Nat) (c : Cand) (t : Nat) : Issued :=
  if ¬ scriptOk t then ⟨s, .range, false⟩
  else if ¬ c.issuable then ⟨s, .state, false⟩
  else
    match s.entry? t with
    | some e =>
      if e.cand = some i ∧ e.state = .issued then ⟨s, .ok, true⟩
      else if e.state = .void then ⟨s, .state, false⟩
      else ⟨s, .duplicate, false⟩
    | none =>
      if scriptKind t = .sheet ∧ s.hasLiveSheet i then ⟨s, .duplicate, false⟩
      else if Config.custodySize ≤ s.custody.length then ⟨s, .full, false⟩
      else ⟨s.createEntry i t, .ok, false⟩

/-- The code an issue's outcome is shown as (R103). -/
def issueCode : ResultCode → CondCode
  | .ok => .issued
  | .range => .range
  | .duplicate => .duplicate
  | .full => .full
  | _ => .state

/-- What a TAG report does at its seat (R103). -/
def State.tagAt (s : State) (n t : Nat) : State :=
  match s.occupantOf n with
  | none => s.writeCode n (.cond .state) 0
  | some (_, i, c) =>
    let r := s.issue i c t
    r.state.writeCode n (.cond (issueCode r.result)) (if r.result = .ok then lastFour t else 0)

/-- TAG_REPORT (R103): the event of the report at the head of the inbox, when that is a TAG. -/
def execTagReport (s : State) : Host.Outcome State Fault Refusal :=
  match s.line.inbox with
  | ⟨n, .tag t, _⟩ :: _ => .next (s.leaveInbox.tagAt n t)
  | _ => .next s

/-- A code written to the display record of a candidate's seat, if it has one. -/
def State.writeCandCode (s : State) (o : Option Nat) (code : DispCode) (arg : Nat) : State :=
  match o with
  | none => s
  | some n => s.writeCode n code arg

/-- ISSUE_TAG's own tests and effects (R104). -/
def issueTagOwn (t i : Nat) (c : Cand) (s : State) : Answer :=
  let r := s.issue i c t
  if r.result = .ok then
    let s' := r.state.writeCandCode c.seat (.cond .issued) (lastFour t)
    okay s' [⟨1, TagKind.code (scriptKind t)⟩, ⟨2, ((s'.cand? i).map (fun y => y.issued)).getD 0⟩, markField r.again]
  else ⟨r.state, r.result, []⟩

/-- ISSUE_TAG (R104).  A value no tag has is refused at the screening's RANGE test (R177).
(DEDUCED, log 22.) -/
def cmdIssueTag (p : Port) (number script : Nat) (s : State) : Answer :=
  if 99999999 < script then refuse s .range else screenCand p number s (issueTagOwn script)

/-! ## Return (R105, R106) -/

/-- The return of an unknown tag: a stray, and STRAY_TAG to every desk (R106). -/
def State.createStray (s : State) (p : Port) (t : Nat) : State :=
  let e : Custody := { script := t, cand := none, kind := scriptKind t, state := .returned,
                       issueTime := none, returnTime := some s.hall.time }
  { s with custody := s.custody ++ [e] }.notifyDesks (.strayTag t (scriptKind t) p s.hall.time)

/-- The return of an ISSUED tag: RETURNED, the candidate's returned count, the collection test; whether
it collected the candidate (R105). -/
def State.returnIssued (s : State) (t : Nat) (cand : Option Nat) : State × Bool :=
  let s' := s.mapEntry t (fun e => { e with state := .returned, returnTime := some s.hall.time })
  match cand with
  | none => (s', false)
  | some i =>
    let s'' := s'.mapCand i (fun c => { c with returned := c.returned + 1 })
    (s''.collectionTest i, s''.collectable i)

/-- One tag of RETURN_TAGS judged: the state after it, its result and its collected mark (R105).
(DEDUCED, log 22.) -/
def State.returnTag (s : State) (p : Port) (t : Nat) : State × ResultCode × Bool :=
  if ¬ scriptOk t then (s, .range, false)
  else
    match s.entry? t with
    | none =>
      if Config.custodySize ≤ s.custody.length then (s, .full, false) else (s.createStray p t, .ok, false)
    | some e =>
      match e.state with
      | .issued => let r := s.returnIssued t e.cand; (r.1, .ok, r.2)
      | .returned | .marked => (s, .duplicate, false)
      | .void => (s, .state, false)

/-- The reply's fields for one tag of RETURN_TAGS, read after its judgment (R105). -/
def returnFields (s : State) (t : Nat) (r : ResultCode) (collected : Bool) : List Field :=
  let e := s.entry? t
  [⟨4, t⟩, ⟨1, ResultCode.code r⟩, optField 4 (s.numberOf (e.bind (fun x => x.cand))),
    ⟨1, tagStateCode (e.map (fun x => x.state))⟩, markField collected]

/-- The tags of RETURN_TAGS, one at a time in the order carried (R105). -/
def returnAll (p : Port) : List Nat → State → State × List Field
  | [], s => (s, [])
  | t :: ts, s =>
    let r := s.returnTag p t
    let rest := returnAll p ts r.1
    (rest.1, returnFields r.1 t r.2.1 r.2.2 ++ rest.2)

/-- RETURN_TAGS (R105). -/
def cmdReturnTags (p : Port) (count : Nat) (scripts : List Nat) (s : State) : Answer :=
  if count = 0 ∨ 16 < count ∨ scripts.length ≠ count then refuse s .range
  else let r := returnAll p scripts s; okay r.1 r.2

/-! ## Void and claim (R107, R108) -/

/-- The candidate an entry names passes zone screening; a stray is not screened (R107). -/
def State.entryPasses (s : State) (p : Port) (e : Custody) : Bool :=
  match e.cand.bind s.cand? with
  | some c => s.passes p (s.candZone c)
  | none => true

/-- VOID_TAG (R107). -/
def cmdVoidTag (p : Port) (script : Nat) (s : State) : Answer :=
  if ¬ scriptOk script then refuse s .range
  else
    match s.entry? script with
    | none => refuse s .notFound
    | some e =>
      if ¬ s.entryPasses p e then refuse s .zone
      else if e.state ≠ .issued then refuse s .state
      else
        let s' := s.mapEntry script (fun x => { x with state := .void })
        let fields := [optField 4 (s.numberOf e.cand), ⟨1, TagKind.code e.kind⟩]
        match e.cand with
        | some i => okay (s'.collectionTest i) fields
        | none => okay s' fields

/-- A candidate CLAIM_TAG gives a stray to (R108). -/
def Cand.claims (c : Cand) : Bool :=
  match c.state with
  | .expected | .absent => false
  | .admitted | .writing | .resting | .finished | .collected | .withdrawn => true

/-- A claim taken (R108): the entry names the candidate, the counts go up, the collection test is made,
and a COLLECTED candidate's custody record is amended. -/
def State.claim (s : State) (i : Nat) (c : Cand) (t : Nat) : State :=
  let s1 := s.mapEntry t (fun e => { e with cand := some i })
  let s2 := s1.mapCand i (fun y => { y with issued := y.issued + 1, returned := y.returned + 1 })
  if c.state = .collected then
    (s2.mapCand i (fun y => { y with nilScript := false })).offerCustodyClose i true
  else s2.collectionTest i

/-- The fields of a taken CLAIM_TAG's reply (R108). -/
def claimFields (s : State) (i : Nat) : List Field :=
  match s.cand? i with
  | none => []
  | some c => [⟨1, CandState.code c.state⟩, ⟨2, c.issued⟩, ⟨2, c.returned⟩]

/-- CLAIM_TAG's own tests and effects (R108). -/
def claimOwn (t : Nat) (e : Custody) (i : Nat) (c : Cand) (s : State) : Answer :=
  if e.cand.isSome ∨ ¬ c.claims then refuse s .state
  else if e.kind = .sheet ∧ s.hasLiveSheet i then refuse s .duplicate
  else let s' := s.claim i c t; okay s' (claimFields s' i)

/-- CLAIM_TAG (R108). -/
def cmdClaimTag (p : Port) (script number : Nat) (s : State) : Answer :=
  if ¬ scriptOk script ∨ ¬ numberOk number then refuse s .range
  else
    match s.entry? script with
    | none => refuse s .notFound
    | some e => screenCand p number s (claimOwn script e)

end Sys2Proof.Machine
end

