-- ==== Sys2Proof/Machine/Hall.lean ====
section
/-! DEFINITION. Chapter 1: sessions, the closing drain, the resets of the whole controller, and the
loading commands. -/

namespace Sys2Proof.Machine

/-! ## Resets (R23, R24, R58, R59, R99, R119, R122, R130, R139, R162, R176) -/

/-- The seat line after a DISCARD or CLOSE reset (R58): a controller frame on the line completes with
no effect, and a report on the line or held is not acknowledged. -/
def SeatLine.reset (l : SeatLine) : SeatLine :=
  { groupQueue := [clearFrame]
    cond :=
      match l.cond with
      | .idle => .idle
      | .quiet => .quiet
      | .busyController f _ => .busyController f true
      | .busyReport r _ => .busyReport r .refused
      | .hold r => .busyReport r .refused }

/-- A CLOSE reset: tables, zone grants, seat line, clocks, custody, batch, slots and scoring cleared;
the allocation engine has no run (R24), and the archive and the ports are left as they stand. -/
def State.closeReset (s : State) : State :=
  { s with hall := {}, line := s.line.reset, clock := {}, custody := [], marking := {} }

/-- A DISCARD reset: as a CLOSE reset, and the run state with every other item of the Allocation Engine
cleared (R24). -/
def State.discardReset (s : State) : State := { s.closeReset with alloc := {} }

/-- What a POWER reset does to a program running in a plane: it is cut off, and its page is torn
(R162). -/
def cutProgram (p : PlaneId) (event : Nat) (run : Run) (m : List Host.Cell) : List Host.Cell :=
  match run with
  | .record b pg => programPage m p b pg (tornPage event pg)
  | .tail b => programPage m p b Config.tailPage (tornPage event Config.tailPage)
  | _ => m

/-- What a POWER reset does to an erase begun in a plane: it is cut off (R159, R162). -/
def cutErasing (p : PlaneId) (event : Nat) (pl : Plane) (m : List Host.Cell) : List Host.Cell :=
  match pl.eraseBegun, pl.findBlock .erasing with
  | true, some b => cutErase p b event m
  | _, _ => m

/-- The archive after a POWER reset: only the pages stay, less what the reset cut off, and the
power-up scan begins (R158, R162). -/
def Archive.powerReset (a : Archive) : Archive :=
  let e := a.disturbances
  let m := cutProgram .p0 e a.p0.run a.mem
  let m := cutProgram .p1 (e + 1) a.p1.run m
  let m := cutErasing .p0 (e + 2) a.p0 m
  let m := cutErasing .p1 (e + 3) a.p1 m
  { mem := m, disturbances := e + 4 }

/-- Every block at its POWER values (R23, R162, R176). -/
def State.powerReset (s : State) : State :=
  { State.reset with arch := s.arch.powerReset, pending := s.pending }

/-- POWER_RESET. -/
def execPowerReset (s : State) : Host.Outcome State Fault Refusal := .next s.powerReset

/-! ## Sessions (R4 to R8) -/

/-- SESSION_OPEN (R4).  A notice of its record's offer is stamped with the hall time at which the command
was taken (R1). -/
def cmdSessionOpen (session hallTime : Nat) (s : State) : Answer :=
  if session = 0 ∨ 65535 < session ∨ 86399 < hallTime then refuse s .range
  else
    let h := { s.hall with session := .loading, sessionNo := some session, time := hallTime,
                           masks := {}, chief := .d0 }
    let s' := { s with hall := h, clock := { s.clock with hallPause := false } }
    okay (s'.offer .sessionOpen [⟨2, session⟩, ⟨4, hallTime⟩] s.hall.time)

/-- SESSION_GO (R5). -/
def cmdSessionGo (s : State) : Answer :=
  okay { s with hall := { s.hall with session := .live } }

/-- A sitting that keeps SESSION_CLOSE waiting (R6). -/
def Sitting.running (x : Sitting) : Bool :=
  match x.state with
  | .opened | .reading | .writing | .collecting => true
  | .defined | .closed | .final => false

/-- SESSION_CLOSE (R6): the closing drain begins. -/
def cmdSessionClose (s : State) : Answer :=
  if s.alloc.running then refuse s .busy
  else if s.hall.sittings.any Sitting.running then refuse s .state
  else okay { s with hall := { s.hall with session := .closing, drain := .custody 0 } }

/-- SESSION_DISCARD (R8): a DISCARD reset, then the SESSION_DISCARDED record with the session number
and the hall time before it, which stamps a notice of its offer too (R1). -/
def cmdSessionDiscard (s : State) : Answer :=
  okay (s.discardReset.offer .sessionDiscarded [s.sessionField, s.timeField] s.hall.time)

/-! ## The closing drain (R7) -/

/-- The first candidate index from `i` on whose record is not in COLLECTED. -/
def nextUncollected (cands : List Cand) (i : Nat) : Option Nat :=
  ((cands.drop i).findIdx? (fun c => decide (c.state ≠ .collected))).map (fun k => i + k)

/-- The drain's next record, when the queue has a free entry: a CUSTODY_CLOSE for the next candidate
not in COLLECTED, and after the last of them SESSION_CLOSED (R7). -/
def State.drainOffer (s : State) : State :=
  match s.hall.drain with
  | .custody i =>
    if s.arch.canTake then
      match nextUncollected s.hall.cands i with
      | some j =>
        { s with hall := { s.hall with drain := .custody (j + 1) } }.offerCustodyClose j false
      | none =>
        { s with hall := { s.hall with drain := .waitEmpty } }.offer .sessionClosed
          [s.sessionField, s.timeField, ⟨2, s.hall.cands.length⟩]
    else s
  | _ => s

/-- CLOSING_DRAIN_OFFER (R7): with the queue full, or no record left to hand over, the drain waits. -/
def execClosingDrainOffer (s : State) : Host.Outcome State Fault Refusal := .next s.drainOffer

/-- CLOSING_END (R7): the queue is empty after SESSION_CLOSED was queued, and a CLOSE reset ends
CLOSING. -/
def execClosingEnd (s : State) : Host.Outcome State Fault Refusal :=
  if s.hall.drain = .waitEmpty ∧ s.arch.queue = [] then .next s.closeReset else .next s

/-! ## Loading (R9 to R22) -/

/-- A seat record put in its place in the seat map, seat numbers ascending. -/
def insertSeat (x : Seat) : List Seat → List Seat
  | [] => [x]
  | y :: ys => if x.seat < y.seat then x :: y :: ys else y :: insertSeat x ys

/-- A sitting record put in its place in the sitting table, sitting numbers ascending. -/
def insertSitting (x : Sitting) : List Sitting → List Sitting
  | [] => [x]
  | y :: ys => if x.number < y.number then x :: y :: ys else y :: insertSitting x ys

/-- SEAT_DEFINE (R11). -/
def cmdSeatDefine (seat row column zone kind : Nat) (s : State) : Answer :=
  match seatKindOf kind with
  | none => refuse s .range
  | some k =>
    if ¬ seatOk seat ∨ row = 0 ∨ 32 < row ∨ column = 0 ∨ 32 < column ∨ 7 < zone then refuse s .range
    else if s.alloc.running then refuse s .busy
    else if ((s.seat? seat).bind (fun x => x.occupant)).isSome then refuse s .state
    else if s.hall.seats.any (fun x => x.seat != seat && x.row == row && x.column == column) then
      refuse s .duplicate
    else
      match s.seat? seat with
      | some _ =>
        okay (s.mapSeat seat (fun x => { x with row := row, column := column, zone := zone, kind := k }))
      | none =>
        let x : Seat := { seat := seat, row := row, column := column, zone := zone, kind := k }
        okay { s with hall := { s.hall with seats := insertSeat x s.hall.seats } }

/-- ZONE_GRANT (R13). -/
def cmdZoneGrant (desk mask chief : Nat) (s : State) : Answer :=
  match deskOf desk with
  | none => refuse s .range
  | some d =>
    if 255 < mask ∨ ¬ markOk chief then refuse s .range
    else
      let h := { s.hall with masks := s.hall.masks.set d (BitVec.ofNat 8 mask),
                             chief := if chief = 1 then d else s.hall.chief }
      okay { s with hall := h } [⟨1, deskCode h.chief⟩]

/-- The field tests of SITTING_DEFINE that give RANGE (R14, R15). -/
def sittingFieldsOk (f : SittingFields) : Bool :=
  sittingOk f.sitting && f.paper.length == 8 && f.paper.all (fun c => 0x20 ≤ c && c ≤ 0x7E)
    && 60 ≤ f.base && f.base ≤ 28800 && f.reading ≤ 1800 && f.pauseLimit ≤ 3600
    && 1 ≤ f.zoneCount && f.zoneCount ≤ 8 && f.zones.length == f.zoneCount && f.zones.all (fun z => z ≤ 7)
    && 1 ≤ f.outMax && f.outMax ≤ 10000 && f.passMark ≤ f.outMax && f.penalty ≤ 255

/-- A cue that a new B would make invalid (R16). -/
def Sitting.cueOver (x : Sitting) (base : Nat) : Bool :=
  (x.elapsedCues ++ x.remainingCues).any (fun q => base ≤ q.value)

/-- The entitlements of a sitting's candidates computed afresh (R16, R60). -/
def State.recomputeE (s : State) (n base : Nat) : State :=
  { s with hall := { s.hall with cands := s.hall.cands.map (fun c =>
      if c.sitting = n then { c with entitled := entitlement base c.allowance } else c) } }

/-- SITTING_DEFINE for a sitting number with a record: a redefinition (R16). -/
def redefineSitting (f : SittingFields) (ip : InvalidPolicy) (fp : FloorPolicy) (x : Sitting)
    (s : State) : Answer :=
  if x.inFlight then refuse s .busy
  else if x.state ≠ .defined then refuse s .state
  else if x.cueOver f.base then refuse s .range
  else
    let s' := s.mapSitting f.sitting (fun y =>
      { y with paper := f.paper, base := f.base, reading := f.reading, pauseLimit := f.pauseLimit,
               zones := f.zones, outMax := f.outMax, passMark := f.passMark, penalty := f.penalty,
               invalidPolicy := ip, floorPolicy := fp })
    okay (if f.base = x.base then s' else s'.recomputeE f.sitting f.base)

/-- SITTING_DEFINE (R15, R16).  A repeated zone is DUPLICATE for a redefinition too, ahead of its BUSY and
STATE: it is counted among the field tests of R15, which R16's tests follow. (DEDUCED, log 43.) -/
def cmdSittingDefine (f : SittingFields) (s : State) : Answer :=
  match invalidPolicyOf f.invalidPolicy, floorPolicyOf f.floorPolicy with
  | some ip, some fp =>
    if ¬ sittingFieldsOk f then refuse s .range
    else if ¬ distinct f.zones then refuse s .duplicate
    else
      match s.sitting? f.sitting with
      | some x => redefineSitting f ip fp x s
      | none =>
        let x : Sitting :=
          { number := f.sitting, paper := f.paper, base := f.base, reading := f.reading,
            pauseLimit := f.pauseLimit, zones := f.zones, outMax := f.outMax, passMark := f.passMark,
            penalty := f.penalty, invalidPolicy := ip, floorPolicy := fp }
        okay { s with hall := { s.hall with sittings := insertSitting x s.hall.sittings } }
  | _, _ => refuse s .range

/-- A sitting CANDIDATE_ADD adds to (R20): DEFINED, OPEN, READING, or WRITING with admission open. -/
def Sitting.takesNew (x : Sitting) : Bool :=
  match x.state with
  | .defined | .opened | .reading => true
  | .writing => x.admission
  | .collecting | .closed | .final => false

/-- CANDIDATE_ADD (R20). -/
def cmdCandidateAdd (number sitting access allowance rest : Nat) (s : State) : Answer :=
  if ¬ numberOk number ∨ ¬ sittingOk sitting ∨ ¬ markOk access ∨ 100 < allowance ∨ 3600 < rest then
    refuse s .range
  else
    match s.sitting? sitting with
    | none => refuse s .notFound
    | some x =>
      if x.inFlight then refuse s .busy
      else if ¬ x.takesNew then refuse s .state
      else if (s.findCand number).isSome then refuse s .duplicate
      else if Config.maxCandidates ≤ s.hall.cands.length then refuse s .full
      else
        let c : Cand :=
          { number := number, sitting := sitting, access := access = 1, allowance := allowance,
            restBudget := rest, entitled := entitlement x.base allowance }
        let s' := { s with hall := { s.hall with cands := s.hall.cands ++ [c] } }
        okay (s'.mapSitting sitting (fun y => { y with enrolled := y.enrolled + 1,
                                                       counts := y.counts.inc .expected }))
          [⟨2, s.hall.cands.length⟩]

/-- A candidate CANDIDATE_AMEND takes (R21). -/
def Cand.amendable (c : Cand) : Bool :=
  match c.state with
  | .expected | .admitted | .writing | .resting => true
  | .finished | .collected | .absent | .withdrawn => false

/-- What a taken CANDIDATE_AMEND does after its values are stored (R22): it finishes a writing or resting
candidate whose new E is not above consumed, and ends a rest whose budget is used up. -/
def amendEffects (i : Nat) (c : Cand) (e budget : Nat) (s : State) : State :=
  if (c.state = .writing ∨ c.state = .resting) ∧ e ≤ c.consumed then
    (s.mapCand i (fun c => { c with consumed := e })).finishCand i .time
  else if c.state = .resting ∧ budget = c.restUsed then
    s.leaveRest i c.sitting (some (.cond .restOver))
  else s

/-- CANDIDATE_AMEND (R21, R22). -/
def cmdCandidateAmend (number allowance rest access : Nat) (s : State) : Answer :=
  if ¬ numberOk number ∨ 100 < allowance ∨ 3600 < rest ∨ ¬ markOk access then refuse s .range
  else
    match (s.findCand number).bind (fun i => (s.cand? i).map (fun c => (i, c))) with
    | none => refuse s .notFound
    | some (i, c) =>
      if s.inFlight c.sitting then refuse s .busy
      else if ¬ c.amendable then refuse s .state
      else
        let base := ((s.sitting? c.sitting).map (fun x => x.base)).getD 0
        let e := entitlement base allowance
        let budget := max rest c.restUsed
        let s' := (s.mapCand i (fun c => { c with allowance := allowance, restBudget := budget,
                                                  access := access = 1, entitled := e })).showCand i
        okay (amendEffects i c e budget s') [⟨2, e⟩]

end Sys2Proof.Machine
end

