-- ==== Sys2Proof/Machine/Assembler.lean ====
section
/-! DEFINITION. Chapter 7: layouts and keys, the marking batch, pages gathered in assembly slots. -/

namespace Sys2Proof.Machine

/-! ## Layouts (R114) -/

/-- The RANGE test of LAYOUT_DEFINE (R114). -/
def layoutInRange (sitting pageCount : Nat) (counts : List Nat) : Bool :=
  sittingOk sitting && 1 ≤ pageCount && pageCount ≤ 4 && counts.length == pageCount
    && counts.all (fun n => 1 ≤ n && n ≤ 50) && counts.sum ≤ 200

/-- LAYOUT_DEFINE (R114).  The first item of each page follows from the counts. -/
def cmdLayoutDefine (sitting pageCount : Nat) (counts : List Nat) (s : State) : Answer :=
  if ¬ layoutInRange sitting pageCount counts then refuse s .range
  else
    match s.sitting? sitting with
    | none => refuse s .notFound
    | some x =>
      if x.state = .final ∨ x.keyState ≠ .empty then refuse s .state
      else okay (s.mapSitting sitting (fun y => { y with layout := some counts })) [⟨1, itemCount counts⟩]

/-! ## Keys (R115 to R118) -/

/-- How many options of a set are marked. -/
def markCount (m : BitVec 8) : Nat := ((List.range 8).filter (fun i => m.getLsbD i)).length

/-- The options beyond an option count. -/
def beyondOptions (n : Nat) : BitVec 8 := BitVec.ofNat 8 (256 - 2 ^ n)

/-- The first RANGE test of KEY_ITEM (R115): the fields that are read for the kind. -/
def keyItemInRange (f : KeyItemFields) (k : ItemKind) : Bool :=
  sittingOk f.sitting && 1 ≤ f.item && f.item ≤ 200 && f.weight ≤ 255 &&
    (match k with
     | .single | .multi => 2 ≤ f.optionCount && f.optionCount ≤ 8 && f.keyed ≤ 255
     | .numeric => f.numericKey ≤ 999999 && f.tolerance ≤ 999999 && 1 ≤ f.columns && f.columns ≤ 6)

/-- The last RANGE test of KEY_ITEM passes (R115). -/
def keyedOk (f : KeyItemFields) (k : ItemKind) : Bool :=
  let m := BitVec.ofNat 8 f.keyed
  match k with
  | .single => markCount m == 1 && m &&& beyondOptions f.optionCount == 0
  | .multi => 1 ≤ markCount m && m &&& beyondOptions f.optionCount == 0
  | .numeric => f.numericKey < 10 ^ f.columns

/-- The entry a KEY_ITEM taken places; the fields of the other kinds are not read (R115, R116). -/
def itemEntry (f : KeyItemFields) (k : ItemKind) : ItemEntry :=
  match k with
  | .single | .multi =>
    { kind := k, weight := f.weight, optionCount := f.optionCount, keyed := BitVec.ofNat 8 f.keyed,
      numericKey := 0, tolerance := 0, columns := 0 }
  | .numeric =>
    { kind := k, weight := f.weight, optionCount := 0, keyed := 0#8,
      numericKey := f.numericKey, tolerance := f.tolerance, columns := f.columns }

/-- An item entry put in its item number's place, replacing any entry there (R116). -/
def insertItem (i : Nat) (e : ItemEntry) (items : List (Nat × ItemEntry)) : List (Nat × ItemEntry) :=
  items.filter (fun g => g.1 < i) ++ (i, e) :: items.filter (fun g => i < g.1)

/-- A key state after a KEY_ITEM (R116). -/
def KeyState.loaded : KeyState → KeyState
  | .empty => .loading
  | .loading => .loading
  | .sealed => .sealed

/-- KEY_ITEM (R115, R116). -/
def cmdKeyItem (f : KeyItemFields) (s : State) : Answer :=
  match itemKindOf f.kind with
  | none => refuse s .range
  | some k =>
    if ¬ keyItemInRange f k then refuse s .range
    else
      match s.sitting? f.sitting with
      | none => refuse s .notFound
      | some x =>
        match x.layout with
        | none => refuse s .state
        | some counts =>
          if x.state = .final ∨ x.keyState = .sealed then refuse s .state
          else if itemCount counts < f.item then refuse s .range
          else if ¬ keyedOk f k then refuse s .range
          else
            let put := fun y : Sitting =>
              { y with items := insertItem f.item (itemEntry f k) y.items, keyState := y.keyState.loaded }
            okay (s.mapSitting f.sitting put) [⟨1, (put x).definedItems⟩]

/-- The lowest item of 1..N with no entry (R117). -/
def Sitting.firstMissing (x : Sitting) (n : Nat) : Option Nat :=
  ((List.range n).map (· + 1)).find? (fun i => (x.item? i).isNone)

/-- The weights of items 1..N summed (R117). -/
def Sitting.weightSum (x : Sitting) (n : Nat) : Nat :=
  (((List.range n).map (· + 1)).map (fun i => ((x.item? i).map (fun e => e.weight)).getD 0)).sum

/-- KEY_SEAL (R117). -/
def cmdKeySeal (sitting : Nat) (s : State) : Answer :=
  if ¬ sittingOk sitting then refuse s .range
  else
    match s.sitting? sitting with
    | none => refuse s .notFound
    | some x =>
      let n := itemCount (x.layout.getD [])
      let r := 256 * x.weightSum n
      if x.state = .final ∨ x.keyState ≠ .loading then refuse s .state
      else
        match x.firstMissing n with
        | some i => ⟨s, .notFound, [⟨1, i⟩]⟩
        | none =>
          if r = 0 then refuse s .range
          else okay (s.mapSitting sitting (fun y => { y with rawMax := r, keyState := .sealed }))
            [⟨1, n⟩, ⟨4, r⟩]

/-- KEY_UNSEAL (R118). -/
def cmdKeyUnseal (sitting : Nat) (s : State) : Answer :=
  if ¬ sittingOk sitting then refuse s .range
  else
    match s.sitting? sitting with
    | none => refuse s .notFound
    | some x =>
      if x.state = .final ∨ x.keyState ≠ .sealed then refuse s .state
      else if s.hall.cands.any (fun c => c.sitting == sitting && decide (0 < c.version)) then refuse s .state
      else if s.slotInUse sitting then refuse s .state
      else okay (s.mapSitting sitting (fun y => { y with keyState := .loading }))

/-! ## The batch (R120, R121) -/

/-- BATCH_OPEN (R120). -/
def cmdBatchOpen (number : Nat) (s : State) : Answer :=
  if number = 0 ∨ 65535 < number then refuse s .range
  else if s.marking.batch.opened then refuse s .state
  else okay (s.mapBatch (fun _ => { opened := true, number := number, openedAt := s.hall.time }))

/-- The counts a BATCH record and BATCH_CLOSE's reply carry (R121). -/
def Batch.closeFields (b : Batch) (abandoned : Nat) : List Field :=
  [⟨2, b.scored⟩, ⟨2, b.clamped⟩, ⟨2, b.discarded⟩, ⟨1, abandoned⟩, ⟨2, b.mismatches⟩, markField b.clampSeen]

/-- A slot in SCORING or WAITING holds the batch open (R121). -/
def Slot.holdsBatch (x : Slot) : Bool :=
  match x.state with
  | .scoring | .waiting => true
  | .free | .gathering => false

/-- BATCH_CLOSE (R121). -/
def cmdBatchClose (s : State) : Answer :=
  let b := s.marking.batch
  if ¬ b.opened then refuse s .state
  else if s.marking.slots.any Slot.holdsBatch then refuse s .busy
  else
    let abandoned := (s.marking.slots.filter (fun x => decide (x.state = .gathering))).length
    let slots := s.marking.slots.map (fun x => if x.state = .gathering then {} else x)
    let s1 := { s with marking := { s.marking with slots := slots } }
    let s2 := s1.offer .batch
      ([s.sessionField, ⟨2, b.number⟩, ⟨4, b.openedAt⟩] ++ b.closeFields abandoned ++ [s.timeField])
    okay (s2.mapBatch (fun y => { y with opened := false })) (b.closeFields abandoned)

/-! ## PAGE (R123 to R125) -/

/-- The candidate number a page carries as read; none when bit 0 of the flags is clear (R179). -/
def pageRead (f : PageFields) : Option Nat := if f.flags % 2 = 1 then some f.numberRead else none

/-- A response R123 and R179 take. -/
def responseInRange : Response → Bool
  | .option _ => true
  | .column c cols => 1 ≤ c && c ≤ 6 && cols.length == c && cols.all (fun m => m.toNat < 1024)
  | .malformed => false

/-- The RANGE test of PAGE (R123, R177, R179). -/
def pageInRange (f : PageFields) : Bool :=
  scriptOk f.script && f.flags ≤ 1 && (f.flags == 0 || numberOk f.numberRead)
    && 1 ≤ f.pageNo && f.pageNo ≤ 4 && 1 ≤ f.pageCount && f.pageCount ≤ 4
    && 1 ≤ f.responseCount && f.responseCount ≤ 50 && f.responses.length == f.responseCount
    && f.responses.all responseInRange

/-- A response has the form its item needs (R124). -/
def responseFits (e : ItemEntry) (r : Response) : Bool :=
  match e.kind, r with
  | .single, .option _ => true
  | .multi, .option _ => true
  | .numeric, .column c _ => c == e.columns
  | _, _ => false

/-- The responses of a page have the forms of the items from a first one on (R124). -/
def Sitting.responsesFit (x : Sitting) : Nat → List Response → Bool
  | _, [] => true
  | i, r :: rs =>
    (match x.item? i with
     | some e => responseFits e r
     | none => false) && x.responsesFit (i + 1) rs

/-- The layout check of PAGE (R124). -/
def Sitting.pageFits (x : Sitting) (f : PageFields) : Bool :=
  let counts := x.layout.getD []
  f.pageCount == counts.length && f.pageNo ≤ counts.length
    && f.responseCount == counts.getD (f.pageNo - 1) 0
    && x.responsesFit (firstItem counts f.pageNo) f.responses

/-- A count that stops at 65,535 (R119). -/
def bump (n : Nat) : Nat := min 65535 (n + 1)

/-- A page refused MISMATCH (R123), in whatever state the slot that holds the tag is. (DEDUCED, log 49.) -/
def State.mismatch (s : State) (t : Nat) : State :=
  let s' := s.mapBatch (fun b => { b with mismatches := bump b.mismatches })
  match s.slotOf t with
  | none => s'
  | some k => s'.mapSlot k (fun x => { x with mismatchSeen := true })

/-- A page held in a slot (R125). -/
def Slot.hold (x : Slot) (f : PageFields) : Slot :=
  { x with pages := x.pages ++ [(f.pageNo, f.responses)], readSeen := x.readSeen || (pageRead f).isSome }

/-- A slot holds every page of its sheet (R125). -/
def Slot.whole (x : Slot) : Bool := x.pages.length == x.pageCount

/-- A page placed in a slot: held, and a whole sheet joins the scoring order (R125, R126). -/
def State.placePage (s : State) (k : Nat) (x : Slot) (f : PageFields) : Answer :=
  let y := x.hold f
  let z := if y.whole then { y with state := .scoring } else y
  let s' := s.mapSlot k (fun _ => z)
  let s'' := if y.whole then { s' with marking := { s'.marking with order := s'.marking.order ++ [k] } } else s'
  okay s'' [⟨1, k⟩, ⟨1, z.pages.length⟩, ⟨1, SlotState.code z.state⟩]

/-- The slot a new sheet takes, in GATHERING with no page held (R125). -/
def newSlot (t i sitting pageCount : Nat) : Slot :=
  { state := .gathering, script := t, cand := i, sitting := sitting, pageCount := pageCount }

/-- A page that passes all five checks is placed (R125). -/
def pagePlace (f : PageFields) (i : Nat) (x : Sitting) (s : State) : Answer :=
  match (s.slotOf f.script).bind (fun k => (s.marking.slots[k]?).map (fun y => (k, y))) with
  | some (k, y) =>
    if y.pages.any (fun g => g.1 == f.pageNo) then refuse s .duplicate else s.placePage k y f
  | none =>
    match s.marking.slots.findIdx? (fun y => decide (y.state = .free)) with
    | none => refuse s .full
    | some k => s.placePage k (newSlot f.script i x.number ((x.layout.getD []).length)) f

/-- The identity, key and layout checks of PAGE, and the placement (R123, R124). -/
def pageChecked (f : PageFields) (i : Nat) (c : Cand) (x : Sitting) (s : State) : Answer :=
  if (pageRead f).any (fun n => n != c.number) then ⟨s.mismatch f.script, .mismatch, []⟩
  else if x.keyState ≠ .sealed ∨ x.state = .final then refuse s .state
  else if ¬ x.pageFits f then refuse s .layout
  else pagePlace f i x s

/-- The custody and candidate checks of PAGE (R123, checks 1 and 2). -/
def pageCustody (f : PageFields) (s : State) : Answer :=
  match s.entry? f.script with
  | none => refuse s .notFound
  | some e =>
    if e.state = .marked then refuse s .alreadyMarked
    else if e.kind = .booklet ∨ e.state ≠ .returned then refuse s .state
    else
      match e.cand.bind (fun i => (s.cand? i).map (fun c => (i, c))) with
      | none => refuse s .state
      | some (i, c) =>
        if c.state ≠ .collected then refuse s .state
        else
          match s.sitting? c.sitting with
          | none => refuse s .state
          | some x => pageChecked f i c x s

/-- PAGE (R123 to R125). -/
def cmdPage (f : PageFields) (s : State) : Answer :=
  if ¬ pageInRange f then refuse s .range
  else if ¬ s.marking.batch.opened then refuse s .state
  else pageCustody f s

/-! ## SHEET_DISCARD and SHEET_QUERY (R127, R128) -/

/-- SHEET_DISCARD (R127). -/
def cmdSheetDiscard (script : Nat) (s : State) : Answer :=
  if ¬ scriptOk script then refuse s .range
  else
    match (s.slotOf script).bind (fun k => (s.marking.slots[k]?).map (fun y => (k, y))) with
    | none => refuse s .notFound
    | some (k, y) =>
      if y.holdsBatch then refuse s .busy
      else okay ((s.mapSlot k (fun _ => {})).mapBatch (fun b => { b with discarded := bump b.discarded }))
        [⟨1, y.pages.length⟩]

/-- The pages a slot holds, as marks for pages 1 to 4 from bit 0 up (R128, log 12). -/
def Slot.pageMarks (x : Slot) : Nat :=
  flagsValue ([1, 2, 3, 4].map (fun n => x.pages.any (fun g => g.1 == n)))

/-- Where a slot in SCORING stands (R128): 0 when the Scoring Unit has taken it, or 1 with its position
in the scoring order, counting from 0 (log 12). -/
def Marking.position (m : Marking) (k : Nat) : List Field :=
  match m.order.findIdx? (fun j => j == k) with
  | some n => [⟨1, 1⟩, ⟨1, n⟩]
  | none => [⟨1, 0⟩, ⟨1, 0⟩]

/-- SHEET_QUERY's fields for a tag that a slot holds (R128). -/
def slotFields (s : State) (k : Nat) (x : Slot) : List Field :=
  [⟨1, k⟩, ⟨1, SlotState.code x.state⟩, ⟨1, x.pageCount⟩, ⟨1, x.pageMarks⟩, markField x.readSeen,
    markField x.mismatchSeen] ++ (if x.state = .scoring then s.marking.position k else [])

/-- The summary fields of SHEET_QUERY (R128): the version, the reported mark, the standing, the flags. -/
def Summary.queryFields (m : Summary) : List Field :=
  [⟨4, m.version⟩, signedField 2 m.reported, ⟨1, Standing.code m.standing⟩, m.flags.field]

/-- The summary of the latest result for an entry's tag (R128). (DESIGN CHOICE, log 39.) -/
def State.summaryOf (s : State) (e : Custody) : Option Summary :=
  match e.kind with
  | .booklet => none
  | .sheet => (e.cand.bind s.cand?).bind (fun c => if 0 < c.version then c.summary else none)

/-- SHEET_QUERY's fields for a tag in the custody list (R128). -/
def entryFields (s : State) (e : Custody) : List Field :=
  [⟨1, TagKind.code e.kind⟩, ⟨1, TagState.code e.state⟩, optField 4 (s.numberOf e.cand),
    optTimeField e.issueTime, optTimeField e.returnTime, ⟨1, e.remarks⟩]
    ++ ((s.summaryOf e).map Summary.queryFields).getD []

/-- SHEET_QUERY (R128). -/
def cmdSheetQuery (script : Nat) (s : State) : Answer :=
  if ¬ scriptOk script then refuse s .range
  else
    match (s.slotOf script).bind (fun k => (s.marking.slots[k]?).map (fun y => (k, y))) with
    | some (k, y) => okay s (slotFields s k y)
    | none =>
      match s.entry? script with
      | some e => okay s (entryFields s e)
      | none => refuse s .notFound

end Sys2Proof.Machine
end

