-- ==== Sys2Proof/Machine/Scoring.lean ====
section
/-! DEFINITION. Chapter 8: item credits, the reported mark, the end of scoring, results queued, REMARK and
FINALISE. -/

namespace Sys2Proof.Machine

/-! ## Item credit (R131 to R134) -/

/-- The outcome of one item and its credit in mark units. -/
structure Scored where
  outcome : ItemOutcome
  credit : Int
deriving DecidableEq, Repr

/-- The options an item's option count leaves in play (R131). -/
def optionMask (n : Nat) : BitVec 8 := BitVec.ofNat 8 (2 ^ n - 1)

/-- The credit of a CORRECT item of weight w, +256w. -/
def fullCredit (w : Nat) : Int := 256 * (w : Int)

/-- The credit of a WRONG item of weight w under penalty p, -p w. -/
def wrongCredit (p w : Nat) : Int := -((p : Int) * (w : Int))

/-- The credit of an INVALID item (R132, R134). -/
def invalidCredit (pol : InvalidPolicy) (p w : Nat) : Int :=
  match pol with
  | .asWrong => wrongCredit p w
  | .asBlank => 0

/-- A SINGLE item judged on the marks left after masking (R132). -/
def scoreSingle (pol : InvalidPolicy) (p w : Nat) (keyed marks : BitVec 8) : Scored :=
  if markCount marks = 0 then ⟨.blank, 0⟩
  else if 2 ≤ markCount marks then ⟨.invalid, invalidCredit pol p w⟩
  else if marks = keyed then ⟨.correct, fullCredit w⟩
  else ⟨.wrong, wrongCredit p w⟩

/-- The credit of a MULTI item: the numerator over k, rounded toward zero, not below -p w (R133). -/
def multiCredit (p w k hits extras : Nat) : Int :=
  max (wrongCredit p w) (Int.tdiv ((w : Int) * (256 * (hits : Int) - (p : Int) * (extras : Int))) (k : Int))

/-- A MULTI item judged on the marks left after masking (R133). -/
def scoreMulti (p w : Nat) (keyed marks : BitVec 8) : Scored :=
  if markCount marks = 0 then ⟨.blank, 0⟩
  else
    let k := markCount keyed
    let hits := markCount (marks &&& keyed)
    let extras := markCount (marks &&& ~~~keyed)
    let credit := multiCredit p w k hits extras
    if hits = k ∧ extras = 0 then ⟨.correct, fullCredit w⟩
    else if credit ≤ 0 then ⟨.wrong, credit⟩
    else ⟨.part, credit⟩

/-- What one column of a NUMERIC response reads as (R134). -/
inductive ColumnRead where
  | blank
  | digit (d : Nat)
  | twice
deriving DecidableEq, Repr

/-- A column judged by its marks (R134). -/
def readColumn (m : BitVec 16) : ColumnRead :=
  match (List.range 10).filter (fun i => m.getLsbD i) with
  | [] => .blank
  | [d] => .digit d
  | _ => .twice

/-- The columns between the first digit and the last (R134, test 3). -/
def trimBlanks (cols : List ColumnRead) : List ColumnRead :=
  ((cols.dropWhile (fun c => decide (c = .blank))).reverse.dropWhile (fun c => decide (c = .blank))).reverse

/-- The value that digits form, left to right. -/
def columnsValue (cols : List ColumnRead) : Nat :=
  cols.foldl (fun n c => match c with
    | .digit d => n * 10 + d
    | _ => n) 0

/-- A NUMERIC item judged on its columns (R134). -/
def scoreNumeric (pol : InvalidPolicy) (p w key tolerance : Nat) (cols : List ColumnRead) : Scored :=
  let kept := trimBlanks cols
  let value := columnsValue kept
  if cols.contains .twice then ⟨.invalid, invalidCredit pol p w⟩
  else if kept = [] then ⟨.blank, 0⟩
  else if kept.contains .blank then ⟨.invalid, invalidCredit pol p w⟩
  else if value ≤ key + tolerance ∧ key ≤ value + tolerance then ⟨.correct, fullCredit w⟩
  else ⟨.wrong, wrongCredit p w⟩

/-- One item judged on its response (R131).  A response of the wrong form, which PAGE's layout check
lets into no slot, is BLANK. -/
def scoreItem (x : Sitting) (e : ItemEntry) (r : Response) : Scored :=
  match e.kind, r with
  | .single, .option m =>
    scoreSingle x.invalidPolicy x.penalty e.weight e.keyed (m &&& optionMask e.optionCount)
  | .multi, .option m => scoreMulti x.penalty e.weight e.keyed (m &&& optionMask e.optionCount)
  | .numeric, .column _ cols =>
    scoreNumeric x.invalidPolicy x.penalty e.weight e.numericKey e.tolerance (cols.map readColumn)
  | _, _ => ⟨.blank, 0⟩

/-! ## From raw score to reported mark (R135 to R138) -/

/-- The reported mark before the floor policy: the scaled product over R, rounded to the nearer whole
tenth, a half away from zero (R136). -/
def scaleMark (raw : Int) (outMax rawMax : Nat) : Int :=
  let product := raw * (outMax : Int)
  let magnitude : Int := (((2 * product.natAbs + rawMax) / (2 * rawMax) : Nat) : Int)
  if product < 0 then -magnitude else magnitude

/-- The reported mark bounded by the floor policy, and CLAMPED (R137). -/
def floorMark (pol : FloorPolicy) (reported : Int) : Int × Bool :=
  match pol with
  | .clampZero => if reported < 0 then (0, true) else (reported, false)
  | .signed => (reported, false)

/-- The standing of a reported mark (R138). -/
def standingOf (reported : Int) (passMark : Nat) : Standing :=
  if reported < (passMark : Int) then .below
  else if reported = (passMark : Int) then .at
  else .above

/-- The responses of a slot in item order: its pages by page number, each in order (R131). -/
def Slot.responses (y : Slot) : List Response :=
  ((List.range y.pageCount).map (fun n =>
    ((y.pages.find? (fun g => g.1 == n + 1)).map (fun g => g.2)).getD [])).flatten

/-- The items 1..N judged, in item order (R131). -/
def scoreItems (x : Sitting) (rs : List Response) : List Scored :=
  rs.zipIdx.map (fun p =>
    match x.item? (p.2 + 1) with
    | some e => scoreItem x e p.1
    | none => ⟨.blank, 0⟩)

/-- The working result of a sheet (R135 to R138). -/
def scoreSheet (x : Sitting) (rs : List Response) : SheetResult :=
  let items := scoreItems x rs
  let raw := (items.map (fun i => i.credit)).sum
  let marked := floorMark x.floorPolicy (scaleMark raw x.outMax x.rawMax)
  { outcomes := items.map (fun i => i.outcome), raw := raw,
    invalid := (items.filter (fun i => decide (i.outcome = .invalid))).length,
    reported := marked.1, clamped := marked.2, standing := standingOf marked.1 x.passMark }

/-! ## Scoring begun (R126, R130) -/

/-- What the Scoring Unit reads of a slot when its scoring begins, and what follows from it: the working
result, with the slot's read seen and MISMATCH_SEEN as they stand then (R130). (DEDUCED, log 49.) -/
def scoreSlot (x : Sitting) (y : Slot) : SheetResult :=
  { scoreSheet x y.responses with readSeen := y.readSeen, mismatchSeen := y.mismatchSeen }

/-- The Scoring Unit, holding no slot, takes the head of the scoring order and reads what it scores; the
working result follows from those values (R126, R130). (DESIGN CHOICE, log 18.) -/
def State.takeSlot (s : State) : State :=
  match s.marking.job, s.marking.order with
  | none, k :: ks =>
    match s.marking.slots[k]? with
    | none => s
    | some y =>
      match s.sitting? y.sitting with
      | none => s
      | some x =>
        { s with marking := { s.marking with order := ks, job := some ⟨k, scoreSlot x y⟩ } }
  | _, _ => s

/-- SCORING_START (R126). -/
def execScoringStart (s : State) : Host.Outcome State Fault Refusal := .next s.takeSlot

/-! ## A result queued (R141) -/

/-- The byte of eight bits of a run, from a bit on, most significant first; bits past the end are 0. -/
def byteAt (bits : List Bool) (i : Nat) : Nat :=
  (List.range 8).foldl (fun n k => 2 * n + (if bits.getD (i + k) false then 1 else 0)) 0

/-- The outcome list packed, 3 bits an item, item 1 first (R182). -/
def packOutcomes (os : List ItemOutcome) : List Field :=
  let bits := (os.map (fun o => natBits 3 (ItemOutcome.code o))).flatten
  (List.range ((3 * os.length + 7) / 8)).map (fun j => ⟨1, byteAt bits (8 * j)⟩)

/-- The flags of a result (R141): CLAMPED, the batch's CLAMP_SEEN after the sheet, and ID_UNREAD and
MISMATCH_SEEN from the marks read when scoring began (R130). (DEDUCED, log 49.) -/
def resultFlags (b : Batch) (r : SheetResult) : ResultFlags :=
  { clamped := r.clamped, clampSeen := b.clampSeen || r.clamped, idUnread := !r.readSeen,
    mismatchSeen := r.mismatchSeen }

/-- The body of a RESULT record after its gap count (R182). -/
def State.resultBody (s : State) (c : Cand) (y : Slot) (r : SheetResult) (version : Nat) : List Field :=
  [s.sessionField, ⟨4, c.number⟩, ⟨1, y.sitting⟩, ⟨4, y.script⟩, ⟨2, s.marking.batch.number⟩, ⟨2, version⟩,
    signedField 4 r.raw, signedField 2 r.reported, ⟨1, Standing.code r.standing⟩,
    (resultFlags s.marking.batch r).field, ⟨1, r.invalid⟩, ⟨1, r.outcomes.length⟩]
    ++ packOutcomes r.outcomes

/-- The batch's counts after a result (R141, step 4). -/
def Batch.countResult (b : Batch) (clamped : Bool) : Batch :=
  { b with scored := bump b.scored,
           clamped := if clamped then bump b.clamped else b.clamped,
           clampSeen := b.clampSeen || clamped }

/-- A RESULT record queued for a slot and its result (R141). -/
def State.queueResult (s : State) (k : Nat) (r : SheetResult) : State :=
  match s.marking.slots[k]? with
  | none => s
  | some y =>
    match s.cand? y.cand with
    | none => s
    | some c =>
      let version := c.version + 1
      let flags := resultFlags s.marking.batch r
      let seq := s.arch.seqCounter
      let m : Summary := { script := y.script, version := version, seq := seq,
                           batch := s.marking.batch.number, reported := r.reported,
                           standing := r.standing, flags := flags }
      let s1 := s.enqueue .result (s.resultBody c y r version)
      let s2 := s1.mapCand y.cand (fun d => { d with version := version, summary := some m })
      let s3 := s2.mapEntry y.script (fun e => { e with state := .marked })
      let s4 := s3.mapBatch (fun b => b.countResult r.clamped)
      let s5 := s4.notify .k (.sheetScored y.script c.number y.sitting s.marking.batch.number version seq
        r.reported r.standing flags r.invalid s.hall.time)
      s5.mapSlot k (fun _ => {})

/-! ## The end of scoring (R140) -/

/-- A scored slot's result is queued at once, or the slot waits with it (R140). -/
def State.releaseSlot (s : State) (k : Nat) (r : SheetResult) : State :=
  if s.marking.waiting = [] ∧ s.arch.canTakeResult then s.queueResult k r
  else
    let s' := s.mapSlot k (fun y => { y with state := .waiting, result := some r })
    { s' with marking := { s'.marking with waiting := s'.marking.waiting ++ [k] } }

/-- SCORING_END (R140): the slot is released, and the Scoring Unit takes the next head of the order. -/
def execScoringEnd (s : State) : Host.Outcome State Fault Refusal :=
  match s.marking.job with
  | none => .next s
  | some j =>
    .next ({ s with marking := { s.marking with job := none } }.releaseSlot j.slot j.working).takeSlot

/-- The head of the waiting list queued and removed from the list, when the queue can take a RESULT
record (R140). -/
def State.serveWaiting (s : State) : State :=
  match s.marking.waiting with
  | [] => s
  | k :: ks =>
    if s.arch.canTakeResult then
      match (s.marking.slots[k]?).bind (fun y => y.result) with
      | some r => { s with marking := { s.marking with waiting := ks } }.queueResult k r
      | none => s
    else s

/-- WAITING_RESULT_QUEUE (R140). -/
def execWaitingResultQueue (s : State) : Host.Outcome State Fault Refusal := .next s.serveWaiting

/-! ## REMARK and FINALISE (R142, R143) -/

/-- The archive queue still holds the RESULT record of a candidate's summary (R142). -/
def State.resultPending (s : State) (c : Cand) : Bool :=
  match c.summary with
  | none => false
  | some m => s.arch.queue.any (fun r => decide (r.kind = .result) && r.seq == m.seq)

/-- A candidate's sitting is FINAL (R142). -/
def State.inFinal (s : State) (c : Cand) : Bool :=
  ((s.sitting? c.sitting).map (fun x => decide (x.state = .final))).getD false

/-- REMARK (R142). -/
def cmdRemark (script : Nat) (s : State) : Answer :=
  if ¬ scriptOk script then refuse s .range
  else
    match s.entry? script with
    | none => refuse s .notFound
    | some e =>
      if e.state ≠ .marked then refuse s .state
      else
        match e.cand.bind s.cand? with
        | none => refuse s .state
        | some c =>
          if s.inFinal c then refuse s .state
          else if s.resultPending c then refuse s .pending
          else
            let n := min 255 (e.remarks + 1)
            okay (s.mapEntry script (fun x => { x with state := .returned, remarks := n }))
              [⟨4, c.number⟩, ⟨1, n⟩, ⟨4, c.version⟩]

/-- The SHEET entries that name a candidate of a sitting, with the candidate (R143). -/
def State.sheetsOf (s : State) (sitting : Nat) : List (Custody × Cand) :=
  s.custody.filterMap (fun e =>
    match e.kind, e.cand.bind s.cand? with
    | .sheet, some c => if c.sitting = sitting then some (e, c) else none
    | _, _ => none)

/-- The counts of a FINALISE: SHEET entries MARKED, RETURNED and ISSUED, and standings BELOW, AT and ABOVE
of the candidates whose SHEET entry is MARKED (R143). -/
def State.finalCounts (s : State) (sitting : Nat) : List Field :=
  let es := s.sheetsOf sitting
  let inState := fun st : TagState => (es.filter (fun p => decide (p.1.state = st))).length
  let marked := es.filter (fun p => decide (p.1.state = .marked))
  let stands := fun v : Standing =>
    (marked.filter (fun p => p.2.summary.any (fun m => decide (m.standing = v)))).length
  [⟨2, inState .marked⟩, ⟨2, inState .returned⟩, ⟨2, inState .issued⟩, ⟨2, stands .below⟩, ⟨2, stands .at⟩,
    ⟨2, stands .above⟩]

/-- FINALISE (R143). -/
def cmdFinalise (sitting : Nat) (s : State) : Answer :=
  if ¬ sittingOk sitting then refuse s .range
  else
    match s.sitting? sitting with
    | none => refuse s .notFound
    | some x =>
      if x.state ≠ .closed then refuse s .state
      else if s.slotInUse sitting then refuse s .state
      else
        let counts := s.finalCounts sitting
        okay ((s.mapSitting sitting (fun y => { y with state := .final })).offer .sittingFinal
          ([s.sessionField, ⟨1, sitting⟩] ++ counts ++ [s.timeField])) counts

end Sys2Proof.Machine
end

