-- ==== Sys2Proof/Machine/Links.lean ====
section
/-! DEFINITION. Chapter 10: what each port may ask and when, the read and status commands, intake and
replies, the frames a port receives and sends, and a link's break. -/

namespace Sys2Proof.Machine

/-! ## Read and status commands (R172 to R175) -/

/-- A result summary's fields; an empty summary has none (R139, R173, log 12). -/
def summaryFields : Option Summary → List Field
  | none => []
  | some m => [⟨4, m.script⟩, ⟨4, m.version⟩, ⟨4, m.seq⟩, ⟨2, m.batch⟩, signedField 2 m.reported,
      ⟨1, Standing.code m.standing⟩, m.flags.field]

/-- The lamp of a candidate's seat and whether it is held, for a seated candidate (R173). -/
def State.seatedFields (s : State) (c : Cand) : List Field :=
  match c.seat.bind s.seat? with
  | none => []
  | some x => [markField x.display.lamp, markField (s.held c.sitting)]

/-- READ_CANDIDATE's fields (R173); the remaining-cue pointer's position is the number of cues it has passed,
0 at the first cue. (DESIGN CHOICE, log 12.) -/
def State.candFields (s : State) (i : Nat) (c : Cand) : List Field :=
  [⟨2, i⟩, ⟨4, c.number⟩, ⟨1, c.sitting⟩, markField c.access, ⟨1, c.allowance⟩, ⟨2, c.restBudget⟩,
    ⟨2, c.restUsed⟩, ⟨1, CandState.code c.state⟩, optField 2 c.seat, ⟨2, c.entitled⟩, ⟨2, c.consumed⟩,
    ⟨2, c.remaining⟩, ⟨1, c.cuePtr⟩, ⟨1, causeCode c.cause⟩,
    ⟨1, flagsValue [c.late, c.lateOverride, c.nilScript, c.exitClosed]⟩, ⟨2, c.issued⟩, ⟨2, c.returned⟩,
    ⟨4, c.version⟩] ++ summaryFields c.summary ++ s.seatedFields c

/-- READ_CANDIDATE (R173): selector 0 is NUMBER and 1 is INDEX. -/
def cmdReadCandidate (selector value : Nat) (s : State) : Answer :=
  match selector with
  | 0 =>
    if ¬ numberOk value then refuse s .range
    else
      match s.candByNumber value with
      | none => refuse s .notFound
      | some (i, c) => okay s (s.candFields i c)
  | 1 =>
    if 639 < value then refuse s .range
    else
      match s.cand? value with
      | none => refuse s .notFound
      | some c => okay s (s.candFields value c)
  | _ => refuse s .range

/-- A display record as its DISPLAY payload (R180). -/
def displayFields (d : Display) : List Field := d.payload.map (fun b => ⟨1, b.toNat⟩)

/-- READ_SEAT's fields (R174). -/
def State.seatFields (s : State) (x : Seat) : List Field :=
  [⟨1, x.row⟩, ⟨1, x.column⟩, ⟨1, x.zone⟩, ⟨1, SeatKind.code x.kind⟩, ⟨1, Service.code x.service⟩,
    optField 4 (s.numberOf x.occupant), markField x.waiver, markField x.faultMark.isSome,
    optTimeField x.faultMark, ⟨1, x.miss⟩, ⟨1, x.quiet⟩, ⟨1, x.unitFaults⟩] ++ UnitGroup.fields x.unitGroup
    ++ [⟨1, x.keys.length⟩] ++ displayFields x.display ++ [markField x.owed]

/-- READ_SEAT (R174). -/
def cmdReadSeat (seat : Nat) (s : State) : Answer :=
  if ¬ seatOk seat then refuse s .range
  else
    match s.seat? seat with
    | none => refuse s .notFound
    | some x => okay s (s.seatFields x)

/-- A cue list: how many, then each cue's kind, value and code (R175); the code of a cue whose kind has none
(LAST_ENTRY, EXIT_OPEN, EXIT_CLOSE) is carried as 0, where R175 and R177 are silent. (DESIGN CHOICE, log 12.) -/
def cueFields (qs : List Cue) : List Field :=
  ⟨1, qs.length⟩ :: (qs.map (fun q => [Field.mk 1 (CueKind.code q.kind), Field.mk 2 q.value, Field.mk 1 q.code])).flatten

/-- READ_SITTING's fields (R175); each of its marks is a byte of its own, the elapsed-cue pointer's position
is the number of cues it has passed, 0 at the first cue, and a layout of none is a page count of 0 with no
page and N 0. (DESIGN CHOICE, log 12.) -/
def State.sittingFields (s : State) (x : Sitting) : List Field :=
  let counts := x.layout.getD []
  x.paper.map (Field.mk 1)
    ++ [⟨1, SittingState.code x.state⟩, ⟨2, x.base⟩, ⟨2, x.reading⟩, ⟨2, x.pauseLimit⟩, ⟨1, x.zones.length⟩]
    ++ x.zones.map (Field.mk 1)
    ++ [⟨2, x.elapsedReading⟩, ⟨2, x.sel⟩, ⟨4, x.pauseAcc⟩, markField (!x.admission), markField x.exitOpen,
        markField x.disrupted, markField x.paused, markField s.clock.hallPause]
    ++ cueFields x.elapsedCues ++ cueFields x.remainingCues
    ++ [⟨1, x.elapsedPtr⟩, ⟨1, counts.length⟩] ++ counts.map (Field.mk 1)
    ++ [⟨1, itemCount counts⟩, ⟨1, KeyState.code x.keyState⟩, ⟨4, x.rawMax⟩, ⟨1, x.definedItems⟩,
        ⟨2, x.outMax⟩, ⟨2, x.passMark⟩, ⟨1, x.penalty⟩, ⟨1, InvalidPolicy.code x.invalidPolicy⟩,
        ⟨1, FloorPolicy.code x.floorPolicy⟩, ⟨2, x.enrolled⟩]
    ++ x.counts.fields ++ [markField x.inFlight]

/-- READ_SITTING (R175). -/
def cmdReadSitting (sitting : Nat) (s : State) : Answer :=
  if ¬ sittingOk sitting then refuse s .range
  else
    match s.sitting? sitting with
    | none => refuse s .notFound
    | some x => okay s (s.sittingFields x)

/-- A desk port's zone mask and CHIEF mark (R172). -/
def State.deskFields (s : State) (p : Port) : List Field :=
  match p with
  | .desk d => [⟨1, (s.hall.masks.get d).toNat⟩, markField (s.isChief p)]
  | _ => []

/-- PORT_STATUS's fields (R172); each of its marks is a byte of its own. (DESIGN CHOICE, log 12.) -/
def State.portFields (s : State) (p : Port) : List Field :=
  let ps := s.port p
  [⟨1, portCode p⟩, ⟨1, roleCode p⟩, markField ps.errorFlag, markField ps.lostFlag, ⟨1, ps.notices.length⟩,
    markField ps.buffer.isSome] ++ s.deskFields p
    ++ [⟨1, deskCode s.hall.chief⟩, ⟨1, s.line.inbox.length⟩, ⟨1, SessionState.code s.hall.session⟩,
        markField s.scanning, s.timeField]

/-- PORT_STATUS (R172): the reply formed, the port's two flags are cleared. -/
def cmdPortStatus (p : Port) (s : State) : Answer :=
  okay (s.mapPort p (fun ps => { ps with errorFlag := false, lostFlag := false })) (s.portFields p)

/-! ## The gates (R2, R3, R166, R167) -/

/-- PORT_STATUS and ARCHIVE_STATUS, which the power-up scan does not hold off (R2). -/
def statusCode (c : Byte) : Bool := c == 0x70 || c == 0x71

/-- A port's role takes a command code (R167). -/
def roleTakes (p : Port) (c : Byte) : Bool :=
  let n := c.toNat
  statusCode c ||
    (match p with
     | .g => n ≤ 0x14 || (0x60 ≤ n && n ≤ 0x63)
     | .desk _ => (0x20 ≤ n && n ≤ 0x2F) || (0x60 ≤ n && n ≤ 0x63)
     | .k => 0x40 ≤ n && n ≤ 0x44)

/-- The session states R3 marks for a command. -/
def sessionTakes (c : Cmd) (st : SessionState) : Bool :=
  match c with
  | .sessionOpen .. => st = .idle
  | .sessionGo | .seatDefine .. => st = .loading
  | .sessionDiscard => st ≠ .idle
  | .zoneGrant .. | .sittingDefine _ | .cueDefine .. | .layoutDefine .. | .candidateAdd ..
  | .candidateAmend .. | .allocate _ | .allocAbort | .seatService .. | .keyItem _ | .keySeal _
  | .keyUnseal _ => st = .loading || st = .live
  | .sessionClose | .remark _ | .finalise _ | .openDoors _ | .start _ | .pause _ | .resume _ | .admitDesk ..
  | .move .. | .restStart _ | .restEnd _ | .finish _ | .withdraw _ | .issueTag .. | .returnTags ..
  | .voidTag _ | .claimTag .. | .announce .. | .batchOpen _ | .page _ | .sheetQuery _ | .sheetDiscard _
  | .batchClose => st = .live
  | .archiveExported _ | .archiveErase .. => st ≠ .closing
  | .archiveRead _ | .readCandidate .. | .readSeat _ | .readSitting _ | .portStatus | .archiveStatus => true
  | .unknown _ | .badLength _ => false

/-- A code in no command row (R166, R178). -/
def Cmd.isUnknown : Cmd → Bool
  | .unknown _ => true
  | _ => false

/-- A known code whose fields have no length of the command (R166). -/
def Cmd.isBadLength : Cmd → Bool
  | .badLength _ => true
  | _ => false

/-- The first gate that a command fails, and its result (R166). -/
def State.gate (s : State) (p : Port) (c : Cmd) : Option ResultCode :=
  if s.scanning ∧ ¬ statusCode c.code then some .busy
  else if Cmd.isUnknown c then some .unknown
  else if ¬ roleTakes p c.code then some .role
  else if Cmd.isBadLength c then some .length
  else if ¬ sessionTakes c s.hall.session then some .state
  else none

/-- A command judged by its own rule (R166, gate 6). -/
def judgeCmd (p : Port) (c : Cmd) (s : State) : Answer :=
  match c with
  | .sessionOpen n t => cmdSessionOpen n t s
  | .sessionGo => cmdSessionGo s
  | .sessionClose => cmdSessionClose s
  | .sessionDiscard => cmdSessionDiscard s
  | .seatDefine n r col z k => cmdSeatDefine n r col z k s
  | .zoneGrant d m ch => cmdZoneGrant d m ch s
  | .sittingDefine f => cmdSittingDefine f s
  | .cueDefine n k b v code => cmdCueDefine n k b v code s
  | .layoutDefine n pc counts => cmdLayoutDefine n pc counts s
  | .candidateAdd n st a al r => cmdCandidateAdd n st a al r s
  | .candidateAmend n al r a => cmdCandidateAmend n al r a s
  | .allocate n => cmdAllocate n s
  | .allocAbort => cmdAllocAbort s
  | .keyItem f => cmdKeyItem f s
  | .keySeal n => cmdKeySeal n s
  | .keyUnseal n => cmdKeyUnseal n s
  | .remark t => cmdRemark t s
  | .finalise n => cmdFinalise n s
  | .archiveExported q => cmdArchiveExported q s
  | .archiveErase pl b => cmdArchiveErase pl b s
  | .openDoors n => cmdOpenDoors p n s
  | .start n => cmdStart p n s
  | .pause sc => cmdPause p sc s
  | .resume sc => cmdResume p sc s
  | .admitDesk n o st w => cmdAdmit p n o st w s
  | .move n st w => cmdMove p n st w s
  | .seatService n d => cmdSeatService p n d s
  | .restStart n => cmdRestStart p n s
  | .restEnd n => cmdRestEnd p n s
  | .finish n => cmdFinish p n s
  | .withdraw n => cmdWithdraw p n s
  | .issueTag n t => cmdIssueTag p n t s
  | .returnTags n ts => cmdReturnTags p n ts s
  | .voidTag t => cmdVoidTag p t s
  | .claimTag t n => cmdClaimTag p t n s
  | .announce f v code => cmdAnnounce p f v code s
  | .batchOpen n => cmdBatchOpen n s
  | .page f => cmdPage f s
  | .sheetQuery t => cmdSheetQuery t s
  | .sheetDiscard t => cmdSheetDiscard t s
  | .batchClose => cmdBatchClose s
  | .archiveRead q => cmdArchiveRead q s
  | .readCandidate sel v => cmdReadCandidate sel v s
  | .readSeat n => cmdReadSeat n s
  | .readSitting n => cmdReadSitting n s
  | .portStatus => cmdPortStatus p s
  | .archiveStatus => cmdArchiveStatus s
  | .unknown _ => refuse s .unknown
  | .badLength _ => refuse s .length

/-- A command through the gates and its own rule (R166). -/
def State.judge (s : State) (p : Port) (c : Cmd) : Answer :=
  match s.gate p c with
  | some r => refuse s r
  | none => judgeCmd p c s

/-! ## Intake (R165) -/

/-- The CODE a reply carries: the command's with bit 7 set (R166, R169). -/
def replyCode (c : Byte) : Byte := c ||| 0x80

/-- The reply to a command (R169). -/
def Answer.reply (a : Answer) (f : LinkFrame) : Reply :=
  { tag := f.tag, code := replyCode f.cmd.code, result := a.result, fields := a.fields }

/-- A frame taken as a command: judged, in effect or refused, and its reply in the slot, in one event
(R165). -/
def State.takeCommand (s : State) (p : Port) (f : LinkFrame) : State :=
  let a := s.judge p f.cmd
  a.state.mapPort p (fun ps => { ps with inService := some f, replySlot := some (a.reply f) })

/-- The summary error flag of a port set (R164). -/
def State.flagError (s : State) (p : Port) : State := s.mapPort p (fun ps => { ps with errorFlag := true })

/-- A good frame at a port's intake (R165): taken, placed in the receive buffer, or discarded.
(DESIGN CHOICE, log 36.) -/
def State.intake (s : State) (p : Port) (f : LinkFrame) : State :=
  match (s.port p).inService, (s.port p).buffer with
  | none, none => s.takeCommand p f
  | some _, none => s.mapPort p (fun ps => { ps with buffer := some f })
  | _, some _ => s.flagError p

/-- A frame of a command complete at a port, good but for its TAG (R164, R165). (DEDUCED, log 5.) -/
def State.arrive (s : State) (p : Port) (tag : Byte) (c : Cmd) : State :=
  if tag = 0 then s.flagError p else s.intake p ⟨tag, c⟩

/-! ## Receive assembly (R163, R164) -/

/-- A port's receive assembly changed. -/
def State.assemble (s : State) (p : Port) (a : Assembly) : State := s.mapPort p (fun ps => { ps with asm := a })

/-- A frame that ends bad: discarded, the assembly HUNTING, the flag set (R163, R164). -/
def State.badFrame (s : State) (p : Port) : State := (s.assemble p .hunting).flagError p

/-- The received CRC of a run of bytes from LEN through the CRC equals the computed one (R164). -/
def crcGood (got : List Byte) : Bool :=
  let n := got.length - 2
  ofBytes (got.drop n) == (crc16 (got.take n)).toNat

/-- A complete frame judged, from LEN through its CRC (R164). -/
def State.completeFrame (s : State) (p : Port) (got : List Byte) (bad : Bool) : State :=
  match got with
  | _ :: tag :: code :: rest =>
    if bad ∨ ¬ crcGood got then s.badFrame p
    else if tag = 0 then s.badFrame p
    else (s.assemble p .hunting).intake p ⟨tag, decodeCommand code (rest.take (rest.length - 2))⟩
  | _ => s.badFrame p

/-- A byte without a framing error taken in COLLECTING (R163). (DESIGN CHOICE, log 24.) -/
def State.collectByte (s : State) (p : Port) (got : List Byte) (bad : Bool) : State :=
  match got with
  | [] => s
  | len :: _ =>
    if len.toNat < 2 ∨ 240 < len.toNat then s.badFrame p
    else if len.toNat + 3 ≤ got.length then s.completeFrame p got bad
    else s.assemble p (.collecting got bad)

/-- A byte received on a port, with its errors, `bad` a parity error or an overrun (R163, R164): one with a
framing error sets the flag and ends a frame as a bad frame (R176). (DESIGN CHOICE, log 25.) -/
def State.receiveByte (s : State) (p : Port) (b : Byte) (framing bad : Bool) : State :=
  match (s.port p).asm, framing with
  | .collecting _ _, true => s.badFrame p
  | .collecting got bad', false => s.collectByte p (got ++ [b]) (bad' || bad)
  | .hunting, true => s.flagError p
  | .hunting, false =>
    let s' := if bad then s.flagError p else s
    if b = syncByte then s'.assemble p (.collecting [] bad) else s'

/-- LINK_BYTE_RECEIVED (R163). -/
def execLinkByteReceived (p : Port) (byte : Byte) (parity framing overrun : Bool) (s : State) :
    Host.Outcome State Fault Refusal :=
  .next (s.receiveByte p byte framing (parity || overrun))

/-- FRAME_GAP_TIMEOUT (R163): in HUNTING no frame is cut short.
(DESIGN CHOICE, log 6: the 20 ms are the event.) -/
def execFrameGapTimeout (p : Port) (s : State) : Host.Outcome State Fault Refusal :=
  match (s.port p).asm with
  | .collecting _ _ => .next (s.badFrame p)
  | .hunting => .next s

/-! ## The transmitter (R169, R171) -/

/-- A free transmitter's next frame: the reply, or else the head of the notice queue, which leaves it
(R169, R171). -/
def PortState.startSending (ps : PortState) : PortState :=
  match ps.sending, ps.replySlot, ps.notices with
  | .none, some _, _ => { ps with sending := .reply }
  | .none, none, n :: ns => { ps with sending := .notice n, notices := ns }
  | _, _, _ => ps

/-- TRANSMITTER_START (R169). -/
def execTransmitterStart (p : Port) (s : State) : Host.Outcome State Fault Refusal :=
  .next (s.mapPort p PortState.startSending)

/-- The end of a reply: the slot empties, the command in service ends, and a buffered frame is taken
(R165, R169). -/
def State.endReply (s : State) (p : Port) : State :=
  let s' := s.mapPort p (fun ps => { ps with sending := .none, replySlot := none, inService := none })
  match (s.port p).buffer with
  | none => s'
  | some f => (s'.mapPort p (fun ps => { ps with buffer := none })).takeCommand p f

/-- REPLY_COMPLETE (R165). -/
def execReplyComplete (p : Port) (s : State) : Host.Outcome State Fault Refusal :=
  match (s.port p).sending with
  | .reply => .next (s.endReply p)
  | _ => .next s

/-- NOTICE_SENT (R169). -/
def execNoticeSent (p : Port) (s : State) : Host.Outcome State Fault Refusal :=
  match (s.port p).sending with
  | .notice _ => .next (s.mapPort p (fun ps => { ps with sending := .none }))
  | _ => .next s

/-- LINK_BREAK (R176): a BREAK reset of one port.  No row ends the break: no mark of a break that goes on is
kept, and what the port receives next is received after its end. (DESIGN CHOICE, log 52.) -/
def execLinkBreak (p : Port) (s : State) : Host.Outcome State Fault Refusal :=
  .next (s.mapPort p (fun _ => {}))

/-! ## The frames a port sends (R169, R170, R178) -/

/-- The notice codes C0h to CAh (R178). -/
def Notice.code : Notice → Byte
  | .call .. => 0xC0
  | .seatFault .. => 0xC1
  | .seatRecovered .. => 0xC2
  | .wrongSeat .. => 0xC3
  | .collect .. => 0xC4
  | .strayTag .. => 0xC5
  | .cueFired .. => 0xC6
  | .pauseLimit .. => 0xC7
  | .allocDone .. => 0xC8
  | .archiveAlert .. => 0xC9
  | .sheetScored .. => 0xCA

/-- The cause byte of ARCHIVE_ALERT and what the cause carries (R148, R151, R152, R153, R156, log 12).  STALLED's
count of RETIRED blocks takes 1 byte. (DESIGN CHOICE, log 53.) -/
def AlertCause.fields : AlertCause → List Field
  | .lost kind n => [⟨1, 0⟩, ⟨1, RecordKind.code kind⟩, ⟨2, n⟩]
  | .programFail p b pg q => [⟨1, 1⟩, ⟨1, p⟩, ⟨1, b⟩, ⟨1, pg⟩, ⟨4, q⟩]
  | .retireFail p b q => [⟨1, 2⟩, ⟨1, p⟩, ⟨1, b⟩, ⟨4, q⟩]
  | .stalled p n => [⟨1, 3⟩, ⟨1, p⟩, ⟨1, n⟩]
  | .eraseFail p b => [⟨1, 4⟩, ⟨1, p⟩, ⟨1, b⟩]

/-- A notice's fields, in the order its rule lists them (R170).  CUE_FIRED's number made ABSENT takes 2 bytes.
(DESIGN CHOICE, log 53.) -/
def Notice.fields : Notice → List Field
  | .call n num st t => [⟨2, n⟩, ⟨4, num⟩, ⟨1, CandState.code st⟩, ⟨4, t⟩]
  | .seatFault (.unit bits) n num t => [⟨1, 0⟩, ⟨2, n⟩, optField 4 num, ⟨1, bits⟩, ⟨4, t⟩]
  | .seatFault .silent n num t => [⟨1, 1⟩, ⟨2, n⟩, optField 4 num, ⟨4, t⟩]
  | .seatRecovered n num t => [⟨2, n⟩, optField 4 num, ⟨4, t⟩]
  | .wrongSeat n num right t => [⟨2, n⟩, ⟨4, num⟩, optField 2 right, ⟨4, t⟩]
  | .collect n num cause i r t => [⟨2, n⟩, ⟨4, num⟩, ⟨1, causeCode cause⟩, ⟨2, i⟩, ⟨2, r⟩, ⟨4, t⟩]
  | .strayTag t kind p time => [⟨4, t⟩, ⟨1, TagKind.code kind⟩, ⟨1, portCode p⟩, ⟨4, time⟩]
  | .cueFired n kind offset code absent t =>
    [⟨1, n⟩, ⟨1, CueKind.code kind⟩, ⟨2, offset⟩, ⟨1, code⟩, ⟨2, absent⟩, ⟨4, t⟩]
  | .pauseLimit n acc limit t => [⟨1, n⟩, ⟨4, acc⟩, ⟨2, limit⟩, ⟨4, t⟩]
  | .allocDone n placed un aborted t => [⟨1, n⟩, ⟨2, placed⟩, ⟨2, un⟩, markField aborted, ⟨4, t⟩]
  | .archiveAlert c t => c.fields ++ [⟨4, t⟩]
  | .sheetScored t num n batch v q rep st fl inv time =>
    [⟨4, t⟩, ⟨4, num⟩, ⟨1, n⟩, ⟨2, batch⟩, ⟨4, v⟩, ⟨4, q⟩, signedField 2 rep, ⟨1, Standing.code st⟩, fl.field,
      ⟨1, inv⟩, ⟨4, time⟩]

/-- The bytes of a reply frame (R178). -/
def Reply.frame (r : Reply) : List Byte :=
  frameBytes r.tag r.code (fieldBytes (⟨1, ResultCode.code r.result⟩ :: r.fields))

/-- The bytes of a notice frame, TAG 0 (R178). -/
def Notice.frame (n : Notice) : List Byte := frameBytes 0 n.code (fieldBytes n.fields)

/-- The bytes a port's transmitter is sending: an output of the link (R169). -/
def PortState.transmitting (ps : PortState) : Option (List Byte) :=
  match ps.sending with
  | .none => none
  | .reply => ps.replySlot.map Reply.frame
  | .notice n => some n.frame

/-- The bits the controller is sending on the seat line, if it is sending a frame (R41). -/
def SeatLine.transmitting (l : SeatLine) : Option (List Bool) :=
  match l.cond with
  | .busyController f _ => some f.bits
  | _ => none

end Sys2Proof.Machine
end

