-- ==== Sys2Proof/Machine/Commands.lean ====
section
/-! DEFINITION. The rows of the opcode table that are link commands: the event in which a good frame of
the command is complete at a port (R165), one meaning per row over the shared intake. -/

namespace Sys2Proof.Machine

/-- SESSION_OPEN (R4). -/
def execSessionOpen (p : Port) (tag : Byte) (session : Nat) (hallTime : Nat) (s : State) :
    Host.Outcome State Fault Refusal := .next (s.arrive p tag (.sessionOpen session hallTime))

/-- SESSION_GO (R5). -/
def execSessionGo (p : Port) (tag : Byte) (s : State) :
    Host.Outcome State Fault Refusal := .next (s.arrive p tag .sessionGo)

/-- SESSION_CLOSE (R6). -/
def execSessionClose (p : Port) (tag : Byte) (s : State) :
    Host.Outcome State Fault Refusal := .next (s.arrive p tag .sessionClose)

/-- SESSION_DISCARD (R8). -/
def execSessionDiscard (p : Port) (tag : Byte) (s : State) :
    Host.Outcome State Fault Refusal := .next (s.arrive p tag .sessionDiscard)

/-- SEAT_DEFINE (R11). -/
def execSeatDefine (p : Port) (tag : Byte) (seat : Nat) (row : Nat) (column : Nat) (zone : Nat) (kind : Nat) (s : State) :
    Host.Outcome State Fault Refusal := .next (s.arrive p tag (.seatDefine seat row column zone kind))

/-- ZONE_GRANT (R13). -/
def execZoneGrant (p : Port) (tag : Byte) (desk : Nat) (mask : Nat) (chief : Nat) (s : State) :
    Host.Outcome State Fault Refusal := .next (s.arrive p tag (.zoneGrant desk mask chief))

/-- SITTING_DEFINE (R15). -/
def execSittingDefine (p : Port) (tag : Byte) (f : SittingFields) (s : State) :
    Host.Outcome State Fault Refusal := .next (s.arrive p tag (.sittingDefine f))

/-- CUE_DEFINE (R61). -/
def execCueDefine (p : Port) (tag : Byte) (sitting : Nat) (kind : Nat) (base : Nat) (value : Nat) (code : Nat) (s : State) :
    Host.Outcome State Fault Refusal := .next (s.arrive p tag (.cueDefine sitting kind base value code))

/-- LAYOUT_DEFINE (R114). -/
def execLayoutDefine (p : Port) (tag : Byte) (sitting : Nat) (pageCount : Nat) (counts : List Nat) (s : State) :
    Host.Outcome State Fault Refusal := .next (s.arrive p tag (.layoutDefine sitting pageCount counts))

/-- CANDIDATE_ADD (R20). -/
def execCandidateAdd (p : Port) (tag : Byte) (number : Nat) (sitting : Nat) (access : Nat) (allowance : Nat) (rest : Nat) (s : State) :
    Host.Outcome State Fault Refusal := .next (s.arrive p tag (.candidateAdd number sitting access allowance rest))

/-- CANDIDATE_AMEND (R21). -/
def execCandidateAmend (p : Port) (tag : Byte) (number : Nat) (allowance : Nat) (rest : Nat) (access : Nat) (s : State) :
    Host.Outcome State Fault Refusal := .next (s.arrive p tag (.candidateAmend number allowance rest access))

/-- ALLOCATE (R25). -/
def execAllocate (p : Port) (tag : Byte) (sitting : Nat) (s : State) :
    Host.Outcome State Fault Refusal := .next (s.arrive p tag (.allocate sitting))

/-- ALLOC_ABORT (R33). -/
def execAllocAbort (p : Port) (tag : Byte) (s : State) :
    Host.Outcome State Fault Refusal := .next (s.arrive p tag .allocAbort)

/-- KEY_ITEM (R115). -/
def execKeyItem (p : Port) (tag : Byte) (f : KeyItemFields) (s : State) :
    Host.Outcome State Fault Refusal := .next (s.arrive p tag (.keyItem f))

/-- KEY_SEAL (R117). -/
def execKeySeal (p : Port) (tag : Byte) (sitting : Nat) (s : State) :
    Host.Outcome State Fault Refusal := .next (s.arrive p tag (.keySeal sitting))

/-- KEY_UNSEAL (R118). -/
def execKeyUnseal (p : Port) (tag : Byte) (sitting : Nat) (s : State) :
    Host.Outcome State Fault Refusal := .next (s.arrive p tag (.keyUnseal sitting))

/-- REMARK (R142). -/
def execRemark (p : Port) (tag : Byte) (script : Nat) (s : State) :
    Host.Outcome State Fault Refusal := .next (s.arrive p tag (.remark script))

/-- FINALISE (R143). -/
def execFinalise (p : Port) (tag : Byte) (sitting : Nat) (s : State) :
    Host.Outcome State Fault Refusal := .next (s.arrive p tag (.finalise sitting))

/-- ARCHIVE_EXPORTED (R155). -/
def execArchiveExported (p : Port) (tag : Byte) (seq : Nat) (s : State) :
    Host.Outcome State Fault Refusal := .next (s.arrive p tag (.archiveExported seq))

/-- ARCHIVE_ERASE (R156). -/
def execArchiveErase (p : Port) (tag : Byte) (plane : Nat) (block : Nat) (s : State) :
    Host.Outcome State Fault Refusal := .next (s.arrive p tag (.archiveErase plane block))

/-- OPEN_DOORS (R63). -/
def execOpenDoors (p : Port) (tag : Byte) (sitting : Nat) (s : State) :
    Host.Outcome State Fault Refusal := .next (s.arrive p tag (.openDoors sitting))

/-- START (R64). -/
def execStart (p : Port) (tag : Byte) (sitting : Nat) (s : State) :
    Host.Outcome State Fault Refusal := .next (s.arrive p tag (.start sitting))

/-- PAUSE (R75). -/
def execPause (p : Port) (tag : Byte) (scope : Nat) (s : State) :
    Host.Outcome State Fault Refusal := .next (s.arrive p tag (.pause scope))

/-- RESUME (R76). -/
def execResume (p : Port) (tag : Byte) (scope : Nat) (s : State) :
    Host.Outcome State Fault Refusal := .next (s.arrive p tag (.resume scope))

/-- ADMIT (R87). -/
def execAdmit (p : Port) (tag : Byte) (number : Nat) (override : Nat) (seat : Nat) (waiver : Nat) (s : State) :
    Host.Outcome State Fault Refusal := .next (s.arrive p tag (.admitDesk number override seat waiver))

/-- MOVE (R34). -/
def execMove (p : Port) (tag : Byte) (number : Nat) (seat : Nat) (waiver : Nat) (s : State) :
    Host.Outcome State Fault Refusal := .next (s.arrive p tag (.move number seat waiver))

/-- SEAT_SERVICE (R38). -/
def execSeatService (p : Port) (tag : Byte) (seat : Nat) (direction : Nat) (s : State) :
    Host.Outcome State Fault Refusal := .next (s.arrive p tag (.seatService seat direction))

/-- REST_START (R89). -/
def execRestStart (p : Port) (tag : Byte) (number : Nat) (s : State) :
    Host.Outcome State Fault Refusal := .next (s.arrive p tag (.restStart number))

/-- REST_END (R90). -/
def execRestEnd (p : Port) (tag : Byte) (number : Nat) (s : State) :
    Host.Outcome State Fault Refusal := .next (s.arrive p tag (.restEnd number))

/-- FINISH (R95). -/
def execFinish (p : Port) (tag : Byte) (number : Nat) (s : State) :
    Host.Outcome State Fault Refusal := .next (s.arrive p tag (.finish number))

/-- WITHDRAW (R96). -/
def execWithdraw (p : Port) (tag : Byte) (number : Nat) (s : State) :
    Host.Outcome State Fault Refusal := .next (s.arrive p tag (.withdraw number))

/-- ISSUE_TAG (R104). -/
def execIssueTag (p : Port) (tag : Byte) (number : Nat) (script : Nat) (s : State) :
    Host.Outcome State Fault Refusal := .next (s.arrive p tag (.issueTag number script))

/-- RETURN_TAGS (R105). -/
def execReturnTags (p : Port) (tag : Byte) (count : Nat) (scripts : List Nat) (s : State) :
    Host.Outcome State Fault Refusal := .next (s.arrive p tag (.returnTags count scripts))

/-- VOID_TAG (R107). -/
def execVoidTag (p : Port) (tag : Byte) (script : Nat) (s : State) :
    Host.Outcome State Fault Refusal := .next (s.arrive p tag (.voidTag script))

/-- CLAIM_TAG (R108). -/
def execClaimTag (p : Port) (tag : Byte) (script : Nat) (number : Nat) (s : State) :
    Host.Outcome State Fault Refusal := .next (s.arrive p tag (.claimTag script number))

/-- ANNOUNCE (R54). -/
def execAnnounce (p : Port) (tag : Byte) (form : Nat) (value : Nat) (code : Nat) (s : State) :
    Host.Outcome State Fault Refusal := .next (s.arrive p tag (.announce form value code))

/-- BATCH_OPEN (R120). -/
def execBatchOpen (p : Port) (tag : Byte) (number : Nat) (s : State) :
    Host.Outcome State Fault Refusal := .next (s.arrive p tag (.batchOpen number))

/-- PAGE (R123). -/
def execPage (p : Port) (tag : Byte) (f : PageFields) (s : State) :
    Host.Outcome State Fault Refusal := .next (s.arrive p tag (.page f))

/-- SHEET_QUERY (R128). -/
def execSheetQuery (p : Port) (tag : Byte) (script : Nat) (s : State) :
    Host.Outcome State Fault Refusal := .next (s.arrive p tag (.sheetQuery script))

/-- SHEET_DISCARD (R127). -/
def execSheetDiscard (p : Port) (tag : Byte) (script : Nat) (s : State) :
    Host.Outcome State Fault Refusal := .next (s.arrive p tag (.sheetDiscard script))

/-- BATCH_CLOSE (R121). -/
def execBatchClose (p : Port) (tag : Byte) (s : State) :
    Host.Outcome State Fault Refusal := .next (s.arrive p tag .batchClose)

/-- ARCHIVE_READ (R154). -/
def execArchiveRead (p : Port) (tag : Byte) (seq : Nat) (s : State) :
    Host.Outcome State Fault Refusal := .next (s.arrive p tag (.archiveRead seq))

/-- READ_CANDIDATE (R173). -/
def execReadCandidate (p : Port) (tag : Byte) (selector : Nat) (value : Nat) (s : State) :
    Host.Outcome State Fault Refusal := .next (s.arrive p tag (.readCandidate selector value))

/-- READ_SEAT (R174). -/
def execReadSeat (p : Port) (tag : Byte) (seat : Nat) (s : State) :
    Host.Outcome State Fault Refusal := .next (s.arrive p tag (.readSeat seat))

/-- READ_SITTING (R175). -/
def execReadSitting (p : Port) (tag : Byte) (sitting : Nat) (s : State) :
    Host.Outcome State Fault Refusal := .next (s.arrive p tag (.readSitting sitting))

/-- PORT_STATUS (R172). -/
def execPortStatus (p : Port) (tag : Byte) (s : State) :
    Host.Outcome State Fault Refusal := .next (s.arrive p tag .portStatus)

/-- ARCHIVE_STATUS (R157). -/
def execArchiveStatus (p : Port) (tag : Byte) (s : State) :
    Host.Outcome State Fault Refusal := .next (s.arrive p tag .archiveStatus)

/-- UNKNOWN_COMMAND (R166): a good frame whose CODE names no command.  With the code of a command the
row does not arise (log 2). -/
def execUnknownCommand (p : Port) (tag : Byte) (code : Byte) (s : State) :
    Host.Outcome State Fault Refusal :=
  if isCommandCode code then .next s else .next (s.arrive p tag (.unknown code))

end Sys2Proof.Machine
end

