-- ==== Sys2Proof/Machine/Dispatch.lean ====
section
/-! DEFINITION. The meaning of every row of the opcode table, arm by arm. -/

namespace Sys2Proof.Machine

def exec (i : Instr) (s : State) : Host.Outcome State Fault Refusal :=
  match i with
  | .powerReset => Sys2Proof.Machine.execPowerReset s
  | .hallSecond => Sys2Proof.Machine.execHallSecond s
  | .readingEnd sitting => Sys2Proof.Machine.execReadingEnd sitting s
  | .elapsedCueFire sitting => Sys2Proof.Machine.execElapsedCueFire sitting s
  | .defaultAdmissionClose sitting => Sys2Proof.Machine.execDefaultAdmissionClose sitting s
  | .remainingCueFire cand => Sys2Proof.Machine.execRemainingCueFire cand s
  | .expiry cand => Sys2Proof.Machine.execExpiry cand s
  | .restBudgetEnd cand => Sys2Proof.Machine.execRestBudgetEnd cand s
  | .pauseLimit sitting => Sys2Proof.Machine.execPauseLimit sitting s
  | .seatPollDue seat => Sys2Proof.Machine.execSeatPollDue seat s
  | .sessionOpen p tag session hallTime => Sys2Proof.Machine.execSessionOpen p tag session hallTime s
  | .sessionGo p tag => Sys2Proof.Machine.execSessionGo p tag s
  | .sessionClose p tag => Sys2Proof.Machine.execSessionClose p tag s
  | .closingDrainOffer => Sys2Proof.Machine.execClosingDrainOffer s
  | .closingEnd => Sys2Proof.Machine.execClosingEnd s
  | .sessionDiscard p tag => Sys2Proof.Machine.execSessionDiscard p tag s
  | .seatDefine p tag seat row column zone kind => Sys2Proof.Machine.execSeatDefine p tag seat row column zone kind s
  | .zoneGrant p tag desk mask chief => Sys2Proof.Machine.execZoneGrant p tag desk mask chief s
  | .sittingDefine p tag f => Sys2Proof.Machine.execSittingDefine p tag f s
  | .cueDefine p tag sitting kind base value code => Sys2Proof.Machine.execCueDefine p tag sitting kind base value code s
  | .layoutDefine p tag sitting pageCount counts => Sys2Proof.Machine.execLayoutDefine p tag sitting pageCount counts s
  | .candidateAdd p tag number sitting access allowance rest => Sys2Proof.Machine.execCandidateAdd p tag number sitting access allowance rest s
  | .candidateAmend p tag number allowance rest access => Sys2Proof.Machine.execCandidateAmend p tag number allowance rest access s
  | .allocate p tag sitting => Sys2Proof.Machine.execAllocate p tag sitting s
  | .allocationTurn => Sys2Proof.Machine.execAllocationTurn s
  | .allocAbort p tag => Sys2Proof.Machine.execAllocAbort p tag s
  | .keyItem p tag f => Sys2Proof.Machine.execKeyItem p tag f s
  | .keySeal p tag sitting => Sys2Proof.Machine.execKeySeal p tag sitting s
  | .keyUnseal p tag sitting => Sys2Proof.Machine.execKeyUnseal p tag sitting s
  | .remark p tag script => Sys2Proof.Machine.execRemark p tag script s
  | .finalise p tag sitting => Sys2Proof.Machine.execFinalise p tag sitting s
  | .archiveExported p tag seq => Sys2Proof.Machine.execArchiveExported p tag seq s
  | .archiveErase p tag plane block => Sys2Proof.Machine.execArchiveErase p tag plane block s
  | .openDoors p tag sitting => Sys2Proof.Machine.execOpenDoors p tag sitting s
  | .start p tag sitting => Sys2Proof.Machine.execStart p tag sitting s
  | .pause p tag scope => Sys2Proof.Machine.execPause p tag scope s
  | .resume p tag scope => Sys2Proof.Machine.execResume p tag scope s
  | .admitDesk p tag number override seat waiver => Sys2Proof.Machine.execAdmit p tag number override seat waiver s
  | .move p tag number seat waiver => Sys2Proof.Machine.execMove p tag number seat waiver s
  | .seatService p tag seat direction => Sys2Proof.Machine.execSeatService p tag seat direction s
  | .restStart p tag number => Sys2Proof.Machine.execRestStart p tag number s
  | .restEnd p tag number => Sys2Proof.Machine.execRestEnd p tag number s
  | .finish p tag number => Sys2Proof.Machine.execFinish p tag number s
  | .withdraw p tag number => Sys2Proof.Machine.execWithdraw p tag number s
  | .issueTag p tag number script => Sys2Proof.Machine.execIssueTag p tag number script s
  | .returnTags p tag count scripts => Sys2Proof.Machine.execReturnTags p tag count scripts s
  | .voidTag p tag script => Sys2Proof.Machine.execVoidTag p tag script s
  | .claimTag p tag script number => Sys2Proof.Machine.execClaimTag p tag script number s
  | .announce p tag form value code => Sys2Proof.Machine.execAnnounce p tag form value code s
  | .batchOpen p tag number => Sys2Proof.Machine.execBatchOpen p tag number s
  | .page p tag f => Sys2Proof.Machine.execPage p tag f s
  | .sheetQuery p tag script => Sys2Proof.Machine.execSheetQuery p tag script s
  | .sheetDiscard p tag script => Sys2Proof.Machine.execSheetDiscard p tag script s
  | .batchClose p tag => Sys2Proof.Machine.execBatchClose p tag s
  | .archiveRead p tag seq => Sys2Proof.Machine.execArchiveRead p tag seq s
  | .readCandidate p tag selector value => Sys2Proof.Machine.execReadCandidate p tag selector value s
  | .readSeat p tag seat => Sys2Proof.Machine.execReadSeat p tag seat s
  | .readSitting p tag sitting => Sys2Proof.Machine.execReadSitting p tag sitting s
  | .portStatus p tag => Sys2Proof.Machine.execPortStatus p tag s
  | .archiveStatus p tag => Sys2Proof.Machine.execArchiveStatus p tag s
  | .unknownCommand p tag code => Sys2Proof.Machine.execUnknownCommand p tag code s
  | .linkByteReceived p byte parity framing overrun => Sys2Proof.Machine.execLinkByteReceived p byte parity framing overrun s
  | .frameGapTimeout p => Sys2Proof.Machine.execFrameGapTimeout p s
  | .transmitterStart p => Sys2Proof.Machine.execTransmitterStart p s
  | .replyComplete p => Sys2Proof.Machine.execReplyComplete p s
  | .linkBreak p => Sys2Proof.Machine.execLinkBreak p s
  | .lineIdle => Sys2Proof.Machine.execLineIdle s
  | .lineArbiterStart => Sys2Proof.Machine.execLineArbiterStart s
  | .controllerFrameAck ack => Sys2Proof.Machine.execControllerFrameAck ack s
  | .seatReportHeader => Sys2Proof.Machine.execSeatReportHeader s
  | .holdTimeout => Sys2Proof.Machine.execHoldTimeout s
  | .seatReportEnd => Sys2Proof.Machine.execSeatReportEnd s
  | .hello => Sys2Proof.Machine.execHello s
  | .key => Sys2Proof.Machine.execKey s
  | .card => Sys2Proof.Machine.execCard s
  | .callReport => Sys2Proof.Machine.execCallReport s
  | .doneReport => Sys2Proof.Machine.execDoneReport s
  | .tagReport => Sys2Proof.Machine.execTagReport s
  | .scoringStart => Sys2Proof.Machine.execScoringStart s
  | .scoringEnd => Sys2Proof.Machine.execScoringEnd s
  | .waitingResultQueue => Sys2Proof.Machine.execWaitingResultQueue s
  | .programStart plane => Sys2Proof.Machine.execProgramStart plane s
  | .programPass plane => Sys2Proof.Machine.execProgramPass plane s
  | .programFail plane => Sys2Proof.Machine.execProgramFail plane s
  | .retireMarkEnd plane pass => Sys2Proof.Machine.execRetireMarkEnd plane pass s
  | .eraseStart plane => Sys2Proof.Machine.execEraseStart plane s
  | .eraseEnd plane pass => Sys2Proof.Machine.execEraseEnd plane pass s
  | .scanBlockClassify plane block => Sys2Proof.Machine.execScanBlockClassify plane block s
  | .scanEnd => Sys2Proof.Machine.execScanEnd s
  | .seatReportStart contenders => Sys2Proof.Machine.execSeatReportStart contenders s
  | .noticeSent p => Sys2Proof.Machine.execNoticeSent p s

end Sys2Proof.Machine
end

