-- ==== Sys2Proof/Machine/SeatUnit.lean ====
section
/-! DEFINITION. The seat unit as the manual describes it (R42, R46, R51): what a unit at a desk does with
the frames it accepts and which reports it sends.  The units are partners of the controller and no part of
its state (log 15); these definitions say what the controller's frames mean at a desk. -/

namespace Sys2Proof.Machine

/-- A seat unit: its seat, the group it holds, the display record it last took, whether its clock counts,
whether it shows the held mark, the message it is showing with the seconds it still shows it for, and the
code sequence it last showed. -/
structure SeatUnit where
  seat : Nat
  group : Option Nat := none
  record : Display := {}
  counting : Bool := false
  heldMark : Bool := false
  message : Option (DispCode × Nat × Nat) := none
  lastSeq : Nat := 0
deriving DecidableEq, Repr

/-- How long a unit shows a message (R51). -/
def messageSeconds : Nat := 5

/-- A unit answers to its own seat, to address 0, and to the group it holds (R42). -/
def SeatUnit.answersTo (u : SeatUnit) (address : Nat) : Bool :=
  address == u.seat || address == 0 || u.group.any (fun g => address == 512 + g)

/-- DISPLAY at a unit (R51): every field is taken into the record, a COUNT clock starts, and the code is shown
when its sequence differs from the last one shown.  The record's group field is held in the record only; the
group the unit answers to stays, which R42 gives to GROUP_SET alone. (DESIGN CHOICE, log 15.) -/
def SeatUnit.display (u : SeatUnit) (d : Display) : SeatUnit :=
  { u with record := d, counting := d.mode = .count, heldMark := d.mode = .held,
           message := if d.codeSeq = u.lastSeq ∨ d.code = .none then u.message
                      else some (d.code, d.arg, messageSeconds),
           lastSeq := d.codeSeq }

/-- ANNOUNCE at a unit (R51). -/
def SeatUnit.announce (u : SeatUnit) (code : Nat) : AnnounceAction → SeatUnit
  | .show => { u with message := some (.announce code, 0, messageSeconds) }
  | .hold => { u with counting := false, heldMark := true }
  | .run => if u.record.mode = .count then { u with counting := true, heldMark := false } else u

/-- CLEAR at a unit (R51): a blank display, no group, the lamp out, the lock clear.  The code sequence last
shown is kept. (DESIGN CHOICE, log 15.) -/
def SeatUnit.clear (u : SeatUnit) : SeatUnit := { seat := u.seat, lastSeq := u.lastSeq }

/-- A controller frame at a unit: taken where the unit answers to its address (R42, R51). -/
def SeatUnit.take (u : SeatUnit) (f : LineFrame) : SeatUnit :=
  if ¬ u.answersTo f.address then u
  else
    match f.kind with
    | .poll => u
    | .display d => u.display d
    | .groupSet g => { u with group := g }
    | .announce code action => u.announce code action
    | .clear => u.clear

/-- A second at a unit (R51): a COUNT clock counts down to 0, and a message ends after its 5 seconds. -/
def SeatUnit.second (u : SeatUnit) : SeatUnit :=
  { u with record := if u.counting then { u.record with remaining := u.record.remaining - 1 } else u.record
           message := match u.message with
                      | some (c, a, n + 2) => some (c, a, n + 1)
                      | _ => none }

/-- The four digits of a remaining time (R51): hours and minutes from 6,000 s up, and else minutes and
seconds. -/
def timeDigits (seconds : Nat) : Nat × Nat :=
  if 6000 ≤ seconds then (seconds / 3600, seconds % 3600 / 60) else (seconds / 60, seconds % 60)

/-- A unit sends a report of a kind: a locked unit sends no CARD, KEY or DONE (R46). -/
def SeatUnit.sends (u : SeatUnit) (k : ReportKind) : Bool :=
  match k with
  | .card _ | .key _ | .done => !u.record.lock
  | .hello _ | .call | .tag _ => true

/-- A unit after its own power-up: it holds no group (R42), and it sends HELLO (R46). -/
def SeatUnit.powerUp (seat : Nat) : SeatUnit := { seat := seat }

end Sys2Proof.Machine
end

