-- ==== Sys2Proof/Safety.lean ====
section
/-! DEFINITION. What the statements say in their own terms: a port ready to take a command, the state a
reply leaves, the bounds the manual sets on queues and counts, and the archive in canonical form. -/

namespace Sys2Proof.Machine

/-- A command frame under a TAG is taken as soon as it is complete (R164 to R166): the power-up scan has
ended, no command is in service on the port, its receive buffer is empty and the TAG is not 0. -/
abbrev State.ready (s : State) (p : Port) (tag : Byte) : Prop :=
  s.arch.scan = none ∧ (s.port p).inService = none ∧ (s.port p).buffer = none ∧ tag ≠ 0

/-- The link command a row of the opcode table gives, with its port and TAG (R178); the other rows and
UNKNOWN_COMMAND give none. -/
def linkCommand : Instr → Option (Port × Byte × Cmd)
  | .sessionOpen p tag session hallTime => some (p, tag, .sessionOpen session hallTime)
  | .sessionGo p tag => some (p, tag, .sessionGo)
  | .sessionClose p tag => some (p, tag, .sessionClose)
  | .sessionDiscard p tag => some (p, tag, .sessionDiscard)
  | .seatDefine p tag seat row column zone kind => some (p, tag, .seatDefine seat row column zone kind)
  | .zoneGrant p tag desk mask chief => some (p, tag, .zoneGrant desk mask chief)
  | .sittingDefine p tag f => some (p, tag, .sittingDefine f)
  | .cueDefine p tag sitting kind base value code => some (p, tag, .cueDefine sitting kind base value code)
  | .layoutDefine p tag sitting pageCount counts => some (p, tag, .layoutDefine sitting pageCount counts)
  | .candidateAdd p tag number sitting access allowance rest => some (p, tag, .candidateAdd number sitting access allowance rest)
  | .candidateAmend p tag number allowance rest access => some (p, tag, .candidateAmend number allowance rest access)
  | .allocate p tag sitting => some (p, tag, .allocate sitting)
  | .allocAbort p tag => some (p, tag, .allocAbort)
  | .keyItem p tag f => some (p, tag, .keyItem f)
  | .keySeal p tag sitting => some (p, tag, .keySeal sitting)
  | .keyUnseal p tag sitting => some (p, tag, .keyUnseal sitting)
  | .remark p tag script => some (p, tag, .remark script)
  | .finalise p tag sitting => some (p, tag, .finalise sitting)
  | .archiveExported p tag seq => some (p, tag, .archiveExported seq)
  | .archiveErase p tag plane block => some (p, tag, .archiveErase plane block)
  | .openDoors p tag sitting => some (p, tag, .openDoors sitting)
  | .start p tag sitting => some (p, tag, .start sitting)
  | .pause p tag scope => some (p, tag, .pause scope)
  | .resume p tag scope => some (p, tag, .resume scope)
  | .admitDesk p tag number override seat waiver => some (p, tag, .admitDesk number override seat waiver)
  | .move p tag number seat waiver => some (p, tag, .move number seat waiver)
  | .seatService p tag seat direction => some (p, tag, .seatService seat direction)
  | .restStart p tag number => some (p, tag, .restStart number)
  | .restEnd p tag number => some (p, tag, .restEnd number)
  | .finish p tag number => some (p, tag, .finish number)
  | .withdraw p tag number => some (p, tag, .withdraw number)
  | .issueTag p tag number script => some (p, tag, .issueTag number script)
  | .returnTags p tag count scripts => some (p, tag, .returnTags count scripts)
  | .voidTag p tag script => some (p, tag, .voidTag script)
  | .claimTag p tag script number => some (p, tag, .claimTag script number)
  | .announce p tag form value code => some (p, tag, .announce form value code)
  | .batchOpen p tag number => some (p, tag, .batchOpen number)
  | .page p tag f => some (p, tag, .page f)
  | .sheetQuery p tag script => some (p, tag, .sheetQuery script)
  | .sheetDiscard p tag script => some (p, tag, .sheetDiscard script)
  | .batchClose p tag => some (p, tag, .batchClose)
  | .archiveRead p tag seq => some (p, tag, .archiveRead seq)
  | .readCandidate p tag selector value => some (p, tag, .readCandidate selector value)
  | .readSeat p tag seat => some (p, tag, .readSeat seat)
  | .readSitting p tag sitting => some (p, tag, .readSitting sitting)
  | .portStatus p tag => some (p, tag, .portStatus)
  | .archiveStatus p tag => some (p, tag, .archiveStatus)
  | .powerReset | .hallSecond | .readingEnd .. | .elapsedCueFire .. | .defaultAdmissionClose .. |
  .remainingCueFire .. | .expiry .. | .restBudgetEnd .. | .pauseLimit .. | .seatPollDue .. |
  .closingDrainOffer | .closingEnd | .allocationTurn | .linkByteReceived .. | .frameGapTimeout .. |
  .transmitterStart .. | .replyComplete .. | .linkBreak .. | .lineIdle | .lineArbiterStart |
  .controllerFrameAck .. | .seatReportHeader | .holdTimeout | .seatReportEnd | .hello | .key | .card |
  .callReport | .doneReport | .tagReport | .scoringStart | .scoringEnd | .waitingResultQueue |
  .programStart .. | .programPass .. | .programFail .. | .retireMarkEnd .. | .eraseStart .. |
  .eraseEnd .. | .scanBlockClassify .. | .scanEnd | .seatReportStart .. | .noticeSent .. |
  .unknownCommand .. => none

/-- A state with a command in service on a port and its reply in the slot (R165, R169). -/
def State.replied (s : State) (p : Port) (tag : Byte) (c : Cmd) (r : ResultCode) (fields : List Field) : State :=
  s.mapPort p (fun ps =>
    { ps with inService := some ⟨tag, c⟩, replySlot := some ⟨tag, replyCode c.code, r, fields⟩ })

/-- The inbox entry reserved for the report on the line (R44). -/
def SeatLine.reserved (l : SeatLine) : Nat :=
  match l.cond with
  | .busyReport _ .reserved => 1
  | _ => 0

/-- The bounds of the manual: the seat inbox (R47), the group frame queue (R53), the notice queues
(R171), the archive queue and its RESULT records (R147), the custody list (R99), the candidate table
(R18, R20), hall time (R1) and the lost-record count (R148). -/
structure State.Bounded (s : State) : Prop where
  inbox : s.line.inbox.length + s.line.reserved ≤ 16
  groupQueue : s.line.groupQueue.length ≤ 8
  notices : ∀ p, (s.port p).notices.length ≤ 32
  queue : s.arch.queue.length ≤ 32
  results : s.arch.results ≤ 24
  custody : s.custody.length ≤ 2048
  cands : s.hall.cands.length ≤ 640
  time : s.hall.time ≤ 86399
  lost : s.arch.lost ≤ 65535

/-- The bounds of the manual inside the records: a seat's quiet time (R55), its miss count (R56) and its keypad
digits (R49), a sitting's cues (R61) and its S_el (R67), and the blocks of a plane (R145). -/
structure State.FieldsBounded (s : State) : Prop where
  quiet : ∀ x ∈ s.hall.seats, x.quiet ≤ 8
  miss : ∀ x ∈ s.hall.seats, x.miss ≤ 3
  keys : ∀ x ∈ s.hall.seats, x.keys.length ≤ 9
  cues : ∀ x ∈ s.hall.sittings, x.elapsedCues.length + x.remainingCues.length ≤ 8
  sel : ∀ x ∈ s.hall.sittings, x.sel ≤ 57600
  blocks : ∀ p, (s.arch.plane p).blocks.length = 128

/-- The bounds of the candidates' clocks: no candidate has consumed more than E or rested longer than its rest
budget (R59).  One in WRITING or RESTING is still below E, and one in RESTING below its budget (R70, R73); one
in EXPECTED or ADMITTED, or of a sitting that has not begun writing, has consumed nothing (R66, R83); no B and
no E is 0 (R15, R60). -/
structure State.ClocksBounded (s : State) : Prop where
  consumed : ∀ c ∈ s.hall.cands, c.consumed ≤ c.entitled
  rest : ∀ c ∈ s.hall.cands, c.restUsed ≤ c.restBudget
  writing : ∀ c ∈ s.hall.cands, c.state = .writing ∨ c.state = .resting → c.consumed < c.entitled
  resting : ∀ c ∈ s.hall.cands, c.state = .resting → c.restUsed < c.restBudget
  fresh : ∀ c ∈ s.hall.cands, c.state = .expected ∨ c.state = .admitted → c.consumed = 0
  early : ∀ x ∈ s.hall.sittings, x.state = .defined ∨ x.state = .opened ∨ x.state = .reading →
    ∀ c ∈ s.hall.cands, c.sitting = x.number → c.consumed = 0
  base : ∀ x ∈ s.hall.sittings, 0 < x.base
  entitled : ∀ c ∈ s.hall.cands, 0 < c.entitled

/-- A port whose role's list in R167 holds a command, by the command's name. -/
def listedFor (p : Port) (c : Cmd) : Bool :=
  match c, p with
  | .portStatus, _ | .archiveStatus, _ => true
  | .archiveRead _, .g | .readCandidate .., .g | .readSeat _, .g | .readSitting _, .g => true
  | .archiveRead _, .desk _ | .readCandidate .., .desk _ | .readSeat _, .desk _ | .readSitting _, .desk _ => true
  | .sessionOpen .., .g | .sessionGo, .g | .sessionClose, .g | .sessionDiscard, .g | .seatDefine .., .g
  | .zoneGrant .., .g | .sittingDefine _, .g | .cueDefine .., .g | .layoutDefine .., .g
  | .candidateAdd .., .g | .candidateAmend .., .g | .allocate _, .g | .allocAbort, .g | .keyItem _, .g
  | .keySeal _, .g | .keyUnseal _, .g | .remark _, .g | .finalise _, .g | .archiveExported _, .g
  | .archiveErase .., .g => true
  | .openDoors _, .desk _ | .start _, .desk _ | .pause _, .desk _ | .resume _, .desk _ | .admitDesk .., .desk _
  | .move .., .desk _ | .seatService .., .desk _ | .restStart _, .desk _ | .restEnd _, .desk _
  | .finish _, .desk _ | .withdraw _, .desk _ | .issueTag .., .desk _ | .returnTags .., .desk _
  | .voidTag _, .desk _ | .claimTag .., .desk _ | .announce .., .desk _ => true
  | .batchOpen _, .k | .page _, .k | .sheetQuery _, .k | .sheetDiscard _, .k | .batchClose, .k => true
  | _, _ => false

/-- R3's table, row by row: the session states marked "taken" for a command. -/
def markedFor : Cmd → List SessionState
  | .sessionOpen .. => [.idle]
  | .sessionGo => [.loading]
  | .sessionClose => [.live]
  | .sessionDiscard => [.loading, .live, .closing]
  | .seatDefine .. => [.loading]
  | .zoneGrant .. | .sittingDefine _ | .cueDefine .. | .layoutDefine .. | .candidateAdd .. | .candidateAmend ..
  | .allocate _ | .allocAbort | .seatService .. | .keyItem _ | .keySeal _ | .keyUnseal _ => [.loading, .live]
  | .remark _ | .finalise _ => [.live]
  | .openDoors _ | .start _ | .pause _ | .resume _ | .admitDesk .. | .move .. | .restStart _ | .restEnd _
  | .finish _ | .withdraw _ | .issueTag .. | .returnTags .. | .voidTag _ | .claimTag .. | .announce .. => [.live]
  | .batchOpen _ | .page _ | .sheetQuery _ | .sheetDiscard _ | .batchClose => [.live]
  | .archiveExported _ | .archiveErase .. => [.idle, .loading, .live]
  | .archiveRead _ | .readCandidate .. | .readSeat _ | .readSitting _ | .portStatus
  | .archiveStatus => [.idle, .loading, .live, .closing]
  | .unknown _ | .badLength _ => []

/-- The lengths, in bytes, that the fields of a command can have, by its CODE: its fields in the widths of
R177 (R166, R178, R179).  The lengths of SITTING_DEFINE (07h), LAYOUT_DEFINE (09h), RETURN_TAGS (2Ch) and
PAGE (41h) are log 21's. -/
def lengthsOf (code : Nat) : List Nat :=
  match code with
  | 0x02 | 0x03 | 0x04 | 0x0D | 0x44 | 0x70 | 0x71 => [0]
  | 0x0C | 0x0F | 0x10 | 0x12 | 0x20 | 0x21 | 0x22 | 0x23 | 0x63 => [1]
  | 0x14 | 0x40 | 0x62 => [2]
  | 0x06 | 0x26 => [3]
  | 0x11 | 0x13 | 0x27 | 0x28 | 0x29 | 0x2A | 0x2D | 0x2F | 0x42 | 0x43 | 0x60 => [4]
  | 0x61 => [5]
  | 0x01 | 0x05 | 0x08 => [6]
  | 0x25 => [7]
  | 0x0B | 0x24 | 0x2B | 0x2E => [8]
  | 0x0A => [9]
  | 0x0E => [15]
  | 0x07 => (List.range 8).map (fun k => 24 + k)
  | 0x09 => (List.range 4).map (fun k => 3 + k)
  | 0x2C => (List.range 16).map (fun k => 5 + 4 * k)
  | 0x41 => (List.range 113).map (fun k => 14 + 2 * k)
  | _ => []

/-- What a POWER reset leaves, as the reset tables give it (R1, R23, R24, R58, R59, R99, R119, R122, R130,
R139, R162, R176): no session, empty tables, no run, nothing on the seat line and one CLEAR in the group frame
queue, no batch, every slot FREE, an empty archive queue, no program and no erase in a plane and no block read
yet, the power-up scan running, every port as after a break with its transmitter free.  The line's condition is
log 8's, and the items that the tables do not give have the values of log 9. -/
structure State.PowerValues (s : State) : Prop where
  hall : s.hall = {}
  session : s.hall.session = .idle ∧ s.hall.sessionNo = none ∧ s.hall.time = 0 ∧ s.hall.drain = .off
  tables : s.hall.seats = [] ∧ s.hall.sittings = [] ∧ s.hall.cands = []
  grants : (∀ d, s.hall.masks.get d = 0#8) ∧ s.hall.chief = .d0
  run : s.alloc.running = false ∧ s.alloc.sitting = none ∧ s.alloc.placed = 0 ∧ s.alloc.unplaced = 0
    ∧ s.alloc.abort = false
  runItems : s.alloc.pass = .access ∧ s.alloc.cursor = 0 ∧ s.alloc.accessFill = [] ∧ s.alloc.standardFill = []
    ∧ s.alloc.dropped = [] ∧ s.alloc.lastTurn = 0
  line : s.line.inbox = [] ∧ s.line.groupQueue = [⟨0, .clear⟩] ∧ s.line.lastServed = 0
    ∧ s.line.lastPolled = 0
  lineItems : s.line.cond = .quiet ∧ s.line.deliver = none ∧ s.line.acked = false
  pause : s.clock.hallPause = false ∧ s.clock.ahead = [] ∧ s.clock.restEnded = []
  custody : s.custody = []
  batch : s.marking.batch =
    { opened := false, number := 0, openedAt := 0, scored := 0, clamped := 0, discarded := 0,
      mismatches := 0, clampSeen := false }
  slots : s.marking.slots.length = 8
    ∧ (∀ y ∈ s.marking.slots, y =
        { state := .free, script := 0, cand := 0, sitting := 0, pageCount := 0, pages := [],
          readSeen := false, mismatchSeen := false, result := none })
    ∧ s.marking.order = []
    ∧ s.marking.waiting = [] ∧ s.marking.job = none
  queue : s.arch.queue = [] ∧ s.arch.lost = 0 ∧ s.arch.seqCounter = 0 ∧ s.arch.lastStored = 0
    ∧ s.arch.exported = 0 ∧ s.arch.torn = 0
  planes : ∀ p, (s.arch.plane p).staging = none ∧ (s.arch.plane p).progBuf = none
    ∧ (s.arch.plane p).prev = .none ∧ (s.arch.plane p).cur = .none ∧ (s.arch.plane p).stalled = false
    ∧ (s.arch.plane p).run = .none ∧ (s.arch.plane p).eraseBegun = false
    ∧ (s.arch.plane p).stallAlertDue = false
  blocks : ∀ p, (s.arch.plane p).blocks.length = 128 ∧ ∀ y ∈ (s.arch.plane p).blocks,
    y = { state := .unread, used := 0, first := none, highest := none, failed := none }
  scan : s.arch.scan = some { written := false, high := 0, exportSeen := none, sessionSeen := none }
  ports : ∀ p, (s.port p).asm = .hunting ∧ (s.port p).buffer = none ∧ (s.port p).inService = none
    ∧ (s.port p).replySlot = none ∧ (s.port p).notices = [] ∧ (s.port p).errorFlag = false
    ∧ (s.port p).lostFlag = false ∧ (s.port p).sending = .none

/-- How many candidate records belong to a sitting, and how many of those are in a state (R19). -/
def State.enrolledIn (s : State) (n : Nat) : Nat := s.hall.cands.countP (fun c => c.sitting == n)

/-- How many candidates of a sitting are in a state. -/
def State.inState (s : State) (n : Nat) (st : CandState) : Nat :=
  s.hall.cands.countP (fun c => c.sitting == n && decide (c.state = st))

/-- A sitting's count of a state (R14). -/
def Counts.get (c : Counts) : CandState → Nat
  | .expected => c.expected
  | .admitted => c.admitted
  | .writing => c.writing
  | .resting => c.resting
  | .finished => c.finished
  | .collected => c.collected
  | .absent => c.absent
  | .withdrawn => c.withdrawn

/-- The counts of every sitting are those of its candidates, and every candidate's sitting has a record
(R19). -/
structure State.CountsAgree (s : State) : Prop where
  enrolled : ∀ x ∈ s.hall.sittings, x.enrolled = s.enrolledIn x.number
  counts : ∀ x ∈ s.hall.sittings, ∀ st, x.counts.get st = s.inState x.number st
  sitting : ∀ c ∈ s.hall.cands, ∃ x ∈ s.hall.sittings, x.number = c.sitting

/-- The seat map is in ascending seat number, the sitting table in ascending sitting number, and no
candidate number stands twice (sections 1.4, 1.6, 1.7, R18). -/
structure State.TablesOrdered (s : State) : Prop where
  seats : s.hall.seats.Pairwise (fun x y => x.seat < y.seat)
  sittings : s.hall.sittings.Pairwise (fun x y => x.number < y.number)
  numbers : s.hall.cands.Pairwise (fun x y => x.number ≠ y.number)

/-- Every candidate in WRITING or RESTING belongs to a sitting in WRITING (R66, R70, R73, R78). -/
structure State.PhasesAgree (s : State) : Prop where
  writing : ∀ c ∈ s.hall.cands, c.state = .writing ∨ c.state = .resting →
    ∃ x ∈ s.hall.sittings, x.number = c.sitting ∧ x.state = .writing

/-- A seat is occupied by a candidate exactly when the candidate's record names that seat (R30), and a candidate
in ABSENT, COLLECTED or WITHDRAWN has no seat (R68, R96, R109). -/
structure State.OccupancyAgrees (s : State) : Prop where
  seats : ∀ x ∈ s.hall.seats, ∀ i, x.occupant = some i → ∃ c, s.cand? i = some c ∧ c.seat = some x.seat
  cands : ∀ i c n, s.cand? i = some c → c.seat = some n → ∃ x ∈ s.hall.seats, x.seat = n ∧ x.occupant = some i
  gone : ∀ c ∈ s.hall.cands, c.state = .absent ∨ c.state = .collected ∨ c.state = .withdrawn → c.seat = none

/-- The archive's memory is in its canonical form. -/
def State.MemOk (s : State) : Prop := Memory.wf s.arch.mem = true

end Sys2Proof.Machine
end

