-- ==== Sys2Proof/Certificates/Slice0/Obligations.lean ====
section
/-! DEFINITION. The statements for the provers, from the numbered rules of spec/, chapter by chapter.  A
statement that a command has its effect gives the whole next state, so that everything it does not name is
as it was; `State.ready` says that the port takes the command at once. -/

section Obligations
open Sys2Proof Sys2Proof.Machine

/-! ## Every command -/

/-- A step takes the command at the front of the queue and runs it with the queue's rest. -/
def Obligations.StepRunsFront : Prop :=
  ∀ (c : Instr) (rest : List Instr) (s : State), s.pending = c :: rest →
    step s = exec c { s with pending := rest }

/-- Every command and event, in every state, is answered with a next state and leaves the waiting commands
as they are. -/
def Obligations.ExecAlwaysNext : Prop :=
  ∀ (c : Instr) (s : State), ∃ t, exec c s = .next t ∧ t.pending = s.pending

/-- The state after reset has the values the reset tables give (R23, R24, R58, R59, R99, R119, R122, R162,
R176; logs 8 and 9 for what they leave open). The invariants hold at reset: the memory's form, the bounds of the
queues, the records and the clocks, the counts, the tables' order, the phases and the occupancy (R30). -/
def Obligations.ResetState : Prop :=
  State.reset.PowerValues
  ∧ (State.reset.MemOk ∧ State.reset.Bounded ∧ State.reset.CountsAgree ∧ State.reset.TablesOrdered
    ∧ State.reset.PhasesAgree ∧ State.reset.OccupancyAgrees ∧ State.reset.FieldsBounded
    ∧ State.reset.ClocksBounded)

/-- POWER_RESET, in every state, is answered with the state after reset, the values the reset tables give (R23,
R24, R58, R59, R99, R119, R122, R162, R176; logs 8 and 9 for what they leave open), but for the archive's pages,
the model's own count of disturbances, and the commands that wait: any program, erase, block table, report, hold
or transmission goes.  The pages stay as they were where no program and no erase was cut off, and no byte
changes outside the page of a program cut off and the block of an erase cut off.  The page of a program cut
off is torn, and so is a record page of a block whose erase was cut off (R159, R162; logs 10 and 11).  That an
erase is cut off only once ERASE_START has marked it begun, and that one accepted and not yet begun leaves the
pages as they were, is the model's own (log 17): R156 and R161 begin an accepted erase at once where no program
runs in its plane. -/
def Obligations.PowerReset : Prop :=
  ∀ s : State, ∃ (m : List Host.Cell) (d : Nat),
    let t := { State.reset with arch := { State.reset.arch with mem := m, disturbances := d },
                                pending := s.pending }
    let programs := fun (p : PlaneId) (b n : Nat) =>
      (s.arch.plane p).run = .record b n ∨ ((s.arch.plane p).run = .tail b ∧ n = 31)
    let erases := fun (p : PlaneId) (b : Nat) =>
      (s.arch.plane p).eraseBegun = true ∧ (s.arch.plane p).findBlock .erasing = some b
    exec .powerReset s = .next t ∧ t.PowerValues
    ∧ ((∀ p b n, ¬ programs p b n) → (∀ p b, ¬ erases p b) → m = s.arch.mem)
    ∧ (s.MemOk →
      (∀ a, (∀ p b n, programs p b n → a < pageAddr p b n ∨ pageAddr p b (n + 1) ≤ a) →
        (∀ p b, erases p b → a < pageAddr p b 0 ∨ pageAddr p (b + 1) 0 ≤ a) →
        Memory.read m a = Memory.read s.arch.mem a)
      ∧ ((∀ p, (s.arch.plane p).blocks.length = 128) →
        (∀ p b n, programs p b n → b < 128 → n < 32 → (s.arch.plane p).eraseBegun = false →
          pageTorn (readPage m p b n) = true)
        ∧ (∀ p b, erases p b → ∃ n, n < 31 ∧ pageTorn (readPage m p b n) = true)))

/-- Every step keeps the archive's memory in its canonical form. -/
def Obligations.MemoryFormKept : Prop :=
  ∀ s t : State, s.MemOk → step s = .next t → t.MemOk

/-- Every step keeps the bounds of the inbox, the queues, the tables and the counts (R1, R18, R44, R47, R53,
R99, R147, R148, R171). With the tables in order, every step keeps a seat's quiet time at most 8 (R55), its miss
count at most 3 (R56) and its keypad buffer at most nine digits (R49), a sitting's cues at most 8 (R61) and
its S_el at most 57,600 (R67), and the 128 blocks of each plane (R145). With the counts, the tables' order and
the phases, every step keeps each candidate's consumed at most E and its rest used at most its rest budget
(R59), with what that rests on: a candidate in WRITING or RESTING is below E and one in RESTING below its
budget, one in EXPECTED or ADMITTED or of a sitting before its start of writing has consumed nothing, and no B
and no E is 0. -/
def Obligations.BoundsKept : Prop :=
  (∀ s t : State, s.Bounded → step s = .next t → t.Bounded)
  ∧ (∀ s t : State, s.TablesOrdered → s.FieldsBounded → step s = .next t → t.FieldsBounded)
  ∧ (∀ s t : State, s.CountsAgree → s.TablesOrdered → s.PhasesAgree → s.ClocksBounded → step s = .next t →
    t.ClocksBounded)

/-- Every step keeps each sitting's enrolled count equal to the number of its candidate records, and its
counts by state equal to the numbers of its candidates in each state (R19). Every step keeps the seat
map and the sitting table in ascending number and the candidate numbers distinct (sections 1.4, 1.6,
1.7, R18).  With both, every step keeps every candidate in WRITING or RESTING in a sitting in WRITING (R66, R70,
R73, R78). With the tables in order, every step keeps the occupancy: a seat is occupied by a candidate exactly
when the candidate's record names that seat (R30), and no candidate in ABSENT, COLLECTED or WITHDRAWN has a
seat (R68, R96, R109). -/
def Obligations.TablesKept : Prop :=
  (∀ s t : State, s.CountsAgree → step s = .next t → t.CountsAgree)
  ∧ (∀ s t : State, s.TablesOrdered → step s = .next t → t.TablesOrdered)
  ∧ (∀ s t : State, s.CountsAgree → s.TablesOrdered → s.PhasesAgree → step s = .next t → t.PhasesAgree)
  ∧ (∀ s t : State, s.TablesOrdered → s.OccupancyAgrees → step s = .next t → t.OccupancyAgrees)

/-! ## The gates and the intake (R2, R3, R165 to R167) -/

/-- A command that the gates turn away changes nothing but its port: the reply carries the result alone. While
the power-up scan runs the result is BUSY, but for PORT_STATUS and ARCHIVE_STATUS (R2); outside it, ROLE where
the port's role does not take the command (R167), and else STATE in a session state that R3's table does not
mark for it. A code that no command row holds is answered UNKNOWN on every port, outside the power-up scan,
and changes nothing else (R166). Fields of a length that no form of the command has are answered LENGTH, after
ROLE and before STATE, and fields of every other length pass that gate (R166, R177 to R179); the lengths of
the commands of varying length are the model's (log 21). A good frame that arrives while a command is in
service waits in the receive buffer; with the buffer occupied it is discarded and the summary error flag set;
a TAG of 0 is an erroneous frame (R164, R165). That a frame in the buffer with no command in service has the
same effect is the model's choice (log 36). -/
def Obligations.IntakeAndGates : Prop :=
  (∀ (i : Instr) (p : Port) (tag : Byte) (c : Cmd) (s : State), linkCommand i = some (p, tag, c) →
     (s.port p).inService = none → (s.port p).buffer = none → tag ≠ 0 →
     (s.arch.scan.isSome = true → c ≠ .portStatus → c ≠ .archiveStatus →
       exec i s = .next (s.replied p tag c .busy []))
     ∧ (s.arch.scan = none → listedFor p c = false → exec i s = .next (s.replied p tag c .role []))
     ∧ (s.arch.scan = none → listedFor p c = true → s.hall.session ∉ markedFor c →
       exec i s = .next (s.replied p tag c .state [])))
  ∧ (∀ (p : Port) (tag code : Byte) (s : State), s.ready p tag → isCommandCode code = false →
     exec (.unknownCommand p tag code) s = .next (s.replied p tag (.unknown code) .unknown []))
  ∧ (∀ (p : Port) (tag : Byte) (c : Cmd) (fields : List Byte) (s : State), s.ready p tag →
     (∀ b, c ≠ .unknown b ∧ c ≠ .badLength b) → fields.length ≤ 238 →
     let d := decodeCommand c.code fields
     (listedFor p c = false → s.arrive p tag d = s.replied p tag d .role [])
     ∧ (listedFor p c = true → fields.length ∉ lengthsOf c.code.toNat →
       s.arrive p tag d = s.replied p tag (.badLength c.code) .length [])
     ∧ (fields.length ∈ lengthsOf c.code.toNat → d.code = c.code ∧ d ≠ .badLength c.code))
  ∧ (∀ (i : Instr) (p : Port) (tag : Byte) (c : Cmd) (s : State), linkCommand i = some (p, tag, c) →
     (tag ≠ 0 → (s.port p).inService.isSome = true → (s.port p).buffer = none →
       exec i s = .next (s.mapPort p (fun ps => { ps with buffer := some ⟨tag, c⟩ })))
     ∧ (tag ≠ 0 → (s.port p).buffer.isSome = true →
       exec i s = .next (s.mapPort p (fun ps => { ps with errorFlag := true })))
     ∧ (tag = 0 → exec i s = .next (s.mapPort p (fun ps => { ps with errorFlag := true }))))

/-! ## Sessions and loading (Chapter 1) -/

/-- SESSION_OPEN in IDLE: the session number, hall time, the zone grants cleared with the CHIEF mark at D0,
the hall pause flag clear, the SESSION_OPEN record offered, LOADING and OK (R4, R59). SESSION_GO in
LOADING enters LIVE (R5). SESSION_CLOSE in LIVE, with no run in flight and no sitting in OPEN, READING,
WRITING or COLLECTING, enters CLOSING and begins the drain; else it is refused BUSY or STATE (R6).  An alert
of the SESSION_OPEN record's offer is stamped with the hall time at which the command was taken (R1). -/
def Obligations.SessionsOpenAndClose : Prop :=
  (∀ (tag : Byte) (n time : Nat) (s : State), s.ready .g tag → s.hall.session = .idle →
     1 ≤ n → n ≤ 65535 → time ≤ 86399 →
     exec (.sessionOpen .g tag n time) s = .next
       (({ s with
           hall := { s.hall with session := .loading, sessionNo := some n, time := time,
                                 masks := ⟨0#8, 0#8, 0#8, 0#8⟩, chief := .d0 }
           clock := { s.clock with hallPause := false } }.offer .sessionOpen
             [⟨2, n⟩, ⟨4, time⟩] s.hall.time).replied .g tag (.sessionOpen n time) .ok []))
  ∧ (∀ (tag : Byte) (s : State), s.ready .g tag →
     (s.hall.session = .loading → exec (.sessionGo .g tag) s = .next
       ({ s with hall := { s.hall with session := .live } }.replied .g tag .sessionGo .ok []))
     ∧ (s.hall.session = .live → s.alloc.running = true → exec (.sessionClose .g tag) s = .next
       (s.replied .g tag .sessionClose .busy []))
     ∧ (s.hall.session = .live → s.alloc.running = false →
         (∃ x ∈ s.hall.sittings, x.state = .opened ∨ x.state = .reading ∨ x.state = .writing
           ∨ x.state = .collecting) → exec (.sessionClose .g tag) s = .next
       (s.replied .g tag .sessionClose .state []))
     ∧ (s.hall.session = .live → s.alloc.running = false →
         (∀ x ∈ s.hall.sittings, x.state = .defined ∨ x.state = .closed ∨ x.state = .final) →
         exec (.sessionClose .g tag) s = .next
       ({ s with hall := { s.hall with session := .closing, drain := .custody 0 } }.replied .g tag
         .sessionClose .ok [])))

/-- SESSION_DISCARD in LOADING, LIVE or CLOSING: a DISCARD reset of every block but the archive and the
ports, then the SESSION_DISCARDED record with the session number and the hall time before it (R8, R23).  A
report or a frame on the line goes on, unacknowledged or without effect (R58), and the acknowledge output is
not driven (the model's, log 9). An alert of the record's offer is stamped with the hall time at which the
command was taken (R1). -/
def Obligations.SessionDiscarded : Prop :=
  ∀ (tag : Byte) (s : State), s.ready .g tag → s.hall.session ≠ .idle →
    let cond := match s.line.cond with
      | .idle => .idle
      | .quiet => .quiet
      | .busyController f _ => .busyController f true
      | .busyReport r _ | .hold r => .busyReport r .refused
    let l : SeatLine := { cond := cond, inbox := [], groupQueue := [⟨0, .clear⟩], deliver := none,
                          lastServed := 0, lastPolled := 0, acked := false }
    exec (.sessionDiscard .g tag) s = .next
      (({ hall := {}, alloc := {}, line := l, clock := {}, custody := [], marking := {}, arch := s.arch,
          links := s.links, pending := s.pending : State }.offer .sessionDiscarded
            [⟨2, s.hall.sessionNo.getD 0⟩, ⟨4, s.hall.time⟩] s.hall.time).replied .g tag .sessionDiscard .ok [])

/-- The closing drain (R7): with room in the queue it offers the CUSTODY_CLOSE record of the next candidate
not in COLLECTED, and after the last of them SESSION_CLOSED; with the queue full it waits. CLOSING ends with a
CLOSE reset once the queue is empty after SESSION_CLOSED, and not before: the hall record at its reset values
with the session IDLE (R23), the seat line with its inbox empty and one CLEAR in the group frame queue, a
report or a frame on the line going on, unacknowledged or without effect (R58), the pause flag clear (R59),
the custody list empty (R99), no batch and every slot FREE (R119, R122), and the run state (R24), the archive
(R162) and the ports (R176) as they were. That the acknowledge output is not driven is the model's (log 9),
and so are the 2 bytes of SESSION_CLOSED's number of records (log 53). -/
def Obligations.ClosingDrain : Prop :=
  ∀ s : State,
    let hall : Hall :=
      { session := .idle, sessionNo := none, time := 0, seats := [], masks := ⟨0#8, 0#8, 0#8, 0#8⟩,
        chief := .d0, sittings := [], cands := [], drain := .off }
    let cond := match s.line.cond with
      | .idle => .idle
      | .quiet => .quiet
      | .busyController f _ => .busyController f true
      | .busyReport r _ | .hold r => .busyReport r .refused
    let line : SeatLine :=
      { cond := cond, inbox := [], groupQueue := [⟨0, .clear⟩], deliver := none, lastServed := 0,
        lastPolled := 0, acked := false }
    (∀ i j, s.hall.drain = .custody i → s.arch.queue.length < 32 →
      (i ≤ j ∧ (∃ c, s.hall.cands[j]? = some c ∧ c.state ≠ .collected) ∧
        ∀ k c, i ≤ k → k < j → s.hall.cands[k]? = some c → c.state = .collected) →
      exec .closingDrainOffer s = .next
        ({ s with hall := { s.hall with drain := .custody (j + 1) } }.offerCustodyClose j false))
    ∧ (∀ i, s.hall.drain = .custody i → s.arch.queue.length < 32 →
      (∀ k c, i ≤ k → s.hall.cands[k]? = some c → c.state = .collected) →
      exec .closingDrainOffer s = .next
        ({ s with hall := { s.hall with drain := .waitEmpty } }.offer .sessionClosed
          [⟨2, s.hall.sessionNo.getD 0⟩, ⟨4, s.hall.time⟩, ⟨2, s.hall.cands.length⟩]))
    ∧ (32 ≤ s.arch.queue.length → exec .closingDrainOffer s = .next s)
    ∧ (s.hall.drain = .waitEmpty → s.arch.queue = [] → exec .closingEnd s = .next
      { hall := hall, alloc := s.alloc, line := line, clock := { hallPause := false, ahead := [], restEnded := [] },
        custody := [], marking := {}, arch := s.arch, links := s.links, pending := s.pending })
    ∧ (s.hall.drain ≠ .waitEmpty ∨ s.arch.queue ≠ [] → exec .closingEnd s = .next s)

/-- SEAT_DEFINE in LOADING, its fields in range, no run in flight and the grid position free: a record with
R10's values for a seat number without one, and for a seat without occupant the row, column, zone and kind
replaced (R10, R11).  ZONE_GRANT: the mask replaced, the CHIEF mark moved where the chief field is set, the
reply carrying the chief (R13). -/
def Obligations.SeatsAndGrants : Prop :=
  (∀ (tag : Byte) (n row column zone kind : Nat) (k : SeatKind) (s : State), s.ready .g tag →
    s.hall.session = .loading → 1 ≤ n → n ≤ 511 → 1 ≤ row → row ≤ 32 → 1 ≤ column → column ≤ 32 →
    zone ≤ 7 → (kind, k) ∈ [(0, SeatKind.standard), (1, SeatKind.access), (2, SeatKind.spare)] →
    s.alloc.running = false →
    (∀ x ∈ s.hall.seats, x.seat ≠ n → ¬ (x.row = row ∧ x.column = column)) →
    (s.seat? n = none →
      let x : Seat := { seat := n, row := row, column := column, zone := zone, kind := k,
                        service := .inService, occupant := none, waiver := false }
      exec (.seatDefine .g tag n row column zone kind) s = .next
        ({ s with hall := { s.hall with seats := insertSeat x s.hall.seats } }.replied .g tag
          (.seatDefine n row column zone kind) .ok []))
    ∧ (∀ x, s.seat? n = some x → x.occupant = none →
      exec (.seatDefine .g tag n row column zone kind) s = .next
      ((s.mapSeat n (fun y => { y with row := row, column := column, zone := zone, kind := k })).replied
        .g tag (.seatDefine n row column zone kind) .ok [])))
  ∧ (∀ (tag : Byte) (d mask chief : Nat) (desk : Desk) (s : State), s.ready .g tag →
    (s.hall.session = .loading ∨ s.hall.session = .live) →
    (d, desk) ∈ [(0, Desk.d0), (1, Desk.d1), (2, Desk.d2), (3, Desk.d3)] → mask ≤ 255 → chief ≤ 1 →
    exec (.zoneGrant .g tag d mask chief) s = .next
      ({ s with hall := { s.hall with masks := s.hall.masks.set desk (BitVec.ofNat 8 mask),
                                      chief := if chief = 1 then desk else s.hall.chief } }.replied .g tag
        (.zoneGrant d mask chief) .ok
        [⟨1, deskCode (if chief = 1 then desk else s.hall.chief)⟩]))

/-- SITTING_DEFINE with its fields in range and its zones distinct creates the record of R14, in DEFINED,
every counter 0 and the key EMPTY (R14, R15); a redefinition in DEFINED with no run in flight and no cue
at or above the new B replaces the fields carried, and a changed B recomputes the entitlements (R16). -/
def Obligations.SittingsDefined : Prop :=
  ∀ (tag : Byte) (f : SittingFields) (ip : InvalidPolicy) (fp : FloorPolicy) (s : State), s.ready .g tag →
    (s.hall.session = .loading ∨ s.hall.session = .live) →
    1 ≤ f.sitting → f.sitting ≤ 12 → f.paper.length = 8 → (∀ ch ∈ f.paper, 0x20 ≤ ch ∧ ch ≤ 0x7E) →
    60 ≤ f.base → f.base ≤ 28800 → f.reading ≤ 1800 → f.pauseLimit ≤ 3600 → 1 ≤ f.zoneCount →
    f.zoneCount ≤ 8 → f.zones.length = f.zoneCount → (∀ z ∈ f.zones, z ≤ 7) → f.zones.Nodup →
    1 ≤ f.outMax → f.outMax ≤ 10000 → f.passMark ≤ f.outMax → f.penalty ≤ 255 →
    (f.invalidPolicy, ip) ∈ [(0, InvalidPolicy.asWrong), (1, InvalidPolicy.asBlank)] →
    (f.floorPolicy, fp) ∈ [(0, FloorPolicy.clampZero), (1, FloorPolicy.signed)] →
    (s.sitting? f.sitting = none →
      let x : Sitting :=
        { number := f.sitting, paper := f.paper, state := .defined, base := f.base, reading := f.reading,
          pauseLimit := f.pauseLimit, zones := f.zones, elapsedReading := 0, sel := 0, pauseAcc := 0,
          elapsedCues := [], remainingCues := [], elapsedPtr := 0, admission := false, exitOpen := false,
          disrupted := false, paused := false, layout := none, items := [], keyState := .empty,
          rawMax := 0, outMax := f.outMax, passMark := f.passMark, penalty := f.penalty,
          invalidPolicy := ip, floorPolicy := fp, enrolled := 0, counts := ⟨0, 0, 0, 0, 0, 0, 0, 0⟩,
          inFlight := false }
      exec (.sittingDefine .g tag f) s = .next
        ({ s with hall := { s.hall with sittings := insertSitting x s.hall.sittings } }.replied .g tag
          (.sittingDefine f) .ok []))
    ∧ (∀ x, s.sitting? f.sitting = some x → x.inFlight = false → x.state = .defined →
      (∀ q ∈ x.elapsedCues ++ x.remainingCues, q.value < f.base) →
      exec (.sittingDefine .g tag f) s = .next
      ((let t := s.mapSitting f.sitting (fun y =>
          { y with paper := f.paper, base := f.base, reading := f.reading, pauseLimit := f.pauseLimit,
                   zones := f.zones, outMax := f.outMax, passMark := f.passMark, penalty := f.penalty,
                   invalidPolicy := ip, floorPolicy := fp })
        if f.base = x.base then t
        else { t with hall := { t.hall with cands := t.hall.cands.map (fun c =>
          if c.sitting = f.sitting then { c with entitled := entitlement f.base c.allowance } else c) } }
        ).replied .g tag (.sittingDefine f) .ok []))

/-- CANDIDATE_ADD taken: a record with R18's values at the next index, the enrolled count and the EXPECTED
count up by 1, the reply carrying the index (R18, R20). The entitlement is the least whole number of
seconds not below B times (100 + a) / 100 (R60). -/
def Obligations.CandidateAdded : Prop :=
  (∀ (tag : Byte) (number n access allowance rest : Nat) (x : Sitting) (s : State), s.ready .g tag →
     (s.hall.session = .loading ∨ s.hall.session = .live) → 1 ≤ number → number ≤ 999999999 → 1 ≤ n →
     n ≤ 12 → access ≤ 1 → allowance ≤ 100 → rest ≤ 3600 → s.sitting? n = some x → x.inFlight = false →
     (x.state = .defined ∨ x.state = .opened ∨ x.state = .reading ∨ (x.state = .writing ∧ x.admission = true)) →
     (∀ c ∈ s.hall.cands, c.number ≠ number) → s.hall.cands.length < 640 →
     let c : Cand :=
       { number := number, sitting := n, access := access = 1, allowance := allowance, restBudget := rest,
         restUsed := 0, state := .expected, seat := none, entitled := entitlement x.base allowance,
         consumed := 0, cuePtr := 0, cause := none, late := false, lateOverride := false,
         nilScript := false, exitClosed := false, issued := 0, returned := 0, version := 0, summary := none }
     exec (.candidateAdd .g tag number n access allowance rest) s = .next
       (({ s with hall := { s.hall with cands := s.hall.cands ++ [c] } }.mapSitting n (fun y =>
           { y with enrolled := y.enrolled + 1,
                    counts := { y.counts with expected := y.counts.expected + 1 } })).replied .g tag
         (.candidateAdd number n access allowance rest) .ok [⟨2, s.hall.cands.length⟩]))
  ∧ (∀ b a : Nat, b * (100 + a) ≤ 100 * entitlement b a ∧ ∀ e, b * (100 + a) ≤ 100 * e → entitlement b a ≤ e)

/-- CANDIDATE_AMEND taken: the three values stored, E recomputed, the budget not below rest used, the
display written as R69 gives, the reply carrying the new E (R21).  A writing or resting candidate whose
new E is not above consumed is finished with consumed at the new E and cause TIME, the effects of an
expiry following; a resting candidate whose budget is used up, and whose E is above consumed, returns to
WRITING with the rest-over code (R22) and consumes no writing time in the second that passes next (R73, read by
log 48). -/
def Obligations.CandidateAmended : Prop :=
  ∀ (tag : Byte) (number allowance rest access i : Nat) (c : Cand) (x : Sitting) (s : State),
    s.ready .g tag → (s.hall.session = .loading ∨ s.hall.session = .live) → 1 ≤ number →
    number ≤ 999999999 → allowance ≤ 100 → rest ≤ 3600 → access ≤ 1 → s.findCand number = some i →
    s.cand? i = some c → s.sitting? c.sitting = some x → x.inFlight = false →
    let e := entitlement x.base allowance
    let t := (s.mapCand i (fun y => { y with allowance := allowance, restBudget := max rest c.restUsed,
                                             access := access = 1, entitled := e })).showCand i
    (c.state = .expected ∨ c.state = .admitted ∨ (c.state = .writing ∧ c.consumed < e)
        ∨ (c.state = .resting ∧ c.consumed < e ∧ c.restUsed < rest) →
      exec (.candidateAmend .g tag number allowance rest access) s = .next
        (t.replied .g tag (.candidateAmend number allowance rest access) .ok [⟨2, e⟩]))
    ∧ ((c.state = .writing ∨ c.state = .resting) ∧ e ≤ c.consumed →
      exec (.candidateAmend .g tag number allowance rest access) s = .next
        (((t.mapCand i (fun y => { y with consumed := e })).finishCand i .time).replied .g tag
          (.candidateAmend number allowance rest access) .ok [⟨2, e⟩]))
    ∧ (c.state = .resting ∧ c.consumed < e ∧ rest ≤ c.restUsed →
      exec (.candidateAmend .g tag number allowance rest access) s = .next
        ((let w := (t.setCandState i .writing).showCand i (some (.cond .restOver))
          { w with clock := { w.clock with restEnded := w.clock.restEnded ++ [i] } }.sittingTests
            c.sitting).replied .g tag (.candidateAmend number allowance rest access) .ok [⟨2, e⟩]))

/-! ## Seat allocation (Chapter 2) -/

/-- ALLOCATE of a sitting in DEFINED or OPEN with no run in flight begins the run of R25 and replies
ACCEPTED; with no candidate to visit the run ends in the same event (R25, R31).  ALLOC_ABORT ends the run
in flight with ABORTED set, the candidates that had no turn counted unplaced, and with no run is refused
STATE (R33). -/
def Obligations.RunsBeginAndAbort : Prop :=
  (∀ (tag : Byte) (n : Nat) (x : Sitting) (s : State), s.ready .g tag →
    (s.hall.session = .loading ∨ s.hall.session = .live) → 1 ≤ n → n ≤ 12 → s.sitting? n = some x →
    s.alloc.running = false → (x.state = .defined ∨ x.state = .opened) →
    let a : Alloc := { running := true, sitting := some n, pass := .access, cursor := 0,
                       accessFill := x.zones.map (fun _ => 0), standardFill := x.zones.map (fun _ => 0),
                       dropped := x.zones.map (fun _ => false), placed := 0, unplaced := 0,
                       abort := false, lastTurn := 0 }
    let t := { s.mapSitting n (fun y => { y with inFlight := true }) with alloc := a }
    ((∃ c ∈ s.hall.cands, c.sitting = n ∧ c.state = .expected ∧ c.seat = none ∧ 0 < c.number) →
      exec (.allocate .g tag n) s = .next (t.replied .g tag (.allocate n) .accepted []))
    ∧ ((∀ c ∈ s.hall.cands, ¬ (c.sitting = n ∧ c.state = .expected ∧ c.seat = none)) →
      exec (.allocate .g tag n) s = .next ((({ t.mapSitting n (fun y => { y with inFlight := false }) with
          alloc := { a with running := false, sitting := none } }).notify .g
            (.allocDone n 0 0 false s.hall.time)).replied .g tag (.allocate n) .accepted [])))
  ∧ (∀ (tag : Byte) (s : State), s.ready .g tag → (s.hall.session = .loading ∨ s.hall.session = .live) →
    (s.alloc.running = false → exec (.allocAbort .g tag) s = .next (s.replied .g tag .allocAbort .state []))
    ∧ (∀ n, s.alloc.running = true → s.alloc.sitting = some n →
      let un := s.alloc.unplaced + s.turnsLeft n s.alloc
      let a := { s.alloc with running := false, sitting := none, unplaced := un, abort := true }
      exec (.allocAbort .g tag) s = .next
        (({ s.mapSitting n (fun x => { x with inFlight := false }) with alloc := a }.notify .g
          (.allocDone n s.alloc.placed un true s.hall.time)).replied .g tag .allocAbort .ok [])))

/-- A turn of the run in flight (R26 to R31).  With no ACCESS-need candidate left without a turn the pass
becomes STANDARD and the dropped marks are cleared, at the start of the turn (the model's choice, log 44).
The candidate of lowest number that awaits its turn in the pass gets the first seat that qualifies, at or
after the fill position, of the first zone, from the one under the cursor on and wrapping, that is not
dropped and has such a seat: the fill position goes past that seat and the cursor to the zone after the
one used. Every zone searched before it is dropped, its fill position past its end. Where no zone has a seat
the candidate stays unplaced and is counted, and the cursor stays. The run ends, with ALLOC_DONE, in
the turn after which no candidate is left without one. A zone's serpentine order holds exactly the zone's
defined seats, by row ascending, and within an odd row by column ascending, within an even row by column
descending (R27). -/
def Obligations.TurnsPlace : Prop :=
  (∀ (s : State) (x : Sitting) (c : Cand) (i : Nat), s.alloc.running = true →
     s.alloc.sitting = some x.number → s.sitting? x.number = some x → s.alloc.cursor < x.zones.length →
     let a := if s.alloc.pass = .access
         ∧ ∀ d ∈ s.hall.cands, d.awaits x.number .access s.alloc.lastTurn = false then
       { s.alloc with pass := .standard, dropped := s.alloc.dropped.map (fun _ => false), lastTurn := 0 }
       else s.alloc
     s.cand? i = some c → s.findCand c.number = some i → c.awaits x.number a.pass a.lastTurn = true →
     (∀ d ∈ s.hall.cands, d.awaits x.number a.pass a.lastTurn = true → d ≠ c → c.number < d.number) →
     let tried := fun (k : Nat) => (a.cursor + k) % x.zones.length
     let seats := fun (j : Nat) => s.serpentine (x.zones.getD j 0)
     let barren := fun (j : Nat) => a.dropped.getD j false = true
       ∨ ∀ m z, a.fill j ≤ m → (seats j)[m]? = some z → s.qualifies x.number a.pass z = false
     let searched := fun (v : Alloc) (k : Nat) (after : Option Nat) => ∀ j,
       (j < a.dropped.length → ∀ n, n < x.zones.length → j = tried n →
         v.dropped.getD j false = (a.dropped.getD j false || decide (n < k)))
       ∧ (j < (match a.pass with
               | .access => a.accessFill
               | .standard => a.standardFill).length → ∀ n, n < x.zones.length → j = tried n →
         v.fill j = (if n < k ∧ a.dropped.getD j false = false then max (a.fill j) (seats j).length
                     else if n = k then after.getD (a.fill j) else a.fill j))
       ∧ v.dropped.length = a.dropped.length ∧ v.accessFill.length = a.accessFill.length
       ∧ v.standardFill.length = a.standardFill.length
       ∧ (x.zones.length ≤ j → v.dropped.getD j false = a.dropped.getD j false ∧ v.fill j = a.fill j)
       ∧ (a.pass = .access → v.standardFill = a.standardFill)
       ∧ (a.pass = .standard → v.accessFill = a.accessFill)
     (∀ k m y, k < x.zones.length → (∀ n, n < k → barren (tried n)) →
       a.dropped.getD (tried k) false = false → a.fill (tried k) ≤ m → (seats (tried k))[m]? = some y →
       s.qualifies x.number a.pass y = true →
       (∀ n z, a.fill (tried k) ≤ n → n < m → (seats (tried k))[n]? = some z →
         s.qualifies x.number a.pass z = false) →
       ∃ v : Alloc, exec .allocationTurn s = .next
           (({ s.place i y.seat (fun d => d.placedFor c) with alloc := v }).endIfDone x.number)
         ∧ v = { a with accessFill := v.accessFill, standardFill := v.standardFill, dropped := v.dropped,
                        placed := a.placed + 1, cursor := (tried k + 1) % x.zones.length,
                        lastTurn := c.number }
         ∧ searched v k (some (m + 1)))
     ∧ ((∀ n, n < x.zones.length → barren (tried n)) →
       ∃ v : Alloc, exec .allocationTurn s = .next ({ s with alloc := v }.endIfDone x.number)
         ∧ v = { a with accessFill := v.accessFill, standardFill := v.standardFill, dropped := v.dropped,
                        unplaced := a.unplaced + 1, lastTurn := c.number }
         ∧ searched v x.zones.length none))
  ∧ (∀ (s : State) (n : Nat),
     let left := fun (pass : Pass) (after : Nat) => ∃ d ∈ s.hall.cands, d.awaits n pass after = true
     let awaited := left s.alloc.pass s.alloc.lastTurn ∨ (s.alloc.pass = .access ∧ left .standard 0)
     (awaited → s.endIfDone n = s)
     ∧ (¬ awaited → s.endIfDone n =
       { s.mapSitting n (fun x => { x with inFlight := false }) with
           alloc := { s.alloc with running := false, sitting := none } }.notify .g
         (.allocDone n s.alloc.placed s.alloc.unplaced false s.hall.time))
     ∧ (s.alloc.running = false → exec .allocationTurn s = .next s))
  ∧ (∀ (s : State) (zone : Nat), (∀ x ∈ s.hall.seats, 1 ≤ x.column ∧ x.column ≤ 32) →
     (s.serpentine zone).Perm (s.hall.seats.filter (fun x => x.zone == zone))
     ∧ (s.serpentine zone).Pairwise (fun x y => x.row < y.row
         ∨ (x.row = y.row ∧ (if x.row % 2 = 1 then x.column ≤ y.column else y.column ≤ x.column))))

/-- A release clears the seat's occupant, waiver, keypad buffer and display record and marks the seat owed,
and the candidate's record loses its seat; a placement writes both sides of the occupancy, empties the
keypad buffer, and marks the seat owed.  Every other seat and candidate record stays (R30, R37).  That a
placement by a run or by an ADMIT keeps the code sequence and makes the argument and the remaining time 0
is the model's choice (log 33). -/
def Obligations.ReleaseAndPlacement : Prop :=
  ∀ (s : State) (i n : Nat) (c : Cand) (x : Seat), s.cand? i = some c → s.seat? n = some x →
    let blank : Display := { group := none, mode := .blank, remaining := 0, number := 0, code := .none,
                             arg := 0, codeSeq := 0, lamp := false, lock := false }
    let placed : Display := { group := some c.sitting, mode := .placed, remaining := 0,
                              number := c.number % 10000, code := .none, arg := 0,
                              codeSeq := x.display.codeSeq, lamp := false, lock := false }
    (c.seat = some n →
      (s.releaseCand i).cand? i = some { c with seat := none }
      ∧ (s.releaseCand i).seat? n = some
          { x with occupant := none, waiver := false, keys := [], display := blank, owed := true }
      ∧ (∀ j, j ≠ i → (s.releaseCand i).cand? j = s.cand? j)
      ∧ (∀ m, m ≠ n → (s.releaseCand i).seat? m = s.seat? m))
    ∧ (let t := s.place i n (fun d => d.placedFor c)
      t.cand? i = some { c with seat := some n }
      ∧ t.seat? n = some { x with occupant := some i, keys := [], owed := true, display := placed }
      ∧ (∀ j, j ≠ i → t.cand? j = s.cand? j) ∧ (∀ m, m ≠ n → t.seat? m = s.seat? m))

/-- MOVE taken (R34 to R36, R93): the candidate's lamp put out, the old seat released, the new seat filled
with the old seat's display but the group and the lamp, or PLACED for a candidate without a seat, the
waiver mark set where the move breached adjacency, the reply carrying the former and the new seat.  That
PLACED record takes the group, the mode and the last four digits, and keeps its other fields (R36, R50).
SEAT_SERVICE taken (R38): OUT, for a seat without occupant, and IN; a change of service clears the miss
count, and a FAULTY seat's fault mark; the reply carries the service the seat now has. -/
def Obligations.MovedAndServiced : Prop :=
  (∀ (d : Desk) (tag : Byte) (number n waiver i : Nat) (c : Cand) (x : Seat) (s : State),
     s.ready (.desk d) tag → s.hall.session = .live → 1 ≤ number → number ≤ 999999999 → 1 ≤ n → n ≤ 511 →
     waiver ≤ 1 → s.findCand number = some i → s.cand? i = some c → s.seat? n = some x →
     s.deskPasses d x.zone = true → s.inFlight c.sitting = false →
     (c.state = .expected ∨ c.state = .admitted ∨ c.state = .writing ∨ c.state = .resting
       ∨ c.state = .finished) → x.occupant = none → x.service = .inService →
     (s.neighbourOf x c.sitting c.seat = true → waiver = 1) →
     let mark := fun t : State => if s.neighbourOf x c.sitting c.seat = true then
       t.mapSeat n (fun y => { y with waiver := true }) else t
     (c.seat = none → exec (.move (.desk d) tag number n waiver) s = .next
       ((mark (s.place i n (fun u => { u with group := some c.sitting, mode := .placed,
                                                 number := c.number % 10000 }))).replied (.desk d) tag
         (.move number n waiver) .ok
         [⟨2, 0⟩, ⟨2, n⟩]))
     ∧ (∀ m u, c.seat = some m → m ≠ n → s.seat? m = some u → s.deskPasses d u.zone = true →
       exec (.move (.desk d) tag number n waiver) s = .next
         ((mark (((s.lampOff (some m)).mapSeat m Seat.release).place i n
             (fun _ => { u.display with group := some c.sitting, lamp := false }))).replied (.desk d) tag
           (.move number n waiver) .ok [⟨2, m⟩, ⟨2, n⟩])))
  ∧ (∀ (d : Desk) (tag : Byte) (n direction : Nat) (v : Service) (x : Seat) (s : State),
     s.ready (.desk d) tag → (s.hall.session = .loading ∨ s.hall.session = .live) → 1 ≤ n → n ≤ 511 →
     (direction, v) ∈ [(0, Service.inService), (1, Service.outOfService)] → s.seat? n = some x →
     s.deskPasses d x.zone = true → s.alloc.running = false → (direction = 1 → x.occupant = none) →
     exec (.seatService (.desk d) tag n direction) s = .next
       ((s.mapSeat n (fun y => if y.service = v then y else
           { y with service := v, miss := 0, faultMark := if y.service = .faulty then none else y.faultMark
             })).replied (.desk d) tag (.seatService n direction) .ok [⟨1, Service.code v⟩]))

/-! ## The seat line (Chapter 3) -/

/-- The line's conditions (R40, R43 to R45).  Units that start on an IDLE line take it to BUSY_REPORT, and
the report that goes on is one of theirs with the lowest address among them.  At the end of its kind field
a report from a defined seat has an inbox entry reserved, or is held when the inbox is full; 40 ms of hold
release it unacknowledged; 12 recessive bit times after a frame make the line IDLE. -/
def Obligations.LineConditions : Prop :=
  ∀ (s : State),
    (∀ r rs, s.line.cond = .idle → ∃ w ∈ r :: rs, (∀ q ∈ r :: rs, w.address ≤ q.address)
      ∧ exec (.seatReportStart (r :: rs)) s = .next { s with line := { s.line with cond := .busyReport w .started } })
    ∧ (∀ r, s.line.cond = .busyReport r .started → 1 ≤ r.address → r.address ≤ 511 →
      (s.seat? r.address).isSome = true →
      let cond := if s.line.inbox.length < 16 then .busyReport r .reserved else .hold r
      exec .seatReportHeader s = .next { s with line := { s.line with cond := cond } })
    ∧ (∀ r, s.line.cond = .busyReport r .started →
      (r.address = 0 ∨ 511 < r.address ∨ s.seat? r.address = none) →
      exec .seatReportHeader s = .next { s with line := { s.line with cond := .busyReport r .noEntry } })
    ∧ (∀ r, s.line.cond = .hold r →
      exec .holdTimeout s = .next { s with line := { s.line with cond := .busyReport r .refused } })
    ∧ (s.line.cond = .quiet → exec .lineIdle s = .next { s with line := { s.line with cond := .idle } })

/-- The end of a report (R42, R44, R45, R57). Received whole and correct in a reserved entry it is
acknowledged and joins the inbox at the tail with the hall time; acknowledged or not, it sets its seat's
quiet time and miss count to 0, and a FAULTY seat whose fault mark is set recovers with a notice. A
report that fails a test is not acknowledged and changes nothing else; one from an address with no seat
record has no other effect either way. What a report says is read only from a report with a good check
whose length and payload are those of its kind (R41, R44, R177, R180).  The kind codes 0 to 5 and the four
bits of HELLO's byte that are read are the model's choices (logs 13 and 34). -/
def Obligations.ReportsEnd : Prop :=
  (∀ (s : State) (r : SeatFrame) (stage : ReportStage), s.line.cond = .busyReport r stage →
     (reportOf r = none → (stage = .reserved ∨ stage = .refused ∨ stage = .noEntry) →
       exec .seatReportEnd s = .next { s with line := { s.line with cond := .quiet, acked := false } })
     ∧ (∀ k, reportOf r = some k → stage = .noEntry →
       let acked := decide (1 ≤ r.address ∧ r.address ≤ 511)
       exec .seatReportEnd s = .next { s with line := { s.line with cond := .quiet, acked := acked } })
     ∧ (∀ k x, reportOf r = some k → (stage = .reserved ∨ stage = .refused) → s.seat? r.address = some x →
       let inbox := if stage = .reserved then s.line.inbox ++ [⟨r.address, k, s.hall.time⟩] else s.line.inbox
       let l := { s.line with cond := .quiet, acked := decide (stage = .reserved), inbox := inbox }
       exec .seatReportEnd s = .next
         (if x.service = .faulty ∧ x.faultMark.isSome = true then
           (({ s with line := l }.mapSeat r.address (fun y =>
             { y with quiet := 0, miss := 0, service := .inService, faultMark := none })).notifyZone x.zone
               (.seatRecovered r.address (s.numberOf x.occupant) s.hall.time))
         else { s with line := l }.mapSeat r.address (fun y => { y with quiet := 0, miss := 0 }))))
  ∧ (∀ (r : SeatFrame) (k : ReportKind), reportOf r = some k ↔
     r.check = r.goodCheck ∧ r.length = r.payload.length ∧
       ((∃ b, r.kind = 0 ∧ r.payload = [b] ∧ k = .hello (b.toNat % 16))
       ∨ (∃ b0 b1 b2 b3, r.kind = 1 ∧ r.payload = [b0, b1, b2, b3] ∧
           b0.toNat * 2 ^ 24 + b1.toNat * 2 ^ 16 + b2.toNat * 2 ^ 8 + b3.toNat ≤ 999999999 ∧
           k = .card (b0.toNat * 2 ^ 24 + b1.toNat * 2 ^ 16 + b2.toNat * 2 ^ 8 + b3.toNat))
       ∨ (∃ b, r.kind = 2 ∧ r.payload = [b] ∧ b.toNat ≤ 11 ∧ k = .key b.toNat)
       ∨ (r.kind = 3 ∧ r.payload = [] ∧ k = .call) ∨ (r.kind = 4 ∧ r.payload = [] ∧ k = .done)
       ∨ (∃ b0 b1 b2 b3, r.kind = 5 ∧ r.payload = [b0, b1, b2, b3] ∧
           b0.toNat * 2 ^ 24 + b1.toNat * 2 ^ 16 + b2.toNat * 2 ^ 8 + b3.toNat ≤ 99999999 ∧
           k = .tag (b0.toNat * 2 ^ 24 + b1.toNat * 2 ^ 16 + b2.toNat * 2 ^ 8 + b3.toNat))))

/-- The arbiter on an IDLE line (R52, R53): the DISPLAY that follows an acknowledged GROUP_SET, ahead of
every other source; else the head of the group frame queue; else the owed seat below a miss count of 3 with
the lowest number above the last seat served, or else the lowest, delivered with GROUP_SET where its group
differs from the unit group and with DISPLAY where they agree; else a POLL to the poll-due seat chosen in
the same way after the last seat polled; else nothing.  (With the seat map in its order.) That a delivery
carries the record as it stands at its first frame is the model's reading (log 42). -/
def Obligations.ArbiterStarts : Prop :=
  ∀ s : State, s.line.cond = .idle → s.hall.seats.Pairwise (fun x y => x.seat < y.seat) →
    let busy := fun (l : SeatLine) (f : LineFrame) => { l with cond := .busyController f false }
    let owed := fun y : Seat => y.owed = true ∧ y.miss < 3
    let due := fun y : Seat => y.occupant.isSome = true ∧ 8 ≤ y.quiet
    let next := fun (q : Seat → Prop) (last : Nat) (x : Seat) => x ∈ s.hall.seats ∧ q x ∧
      ((last < x.seat ∧ ∀ y ∈ s.hall.seats, q y → last < y.seat → x.seat ≤ y.seat)
        ∨ ((∀ y ∈ s.hall.seats, q y → y.seat ≤ last) ∧ ∀ y ∈ s.hall.seats, q y → x.seat ≤ y.seat))
    (∀ n d, s.line.deliver = some ⟨n, d, true⟩ → exec .lineArbiterStart s = .next
      { s with line := busy { s.line with deliver := none } ⟨n, .display d⟩ })
    ∧ ((∀ n d, s.line.deliver ≠ some ⟨n, d, true⟩) →
      (∀ f fs, s.line.groupQueue = f :: fs → exec .lineArbiterStart s = .next
        { s with line := busy { s.line with groupQueue := fs } f })
      ∧ (s.line.groupQueue = [] →
        (∀ x, next owed s.line.lastServed x → exec .lineArbiterStart s = .next
          (let t := s.mapSeat x.seat (fun y => { y with owed := false })
          if unitGroupOf x.display.group = x.unitGroup then
            let l := { s.line with lastServed := x.seat, deliver := none }
            { t with line := busy l ⟨x.seat, .display x.display⟩ }
          else
            let l := { s.line with lastServed := x.seat, deliver := some ⟨x.seat, x.display, false⟩ }
            { t with line := busy l ⟨x.seat, .groupSet x.display.group⟩ }))
        ∧ ((∀ y ∈ s.hall.seats, ¬ owed y) →
          (∀ x, next due s.line.lastPolled x → exec .lineArbiterStart s = .next
            { s with line := busy { s.line with lastPolled := x.seat } ⟨x.seat, .poll⟩ })
          ∧ ((∀ y ∈ s.hall.seats, ¬ due y) → exec .lineArbiterStart s = .next s))))

/-- The acknowledge slot of a controller frame (R52, R53, R55 to R57, R58).  A frame to a group or to every
unit, and a frame on the line when a reset was taken, only ends.  A frame to one seat sets its quiet time
to 0.  An ACK clears the miss count, a FAULTY seat with its fault mark set recovers with a notice, and after
a GROUP_SET the unit group is the group carried and the DISPLAY is to follow.  A NACK counts a miss, up to
3; the third makes a seat in service FAULTY with its fault mark and a notice; a delivery's seat is owed
again and the delivery ends. That the unit group becomes the one in the frame is the model's reading
(log 31). -/
def Obligations.FrameAcknowledged : Prop :=
  ∀ (s : State) (f : LineFrame),
    (∀ ack, s.line.cond = .busyController f true → exec (.controllerFrameAck ack) s = .next
      { s with line := { s.line with cond := .quiet } })
    ∧ (∀ ack, s.line.cond = .busyController f false → (f.address = 0 ∨ 511 < f.address) →
      exec (.controllerFrameAck ack) s = .next { s with line := { s.line with cond := .quiet } })
    ∧ (∀ x, s.line.cond = .busyController f false → 1 ≤ f.address → f.address ≤ 511 →
      s.seat? f.address = some x →
      let recovers := x.service = .faulty ∧ x.faultMark.isSome = true
      let fails := x.miss = 2 ∧ x.service = .inService
      let carries := match f.kind with
        | .display _ => true
        | .groupSet _ => true
        | _ => false
      (∃ t l, exec (.controllerFrameAck true) s = .next
          (if recovers then ({ t with line := l }.notifyZone x.zone
              (.seatRecovered f.address (s.numberOf x.occupant) s.hall.time)) else { t with line := l })
        ∧ t = s.mapSeat f.address (fun y =>
            { y with quiet := 0, miss := 0,
                     service := if recovers then .inService else y.service,
                     faultMark := if recovers then none else y.faultMark,
                     unitGroup := match f.kind with
                                  | .groupSet g => unitGroupOf g
                                  | _ => y.unitGroup })
        ∧ l = { s.line with cond := .quiet,
                            deliver := match f.kind with
                                       | .groupSet _ => s.line.deliver.map (fun d => { d with acked := true })
                                       | _ => s.line.deliver })
      ∧ (∃ t l, exec (.controllerFrameAck false) s = .next
          (if fails then ({ t with line := l }.notifyZone x.zone
              (.seatFault .silent f.address (s.numberOf x.occupant) s.hall.time)) else { t with line := l })
        ∧ t = s.mapSeat f.address (fun y =>
            { y with quiet := 0, miss := if fails then 3 else min 3 (y.miss + 1),
                     service := if fails then .faulty else y.service,
                     faultMark := if fails then some s.hall.time else y.faultMark,
                     owed := if carries then true else y.owed })
        ∧ l = { s.line with cond := .quiet,
                            deliver := match f.kind with
                                       | .groupSet _ => none
                                       | _ => s.line.deliver }))

/-- A HELLO that leaves the inbox stores the fault bits, makes the unit group UNKNOWN and the seat owed, and
sends SEAT_FAULT with cause UNIT to zone desks and chief where a bit is set (R48). On a held line the
freed entry is reserved for the held report in the same event (R45). A KEY that leaves the inbox (R49):
a digit is appended, the oldest of nine removed first; CLEAR empties the buffer; ENTER with fewer than
nine digits writes the ENTRY code, its argument 0 (the model's, log 47), and with nine passes the number
they form on as a keypad admission, judged as a card's number is. -/
def Obligations.HelloAndKeyTaken : Prop :=
  (∀ (s : State) (n bits time : Nat) (rest : List Report) (x : Seat),
     s.line.inbox = ⟨n, .hello bits, time⟩ :: rest → s.seat? n = some x →
     let cond := match s.line.cond with
       | .hold r => .busyReport r .reserved
       | c => c
     let t := { s with line := { s.line with inbox := rest, cond := cond } }.mapSeat n (fun y =>
       { y with unitFaults := bits, unitGroup := .unknown, owed := true })
     exec .hello s = .next (if bits = 0 then t else t.notifyZone x.zone
       (.seatFault (.unit bits) n (s.numberOf x.occupant) s.hall.time)))
  ∧ (∀ (s : State) (n code time : Nat) (rest : List Report) (x : Seat),
     s.line.inbox = ⟨n, .key code, time⟩ :: rest → s.seat? n = some x →
     let t := s.leaveInbox
     (code ≤ 9 → exec .key s = .next (t.mapSeat n (fun y =>
       { y with keys := if y.keys.length < 9 then y.keys ++ [code] else y.keys.drop 1 ++ [code] })))
     ∧ (code = 10 → exec .key s = .next (t.mapSeat n (fun y => { y with keys := [] })))
     ∧ (code = 11 → x.keys.length < 9 → exec .key s = .next (t.writeCode n (.cond .entry) 0))
     ∧ (∀ a b c d e f g h i, code = 11 → x.keys = [a, b, c, d, e, f, g, h, i] →
       ∀ u : State, u = { s with line := { s.line with
           inbox := ⟨n, .card (a * 10 ^ 8 + b * 10 ^ 7 + c * 10 ^ 6 + d * 10 ^ 5 + e * 10 ^ 4 + f * 10 ^ 3
             + g * 10 ^ 2 + h * 10 + i), time⟩ :: rest } } →
       exec .key s = exec .card u))

/-- A write to a display record marks its seat owed whatever it writes; with a code it sets the code and the
argument and adds 1 to the code sequence, 255 being followed by 0; no other seat changes (R50). What the
Clock Unit shows for a seated candidate, by its state and whether it is held (R69); the lamp, the group
and, without a code, the code and its sequence stay, and a code goes with what the table gives. The argument 0
of that code is the model's (log 47). For a candidate in COLLECTED, ABSENT or WITHDRAWN, which every step keeps
without a seat, a code would be written alone. -/
def Obligations.DisplayRecord : Prop :=
  (∀ (s : State) (n : Nat) (x : Seat), s.seat? n = some x →
     (∀ f : Display → Display,
       (s.writeDisplay n f).seat? n = some { x with display := f x.display, owed := true }
       ∧ ∀ m, m ≠ n → (s.writeDisplay n f).seat? m = s.seat? m)
     ∧ ∀ code arg,
       let next := if x.display.codeSeq % 256 = 255 then 0 else x.display.codeSeq % 256 + 1
       (s.writeCode n code arg).seat? n = some
         { x with display := { x.display with code := code, arg := arg, codeSeq := next }, owed := true })
  ∧ (∀ (s : State) (i m : Nat) (c : Cand) (mode : DisplayMode) (rem num : Nat) (lock : Bool),
     s.cand? i = some c → (c.state, s.held c.sitting, mode, rem, num, lock) ∈
       [(.expected, true, .placed, 0, c.number % 10000, false),
        (.expected, false, .placed, 0, c.number % 10000, false),
        (.admitted, true, .ready, c.entitled - c.consumed, 0, false),
        (.admitted, false, .ready, c.entitled - c.consumed, 0, false),
        (.writing, false, .count, c.entitled - c.consumed, 0, false),
        (.writing, true, .held, c.entitled - c.consumed, 0, false),
        (.resting, false, .rest, c.entitled - c.consumed, 0, false),
        (.resting, true, .held, c.entitled - c.consumed, 0, false),
        (.finished, true, .finished, 0, 0, true), (.finished, false, .finished, 0, 0, true)] →
     let plain := s.writeDisplay m (fun d =>
       { d with mode := mode, remaining := rem, number := num, lock := lock })
     let coded := fun (k : DispCode) => s.writeDisplay m (fun d =>
       { d with mode := mode, remaining := rem, number := num, lock := lock, code := k, arg := 0,
                codeSeq := (d.codeSeq + 1) % 256 })
     s.showAt m i none = plain ∧ (∀ k, s.showAt m i (some k) = coded k)
     ∧ (c.seat = some m → s.showCand i = plain ∧ ∀ k, s.showCand i (some k) = coded k))
  ∧ (∀ (s : State) (i m : Nat) (c : Cand), s.cand? i = some c →
     (c.state = .collected ∨ c.state = .absent ∨ c.state = .withdrawn) →
     s.showAt m i none = s ∧ ∀ k, s.showAt m i (some k) = s.writeCode m k 0)

/-! ## Sitting clocks and cues (Chapter 4) -/

/-- A hall second (R1, R55, R65, R66, R67, R70 to R73, R77): hall time advances, 86,399 being followed by 0. A
sitting in READING or WRITING that is not held counts its elapsed reading or S_el, at its reading time leaving
READING with S_el 0; a held one counts its pause accumulated and is disrupted at its pause limit. A candidate
in WRITING that is not held counts consumed, its remaining cues from its pointer on firing while their
threshold is at least the new remaining time, and at E is FINISHED with cause TIME, or COLLECTED where no
entry of it is ISSUED; one in RESTING counts rest used and at its budget returns to WRITING; an ADMITTED one
begins writing with consumed 0 when the reading time ends and else keeps its record; held candidates and
candidates in FINISHED, COLLECTED, ABSENT or WITHDRAWN keep their records, and so does a candidate in WRITING
whose rest has ended in this second (R73, log 48), a mark that ends with the second. The quiet time of a seat
that has an occupant counts up to 8. The candidates in WRITING or RESTING are taken to be in sittings in
WRITING, as every step keeps them. The second is taken by every sitting, then every candidate, then every seat
(the model's order, log 4), and each of the named events that fall in a second makes its own record's part of
it ahead of the others (the model's own, logs 2 and 3): what `State.second` does to a record is what the
statements of those events say. -/
def Obligations.HallSecondPasses : Prop :=
  (∀ s : State, s.TablesOrdered → s.PhasesAgree → ∃ t, exec .hallSecond s = .next t
    ∧ t.hall.time = (if 86399 ≤ s.hall.time then 0 else s.hall.time + 1) ∧ t.clock.ahead = []
    ∧ t.clock.restEnded = []
    ∧ t.clock.hallPause = s.clock.hallPause ∧ t.hall.session = s.hall.session
    ∧ (∀ x, x ∈ s.hall.sittings → TickKey.sitting x.number ∉ s.clock.ahead →
      ∃ y, t.sitting? x.number = some y
        ∧ (x.state = .reading → s.held x.number = false → y.elapsedReading = x.elapsedReading + 1
          ∧ (x.elapsedReading + 1 = x.reading → y.state ≠ .reading ∧ y.sel = 0)
          ∧ (x.elapsedReading + 1 ≠ x.reading → y = { x with elapsedReading := x.elapsedReading + 1 }))
        ∧ (x.state = .writing → s.held x.number = false →
            y.sel = (if x.sel < 57600 then x.sel + 1 else x.sel))
        ∧ ((x.state = .reading ∨ x.state = .writing) → s.held x.number = true →
            y.pauseAcc = x.pauseAcc + 1 ∧ y.sel = x.sel ∧ y.elapsedReading = x.elapsedReading
            ∧ (y.disrupted = true ↔ x.disrupted = true
              ∨ (0 < x.pauseLimit ∧ x.pauseAcc + 1 = x.pauseLimit))))
    ∧ (∀ i c, s.cand? i = some c → TickKey.cand i ∉ s.clock.ahead →
      ∃ d, t.cand? i = some d
        ∧ (c.state = .writing → i ∈ s.clock.restEnded → d = c)
        ∧ (∀ x, c.state = .writing → s.held c.sitting = false → i ∉ s.clock.restEnded →
            c.consumed + 1 ≠ c.entitled → s.sitting? c.sitting = some x →
            let due := (x.remainingCues.drop c.cuePtr).takeWhile
              (fun q => decide (c.entitled - (c.consumed + 1) ≤ q.value))
            d = { c with consumed := c.consumed + 1, cuePtr := c.cuePtr + due.length,
                         exitClosed := c.exitClosed || due.any (fun q => decide (q.kind = .exitClose)) })
        ∧ (c.state = .writing → s.held c.sitting = false → i ∉ s.clock.restEnded →
            c.consumed + 1 = c.entitled →
            let waits := s.custody.any (fun e => decide (e.cand = some i) && decide (e.state = .issued))
            d.consumed = c.entitled ∧ d.cause = some .time ∧ d.state = (if waits then .finished else .collected)
            ∧ d.seat = (if waits then c.seat else none))
        ∧ (c.state = .resting → s.held c.sitting = false → c.restUsed + 1 ≠ c.restBudget →
            d = { c with restUsed := c.restUsed + 1 })
        ∧ (c.state = .resting → s.held c.sitting = false → c.restUsed + 1 = c.restBudget →
            d = { c with restUsed := c.restBudget, state := .writing })
        ∧ (∀ x, c.state = .admitted → s.sitting? c.sitting = some x → x.state = .reading →
            s.held c.sitting = false → x.elapsedReading + 1 = x.reading →
            TickKey.sitting c.sitting ∉ s.clock.ahead → d = { c with state := .writing, consumed := 0 })
        ∧ (c.state = .admitted → (∀ x, s.sitting? c.sitting = some x → x.state ≠ .reading
            ∨ s.held c.sitting = true ∨ x.elapsedReading + 1 ≠ x.reading
            ∨ TickKey.sitting c.sitting ∈ s.clock.ahead) → d = c)
        ∧ (c.state = .expected → d = c ∨ d = { c with state := .absent, seat := none })
        ∧ ((c.state = .writing ∨ c.state = .resting) → s.held c.sitting = true → d = c)
        ∧ ((c.state = .finished ∨ c.state = .collected ∨ c.state = .absent ∨ c.state = .withdrawn) → d = c))
    ∧ (∀ n x, s.seat? n = some x →
      ∃ y, t.seat? n = some y ∧ (y.occupant = x.occupant ∨ y.occupant = none)
        ∧ ((∀ c ∈ s.hall.cands, c.seat = some n → c.state ≠ .expected
            ∧ ¬ (c.state = .writing ∧ c.consumed + 1 = c.entitled)) → y.occupant = x.occupant)
        ∧ y.quiet = (if y.occupant.isSome = true ∧ x.quiet < 8 ∧ TickKey.seat n ∉ s.clock.ahead
            then x.quiet + 1 else x.quiet)
        ∧ y.miss = x.miss ∧ y.service = x.service ∧ y.faultMark = x.faultMark))
  ∧ (∀ s : State, exec .hallSecond s = .next
    (let s0 := { s with hall := { s.hall with time := if 86399 ≤ s.hall.time then 0 else s.hall.time + 1 } }
     let s1 := s.hall.sittings.foldl (fun u x => u.second (.sitting x.number)) s0
     let s2 := (List.range s.hall.cands.length).foldl (fun u i => u.second (.cand i)) s1
     let s3 := s.hall.seats.foldl (fun u x => u.second (.seat x.seat)) s2
     { s3 with clock := { s3.clock with ahead := [], restEnded := [] } }))
  ∧ (∀ (s : State) (k : Nat),
    (∀ e ∈ [Instr.readingEnd k, .elapsedCueFire k, .defaultAdmissionClose k, .pauseLimit k],
      exec e s = .next s ∨ exec e s = .next (s.second (.sitting k)))
    ∧ (∀ e ∈ [Instr.expiry k, .remainingCueFire k, .restBudgetEnd k],
      exec e s = .next s ∨ exec e s = .next (s.second (.cand k)))
    ∧ (exec (.seatPollDue k) s = .next s ∨ exec (.seatPollDue k) s = .next (s.second (.seat k))))

/-- CUE_DEFINE taken (R61, R62): the cue stands in the list of its base, elapsed cues by ascending offset
and remaining cues by descending threshold, after every cue of an equal value; the reply carries how many
cues the sitting now holds, in the 1 byte of log 53. That a cue whose kind has no code holds 0 there is the
model's (log 12). -/
def Obligations.CueDefined : Prop :=
  ∀ (tag : Byte) (n kind base value code : Nat) (k : CueKind) (x : Sitting) (s : State), s.ready .g tag →
    (s.hall.session = .loading ∨ s.hall.session = .live) → 1 ≤ n → n ≤ 12 →
    (kind, k) ∈ [(0, CueKind.lastEntry), (1, CueKind.exitOpen), (2, CueKind.exitClose), (3, CueKind.warn),
      (4, CueKind.note)] →
    (k = .note → base ≤ 1) → ((k = .warn ∨ k = .note) → 1 ≤ code ∧ code ≤ 255) →
    s.sitting? n = some x → (x.state = .defined ∨ x.state = .opened) → value < x.base → value ≤ 28799 →
    ((k = .lastEntry ∨ k = .exitOpen ∨ k = .exitClose) →
      ∀ q ∈ x.elapsedCues ++ x.remainingCues, q.kind ≠ k) →
    x.elapsedCues.length + x.remainingCues.length < 8 →
    x.elapsedCues.Pairwise (fun a b => a.value ≤ b.value) →
    x.remainingCues.Pairwise (fun a b => b.value ≤ a.value) →
    let q : Cue := ⟨k, value, if k = .warn ∨ k = .note then code else 0⟩
    let elapsed := k = .lastEntry ∨ k = .exitOpen ∨ (k = .note ∧ base = 0)
    let y := if elapsed then
        { x with elapsedCues := x.elapsedCues.filter (fun r => r.value ≤ value)
                   ++ q :: x.elapsedCues.filter (fun r => value < r.value) }
      else
        { x with remainingCues := x.remainingCues.filter (fun r => value ≤ r.value)
                   ++ q :: x.remainingCues.filter (fun r => r.value < value) }
    (elapsed ∨ 0 < value) → s.TablesOrdered →
    exec (.cueDefine .g tag n kind base value code) s = .next
      ((s.mapSitting n (fun _ => y)).replied .g tag (.cueDefine n kind base value code) .ok
        [⟨1, x.elapsedCues.length + x.remainingCues.length + 1⟩])

/-- OPEN_DOORS by the chief takes a DEFINED sitting to OPEN with admission OPEN (R63). START by the chief,
with no run in flight for the sitting, takes an OPEN sitting to READING when it has a reading time, and else
makes the start of writing (R64). A desk that is not chief is refused ZONE. The second that ends a reading
time makes the start of writing (R65). The start of writing, with no elapsed cue at offset 0 and somebody left
to write or to arrive: the sitting in WRITING with S_el 0, its exit-open mark set where it has no EXIT_OPEN
cue; every ADMITTED candidate in WRITING with consumed 0, every other candidate as it was (R66). In every start
of writing each ADMITTED candidate, by ascending index, enters WRITING with consumed 0, the sitting's counts
moving with it, and its seat's display shows COUNT, or HELD where the sitting is held, with E remaining, number
0 and the lock clear (R66, R69); every elapsed cue at offset 0 then fires in list order, the pointer passing
each, with the effects and the CUE_FIRED notices of R68, and the sitting tests follow once, after the last
(R66). The model's own are: that READING_END takes its sitting's part of the second ahead of HALL_SECOND, its
candidates with it (log 3), that NOTE's write sets with the code what R69 has each write set (log 46), and its
argument 0 (log 47). -/
def Obligations.PhasesBegin : Prop :=
  (∀ (d : Desk) (tag : Byte) (n : Nat) (x : Sitting) (s : State), s.ready (.desk d) tag →
     s.hall.session = .live → 1 ≤ n → n ≤ 12 → s.sitting? n = some x →
     (d ≠ s.hall.chief →
       exec (.openDoors (.desk d) tag n) s = .next (s.replied (.desk d) tag (.openDoors n) .zone [])
       ∧ exec (.start (.desk d) tag n) s = .next (s.replied (.desk d) tag (.start n) .zone []))
     ∧ (d = s.hall.chief → x.state = .defined → exec (.openDoors (.desk d) tag n) s = .next
       ((s.mapSitting n (fun y => { y with state := .opened, admission := true })).replied (.desk d) tag
         (.openDoors n) .ok []))
     ∧ (d = s.hall.chief → x.inFlight = false → x.state = .opened → 0 < x.reading →
       exec (.start (.desk d) tag n) s = .next
         ((s.mapSitting n (fun y => { y with state := .reading, elapsedReading := 0 })).replied (.desk d) tag
           (.start n) .ok []))
     ∧ (d = s.hall.chief → x.inFlight = false → x.state = .opened → x.reading = 0 →
       exec (.start (.desk d) tag n) s = .next ((s.startOfWriting n).replied (.desk d) tag (.start n) .ok [])))
  ∧ (∀ (s : State) (n : Nat) (x : Sitting), s.sitting? n = some x →
     (x.state = .reading → s.held n = false → x.elapsedReading + 1 = x.reading →
       TickKey.sitting n ∉ s.clock.ahead → exec (.readingEnd n) s = .next
         (({ s with clock := { s.clock with ahead := s.clock.ahead ++ [TickKey.sitting n] } }.mapSitting n
           (fun y => { y with elapsedReading := x.reading })).startOfWriting n))
     ∧ ((∀ q ∈ x.elapsedCues, 0 < q.value) → x.elapsedPtr = 0 → s.CountsAgree →
       (∃ c ∈ s.hall.cands, c.sitting = n ∧ (c.state = .expected ∨ c.state = .admitted ∨ c.state = .writing
         ∨ c.state = .resting)) →
       (∃ y, (s.startOfWriting n).sitting? n = some y ∧ y.state = .writing ∧ y.sel = 0
         ∧ y.admission = x.admission
         ∧ (y.exitOpen = true ↔ x.exitOpen = true ∨ ∀ q ∈ x.elapsedCues ++ x.remainingCues, q.kind ≠ .exitOpen))
       ∧ ∀ i c, s.cand? i = some c → (s.startOfWriting n).cand? i = some
         (if c.sitting = n ∧ c.state = .admitted then { c with state := .writing, consumed := 0 } else c))
     ∧ (let told := fun (u : State) (q : Cue) (absent : Nat) =>
         ((((u.notify (.desk .d0) (.cueFired n q.kind q.value q.code absent s.hall.time)).notify (.desk .d1)
           (.cueFired n q.kind q.value q.code absent s.hall.time)).notify (.desk .d2)
           (.cueFired n q.kind q.value q.code absent s.hall.time)).notify (.desk .d3)
           (.cueFired n q.kind q.value q.code absent s.hall.time))
       let fire := fun (u : State) (q : Cue) =>
         let v := u.mapSitting n (fun y => { y with elapsedPtr := y.elapsedPtr + 1 })
         match q.kind with
         | .exitOpen => told (v.mapSitting n (fun y => { y with exitOpen := true })) q 0
         | .lastEntry => told ((u.indexesWhere (fun c => c.sitting == n && decide (c.state = .expected))).foldl
             (fun (w : State) i => (w.setCandState i .absent).releaseCand i)
             (v.mapSitting n (fun y => { y with admission := false }))) q (u.inState n .expected)
         | .note => told (((u.hall.seats.filter (fun y => u.occupiedBy y n)).foldl
             (fun (w : State) y => match y.occupant with
               | some i => w.showAt y.seat i (some (.announce q.code))
               | none => w) v).queueFrame ⟨512 + n, .announce q.code .show⟩) q 0
         | .exitClose | .warn => told v q 0
       let due := (x.elapsedCues.drop x.elapsedPtr).takeWhile (fun q => q.value == 0)
       let s1 := s.mapSitting n (fun y => { y with state := .writing, sel := 0 })
       let begins := fun (u : State) (p : Cand × Nat) =>
         let v := (u.mapCand p.2 (fun c => { c with state := .writing, consumed := 0 })).mapSitting n
           (fun y => { y with counts := (y.counts.dec .admitted).inc .writing })
         let w := if TickKey.sitting n ∈ s.clock.ahead then
             { v with clock := { v.clock with ahead := v.clock.ahead ++ [TickKey.cand p.2] } }
           else v
         match p.1.seat with
         | none => w
         | some m => w.writeDisplay m (fun d =>
             { d with mode := if s.held n then .held else .count, remaining := p.1.entitled, number := 0,
                      lock := false })
       let s2 := (s.hall.cands.zipIdx.filter (fun p => p.1.sitting == n && decide (p.1.state = .admitted))).foldl
         begins s1
       let noExit := fun (y : Sitting) => (y.elapsedCues ++ y.remainingCues).all (fun q => decide (q.kind ≠ .exitOpen))
       let s3 := s2.mapSitting n (fun y => { y with exitOpen := y.exitOpen || noExit y })
       s.startOfWriting n = (due.foldl fire s3).sittingTests n
       ∧ ∃ y, (s.startOfWriting n).sitting? n = some y ∧ y.elapsedPtr = x.elapsedPtr + due.length))

/-- The second at which elapsed cues fire (R67, R68): S_el counts, and every cue at or after the pointer whose
offset is not above it fires, in list order, the pointer passing each: LAST_ENTRY closes admission, EXIT_OPEN
sets the exit-open mark, NOTE writes its code at every seat of the sitting and queues one SHOW frame to the
sitting's group; every desk gets CUE_FIRED, with the number made ABSENT for LAST_ENTRY. A sitting that a
LAST_ENTRY takes out of WRITING fires no further cue of that second (the model's, log 19). Admission then
closes by default where R67 says so. Each of the two events takes the sitting's part of the second ahead of
HALL_SECOND, its stamps with the hall time before the second (the model's, logs 2 and 3); that NOTE's write
sets with the code what R69 has each write set, and its argument 0, are the model's too (logs 46 and 47). The
close of admission (R67, R68): every EXPECTED candidate of the sitting is ABSENT with no seat, every other
candidate is as it was, and the admission state is CLOSED. -/
def Obligations.ElapsedCuesFire : Prop :=
  (∀ (s : State) (n : Nat) (x : Sitting), s.sitting? n = some x → x.state = .writing →
     s.held n = false → x.sel < 57600 → TickKey.sitting n ∉ s.clock.ahead →
     let told := fun (u : State) (q : Cue) (absent : Nat) =>
       ((((u.notify (.desk .d0) (.cueFired n q.kind q.value q.code absent s.hall.time)).notify (.desk .d1)
         (.cueFired n q.kind q.value q.code absent s.hall.time)).notify (.desk .d2)
         (.cueFired n q.kind q.value q.code absent s.hall.time)).notify (.desk .d3)
         (.cueFired n q.kind q.value q.code absent s.hall.time))
     let fire := fun (u : State) (q : Cue) =>
       let v := u.mapSitting n (fun y => { y with elapsedPtr := y.elapsedPtr + 1 })
       match q.kind with
       | .exitOpen => told (v.mapSitting n (fun y => { y with exitOpen := true })) q 0
       | .lastEntry => told (v.closeAdmission n) q (u.inState n .expected)
       | .note => told (((u.hall.seats.filter (fun y => u.occupiedBy y n)).foldl
           (fun (w : State) y => match y.occupant with
             | some i => w.showAt y.seat i (some (.announce q.code))
             | none => w) v).queueFrame ⟨512 + n, .announce q.code .show⟩) q 0
       | .exitClose | .warn => told v q 0
     let due := (x.elapsedCues.drop x.elapsedPtr).takeWhile (fun q => decide (q.value ≤ x.sel + 1))
     let u := due.foldl (fun u q => if (u.sitting? n).any (fun y => decide (y.state = .writing)) then fire u q
         else u)
       ({ s with clock := { s.clock with ahead := s.clock.ahead ++ [TickKey.sitting n] } }.mapSitting n
         (fun y => { y with sel := y.sel + 1 }))
     let closes := (∀ q ∈ x.elapsedCues ++ x.remainingCues, q.kind ≠ .lastEntry) ∧ x.admission = true
       ∧ x.sel + 1 = x.base
     (due ≠ [] → exec (.elapsedCueFire n) s = .next (if closes then u.closeAdmission n else u))
     ∧ (closes → exec (.defaultAdmissionClose n) s = .next (u.closeAdmission n)))
  ∧ (∀ (s : State) (n : Nat) (x : Sitting), s.sitting? n = some x →
     (∀ i c, s.cand? i = some c → (s.closeAdmission n).cand? i = some
       (if c.sitting = n ∧ c.state = .expected then { c with state := .absent, seat := none } else c))
     ∧ (∃ y, (s.closeAdmission n).sitting? n = some y ∧ y.admission = false))

/-- What a finish does (R72, R94): the candidate FINISHED with the cause and its remaining-cue pointer past
every cue, the counts moved, the display FINISHED with the lock set, COLLECT to zone desks and chief, then
the collection test and the sitting tests.  While an entry of the candidate is ISSUED, and another
candidate keeps the sitting in its phase, nothing more; the finish of the last candidate left takes a
WRITING sitting to COLLECTING with admission CLOSED (R78). With no entry of it ISSUED the candidate is
COLLECTED in the same event, NIL_SCRIPT set where every entry is VOID, its seat released (R109). -/
def Obligations.FinishEffects : Prop :=
  ∀ (s : State) (i m : Nat) (c : Cand) (x : Sitting) (y : Seat) (cause : FinishCause),
    s.cand? i = some c → (c.state = .writing ∨ c.state = .resting) → c.seat = some m →
    s.seat? m = some y → s.sitting? c.sitting = some x →
    let moved := { c with state := .finished, cause := some cause, cuePtr := max c.cuePtr x.remainingCues.length }
    let v := (((s.mapCand i (fun _ => moved)).mapSitting c.sitting
        (fun z => { z with counts := (z.counts.dec c.state).inc .finished })).writeDisplay m (fun d =>
          { d with mode := .finished, remaining := 0, number := 0, lock := true })).notifyZone y.zone
        (.collect m c.number (some cause) c.issued c.returned s.hall.time)
    let waits := ∃ e ∈ s.custody, e.cand = some i ∧ e.state = .issued
    let others := ∃ j d, j ≠ i ∧ s.cand? j = some d ∧ d.sitting = c.sitting
      ∧ (d.state = .expected ∨ d.state = .admitted ∨ d.state = .writing ∨ d.state = .resting)
    s.finishCand i cause = (v.collectionTest i).sittingTests c.sitting
    ∧ (x.state = .writing → s.CountsAgree → s.TablesOrdered → waits → others → s.finishCand i cause = v)
    ∧ (x.state = .writing → s.CountsAgree → s.TablesOrdered → waits → ¬ others → s.finishCand i cause =
      v.mapSitting c.sitting (fun z => { z with state := .collecting, admission := false }))
    ∧ (¬ waits → s.TablesOrdered →
      let nil := s.custody.all (fun e => !decide (e.cand = some i) || decide (e.state = .void))
      let t := s.finishCand i cause
      t.cand? i = some { moved with state := .collected, nilScript := c.nilScript || nil, seat := none }
      ∧ t.seat? m = some y.release
      ∧ ∃ z, t.sitting? c.sitting = some z ∧ z.counts = (x.counts.dec c.state).inc .collected)

/-- The second that brings consumed to E expires the candidate with cause TIME (R70, R72). The second at which
remaining cues fire counts consumed, fires in list order each cue from the pointer on while its threshold is
at least the new remaining time, and writes the display at the points of R70 (R70, R71). The second that uses
up a rest budget returns the candidate to WRITING with the code REST_OVER (R73). A candidate in WRITING whose
rest has ended in the second neither expires nor reaches a cue in it (R73, log 48). What one remaining cue
does for a candidate in a seat (R71): the pointer passes it; WARN and NOTE write their code with the
candidate's current mode and remaining time; EXIT_CLOSE sets EXIT_CLOSED and writes the condition code
EXIT_CLOSED, with what R69 has each write set. The three events take the record's part of the second ahead of
HALL_SECOND, their stamps with the hall time before it (the model's, log 3); that R69's table goes with the
code of EXIT_CLOSE (log 46) and the codes' argument 0 (log 47) are the model's reading too. -/
def Obligations.CandidateSeconds : Prop :=
  (∀ (s : State) (i : Nat) (c : Cand), s.cand? i = some c → s.held c.sitting = false →
     TickKey.cand i ∉ s.clock.ahead →
     let t := { s with clock := { s.clock with ahead := s.clock.ahead ++ [TickKey.cand i] } }
     (c.state = .writing → i ∈ s.clock.restEnded →
       exec (.expiry i) s = .next s ∧ exec (.remainingCueFire i) s = .next s)
     ∧ (c.state = .writing → i ∉ s.clock.restEnded → c.consumed + 1 = c.entitled → exec (.expiry i) s = .next
       ((t.mapCand i (fun d => { d with consumed := c.entitled })).finishCand i .time))
     ∧ (∀ x qs, c.state = .writing → i ∉ s.clock.restEnded → c.consumed + 1 < c.entitled →
       s.sitting? c.sitting = some x →
       qs = (x.remainingCues.drop c.cuePtr).takeWhile
         (fun q => decide (c.entitled - (c.consumed + 1) ≤ q.value)) → qs ≠ [] →
       exec (.remainingCueFire i) s = .next
         (let u := qs.foldl (State.fireRemaining i) (t.mapCand i (fun d => { d with consumed := c.consumed + 1 }))
         if (c.entitled - (c.consumed + 1)) % 60 = 0 ∨ c.entitled - (c.consumed + 1) < 60 then u.showCand i
         else u))
     ∧ (c.state = .resting → c.restUsed + 1 = c.restBudget → exec (.restBudgetEnd i) s = .next
       (let w := ((t.mapCand i (fun d => { d with restUsed := c.restBudget })).setCandState i .writing).showCand i
          (some (.cond .restOver))
        { w with clock := { w.clock with restEnded := w.clock.restEnded ++ [i] } }.sittingTests c.sitting)))
  ∧ (∀ (s : State) (i m : Nat) (c : Cand) (q : Cue), s.cand? i = some c → c.seat = some m → c.state = .writing →
     ((q.kind = .warn ∨ q.kind = .note) → State.fireRemaining i s q =
       (s.mapCand i (fun d => { d with cuePtr := d.cuePtr + 1 })).writeDisplay m (fun d =>
         { d with mode := if s.held c.sitting then .held else .count, remaining := c.entitled - c.consumed,
                  number := 0, lock := false, code := .announce q.code, arg := 0,
                  codeSeq := (d.codeSeq + 1) % 256 }))
     ∧ (q.kind = .exitClose → State.fireRemaining i s q =
       (s.mapCand i (fun d => { d with cuePtr := d.cuePtr + 1, exitClosed := true })).writeDisplay m (fun d =>
         { d with mode := if s.held c.sitting then .held else .count, remaining := c.entitled - c.consumed,
                  number := 0, lock := false, code := .cond .exitClosed, arg := 0,
                  codeSeq := (d.codeSeq + 1) % 256 })))

/-- The second that brings a held sitting's pause accumulated to its pause limit sets DISRUPTED, offers the
INCIDENT record and sends PAUSE_LIMIT to the port that holds the CHIEF mark (R77).  The second that brings
an occupied seat's quiet time to 8 makes it poll-due (R55). The two events take the record's part of the
second ahead of HALL_SECOND, their stamps with the hall time before it (the model's, log 3); the cause byte
at the front of the INCIDENT body is the model's (log 12). -/
def Obligations.LimitsReached : Prop :=
  (∀ (s : State) (n : Nat) (x : Sitting), s.sitting? n = some x →
    (x.state = .reading ∨ x.state = .writing) → s.held n = true → 0 < x.pauseLimit → x.disrupted = false →
    x.pauseAcc + 1 = x.pauseLimit → TickKey.sitting n ∉ s.clock.ahead →
    exec (.pauseLimit n) s = .next
      ((({ s with clock := { s.clock with ahead := s.clock.ahead ++ [TickKey.sitting n] } }.mapSitting n
        (fun y => { y with pauseAcc := x.pauseLimit, disrupted := true })).offer .incident
          [⟨1, 0⟩, ⟨2, s.hall.sessionNo.getD 0⟩, ⟨1, n⟩, ⟨4, x.pauseLimit⟩, ⟨4, s.hall.time⟩]).notify
        (.desk s.hall.chief) (.pauseLimit n x.pauseLimit x.pauseLimit s.hall.time)))
  ∧ (∀ (s : State) (n : Nat) (x : Seat), s.seat? n = some x → x.occupant.isSome = true → x.quiet = 7 →
    TickKey.seat n ∉ s.clock.ahead →
    ∃ t, exec (.seatPollDue n) s = .next t ∧ t.seat? n = some { x with quiet := 8 }
      ∧ t.hall.cands = s.hall.cands ∧ t.line = s.line)

/-- PAUSE by the chief sets the flag of the scope, shows HELD at every seat whose candidate is in WRITING or
RESTING within it, and queues one HOLD frame; RESUME clears the flag, shows COUNT or REST where no flag
holds any more, and queues the RUN frames (R75, R76). The code the frames carry is free (log 32).
ANNOUNCE taken queues one SHOW frame to the seat, to 512 plus the sitting, or to address 0, and replies
OK; with the queue full it is refused FULL (R54). That the value of an ANNOUNCE to the hall, which R177 has
carry 0, is not read is the model's (log 21). -/
def Obligations.GroupFramesQueued : Prop :=
  (∀ (tag : Byte) (scope : Nat) (s : State), s.ready (.desk s.hall.chief) tag → s.hall.session = .live →
     let set := fun v : Bool => if scope = 0 then { s with clock := { s.clock with hallPause := v } }
       else s.mapSitting scope (fun x => { x with paused := v })
     let running := fun (q : Cand → Bool) => s.indexesWhere (fun c => (scope == 0 || scope == c.sitting)
       && (decide (c.state = .writing) || decide (c.state = .resting)) && q c)
     let frame := fun (address : Nat) (a : AnnounceAction) => s.pauseFrame address a
     (((scope = 0 ∧ s.clock.hallPause = false) ∨ (1 ≤ scope ∧ scope ≤ 12 ∧ ∃ x, s.sitting? scope = some x
         ∧ x.paused = false ∧ (x.state = .reading ∨ x.state = .writing))) →
       exec (.pause (.desk s.hall.chief) tag scope) s = .next
         ((((running (fun _ => true)).foldl (fun t i => t.showCand i) (set true)).queueFrame
           (frame (if scope = 0 then 0 else 512 + scope) .hold)).replied (.desk s.hall.chief) tag (.pause scope)
             .ok []))
     ∧ (((scope = 0 ∧ s.clock.hallPause = true) ∨ (1 ≤ scope ∧ scope ≤ 12 ∧ ∃ x, s.sitting? scope = some x
         ∧ x.paused = true)) →
       exec (.resume (.desk s.hall.chief) tag scope) s = .next
         ((((if scope = 0 then (s.hall.sittings.filter (fun x => (decide (x.state = .reading)
                 || decide (x.state = .writing)) && !x.paused)).map (fun x => x.number)
             else if s.clock.hallPause then [] else [scope]).foldl
               (fun t n => t.queueFrame (frame (512 + n) .run))
             ((running (fun c => !(set false).held c.sitting)).foldl (fun t i => t.showCand i) (set false)))
           ).replied (.desk s.hall.chief) tag (.resume scope) .ok [])))
  ∧ (∀ (d : Desk) (tag : Byte) (form value code address : Nat) (s : State), s.ready (.desk d) tag →
     s.hall.session = .live → 1 ≤ code → code ≤ 255 →
     ((form = 0 ∧ address = value ∧ 1 ≤ value ∧ value ≤ 511 ∧
         ∃ x, s.seat? value = some x ∧ s.deskPasses d x.zone = true)
       ∨ (form = 1 ∧ address = 512 + value ∧ 1 ≤ value ∧ value ≤ 12 ∧ (s.sitting? value).isSome = true ∧
         d = s.hall.chief)
       ∨ (form = 2 ∧ address = 0 ∧ d = s.hall.chief)) →
     let f : LineFrame := ⟨address, .announce code .show⟩
     (s.line.groupQueue.length < 8 → exec (.announce (.desk d) tag form value code) s = .next
       ({ s with line := { s.line with groupQueue := s.line.groupQueue ++ [f] } }.replied (.desk d) tag
         (.announce form value code) .ok []))
     ∧ (8 ≤ s.line.groupQueue.length → exec (.announce (.desk d) tag form value code) s = .next
       (s.replied (.desk d) tag (.announce form value code) .full [])))

/-! ## Candidate conduct (Chapter 5) -/

/-- What a taken admission does at the candidate's own seat (R74, R83).  In OPEN or READING the candidate is
ADMITTED with consumed 0 and its display READY; in WRITING it is WRITING with consumed S_el and LATE, the
remaining cues at or above its starting remaining time are skipped, a skipped EXIT_CLOSE setting EXIT_CLOSED,
and its display is COUNT or HELD.  No code is written. -/
def Obligations.AdmissionEffects : Prop :=
  ∀ (s : State) (i m : Nat) (c : Cand) (x : Sitting), s.cand? i = some c → c.state = .expected →
    c.seat = some m → s.sitting? c.sitting = some x → TickKey.sitting c.sitting ∉ s.clock.ahead →
    ((x.state = .opened ∨ x.state = .reading) → s.admitCand i c x =
      ((s.mapCand i (fun d => { d with state := .admitted, consumed := 0 })).mapSitting c.sitting (fun y =>
        { y with counts := { y.counts with expected := y.counts.expected - 1,
                                           admitted := y.counts.admitted + 1 } })).writeDisplay m (fun d =>
          { d with mode := .ready, remaining := c.entitled, number := 0, lock := false }))
    ∧ (x.state = .writing → x.sel < c.entitled →
      let skipped := (x.remainingCues.drop c.cuePtr).takeWhile (fun q => c.entitled - x.sel ≤ q.value)
      s.admitCand i c x =
      ((s.mapCand i (fun d =>
        { d with state := .writing, consumed := x.sel, late := true, cuePtr := d.cuePtr + skipped.length,
                 exitClosed := d.exitClosed || skipped.any (fun q => decide (q.kind = .exitClose))
          })).mapSitting c.sitting (fun y =>
        { y with counts := { y.counts with expected := y.counts.expected - 1,
                                           writing := y.counts.writing + 1 } })).writeDisplay m (fun d =>
          { d with mode := if s.held c.sitting then .held else .count, remaining := c.entitled - x.sel,
                   number := 0, lock := false }))

/-- A CARD that leaves the inbox (R80 to R85): the eight tests of an admission in order, each failure with
its code at the seat, WRONG_SEAT notices for tests 6 and 7, the repeat at the candidate's own seat, and the
taken admission. -/
def Obligations.CardJudged : Prop :=
  ∀ (s : State) (n number time : Nat) (rest : List Report) (z : Seat),
    s.line.inbox = ⟨n, .card number, time⟩ :: rest → s.seat? n = some z →
    let t := s.leaveInbox
    let code := fun (c : CondCode) (arg : Nat) => t.writeCode n (.cond c) arg
    (s.hall.session ≠ .live → exec .card s = .next (code .wait 0))
    ∧ (s.hall.session = .live → (∀ c ∈ s.hall.cands, c.number ≠ number) →
      exec .card s = .next (code .unknown 0))
    ∧ (∀ i c x, s.hall.session = .live → s.findCand number = some i → s.cand? i = some c →
      s.sitting? c.sitting = some x →
      ((x.state = .defined ∨ x.state = .collecting ∨ x.state = .closed ∨ x.state = .final
          ∨ x.inFlight = true) → exec .card s = .next (code .wait 0))
      ∧ ((x.state = .opened ∨ x.state = .reading ∨ x.state = .writing) → x.inFlight = false →
        ((c.state = .finished ∨ c.state = .collected ∨ c.state = .absent ∨ c.state = .withdrawn) →
          exec .card s = .next (code .already 0))
        ∧ ((c.state = .admitted ∨ c.state = .writing ∨ c.state = .resting) → c.seat ≠ some n →
          exec .card s = .next (code .already 0))
        ∧ ((c.state = .admitted ∨ c.state = .writing ∨ c.state = .resting) → c.seat = some n →
          exec .card s = .next ((t.showCand i).mapSeat n (fun y => { y with keys := [] })))
        ∧ (c.state = .expected → c.seat = none →
          exec .card s = .next ((code .unplaced 0).notifyZone z.zone (.wrongSeat n number none s.hall.time)))
        ∧ (∀ m, c.state = .expected → c.seat = some m → m ≠ n →
          exec .card s = .next
            ((code .wrongSeat m).notifyZone z.zone (.wrongSeat n number (some m) s.hall.time)))
        ∧ (c.state = .expected → c.seat = some n → x.state = .writing → c.entitled ≤ x.sel →
          exec .card s = .next (code .tooLate 0))
        ∧ (c.state = .expected → c.seat = some n → (x.state = .writing → x.sel < c.entitled) →
          exec .card s = .next ((t.admitCand i c x).mapSeat n (fun y => { y with keys := [] })))))

/-- CALL lights the lamp of an occupied seat and sends the CALL notice to zone desks and chief (R92); DONE
finishes a candidate that is WRITING, not held, with its exit open and not closed to it, and else writes
EXIT_CLOSED or WAIT (R91); at a seat without occupant both are dropped (R80). -/
def Obligations.CallAndDone : Prop :=
  ∀ (s : State) (n time : Nat) (rest : List Report) (x : Seat), s.seat? n = some x →
    let t := s.leaveInbox
    (s.line.inbox = ⟨n, .call, time⟩ :: rest →
      (x.occupant = none → exec .callReport s = .next t)
      ∧ (∀ i c, x.occupant = some i → s.cand? i = some c → exec .callReport s = .next
        ((t.writeDisplay n (fun d => { d with lamp := true })).notifyZone x.zone
          (.call n c.number c.state s.hall.time))))
    ∧ (s.line.inbox = ⟨n, .done, time⟩ :: rest →
      (x.occupant = none → exec .doneReport s = .next t)
      ∧ (∀ i c y, x.occupant = some i → s.cand? i = some c → s.sitting? c.sitting = some y →
        exec .doneReport s = .next
          (if c.state = .writing ∧ s.held c.sitting = false ∧ y.exitOpen = true ∧ c.exitClosed = false then
            t.finishCand i .early
          else if c.state = .writing ∧ c.exitClosed = true then t.writeCode n (.cond .exitClosed) 0
          else t.writeCode n (.cond .wait) 0)))

/-- ADMIT taken.  Of an EXPECTED candidate with a seat, in OPEN, READING or WRITING: the admission at its own
seat, the keypad buffer emptied, the lamp put out (R87, R93).  With override, of an ABSENT candidate in
WRITING: the placement on the named seat, the waiver mark where adjacency is breached, and the late
admission with LATE_OVERRIDE (R88).  The reply carries the seat, E, the remaining time and the two flags,
whose packing in one byte is the model's (log 12), as are the lamp written whether or not it was lit (log 20)
and the placement's argument and sequence (log 33).  The late admission of R88 and R74 is: WRITING with consumed
S_el, LATE and LATE_OVERRIDE; the cues from the pointer on whose threshold is at least E - S_el skipped, a
skipped EXIT_CLOSE setting EXIT_CLOSED; the counts moved from ABSENT to WRITING; the display COUNT, or HELD,
with E - S_el remaining, number 0 and the lock clear (R69), over the placement's.  That the candidate takes no
part of a second its sitting has already taken is the model's (log 3). -/
def Obligations.AdmittedByDesk : Prop :=
  ∀ (d : Desk) (tag : Byte) (number override seat waiver i : Nat) (c : Cand) (x : Sitting) (s : State),
    s.ready (.desk d) tag → s.hall.session = .live → 1 ≤ number → number ≤ 999999999 → override ≤ 1 →
    seat ≤ 511 → waiver ≤ 1 → s.findCand number = some i → s.cand? i = some c →
    s.sitting? c.sitting = some x → x.inFlight = false →
    (∀ m, c.state = .expected → c.seat = some m → s.deskPasses d (s.candZone c) = true →
      (x.state = .opened ∨ x.state = .reading ∨ (x.state = .writing ∧ x.sel < c.entitled)) →
      exec (.admitDesk (.desk d) tag number override seat waiver) s = .next
        (((((s.lampOff (some m)).admitCand i c x).mapSeat m (fun y => { y with keys := [] }))).replied
          (.desk d) tag (.admitDesk number override seat waiver) .ok
          [⟨2, m⟩, ⟨2, c.entitled⟩, ⟨2, c.entitled - (if x.state = .writing then x.sel else 0)⟩,
            ⟨1, flagsValue [c.late || decide (x.state = .writing), c.lateOverride]⟩]))
    ∧ (∀ y, c.state = .absent → override = 1 → s.seat? seat = some y → 1 ≤ seat →
      s.deskPasses d y.zone = true → x.state = .writing → y.occupant = none → y.service = .inService →
      (s.neighbourOf y c.sitting none = true → waiver = 1) → x.sel < c.entitled →
      let p := s.place i seat (fun u => u.placedFor c)
      let q := if s.neighbourOf y c.sitting none = true then p.mapSeat seat (fun u => { u with waiver := true })
        else p
      let skips := (x.remainingCues.drop c.cuePtr).takeWhile (fun r => decide (c.entitled - x.sel ≤ r.value))
      let v := (q.mapCand i (fun u =>
          { u with state := .writing, consumed := x.sel, late := true, lateOverride := true,
                   cuePtr := c.cuePtr + skips.length,
                   exitClosed := c.exitClosed || skips.any (fun r => decide (r.kind = .exitClose)) })).mapSitting
        c.sitting (fun z => { z with counts := (z.counts.dec .absent).inc .writing })
      let w := if TickKey.sitting c.sitting ∈ s.clock.ahead then
          { v with clock := { v.clock with ahead := v.clock.ahead ++ [TickKey.cand i] } }
        else v
      exec (.admitDesk (.desk d) tag number override seat waiver) s = .next
        ((w.writeDisplay seat (fun u =>
          { u with mode := if s.held c.sitting then .held else .count, remaining := c.entitled - x.sel,
                   number := 0, lock := false })).replied (.desk d) tag
            (.admitDesk number override seat waiver) .ok
          [⟨2, seat⟩, ⟨2, c.entitled⟩, ⟨2, c.entitled - x.sel⟩, ⟨1, 3⟩]))

/-- REST_START of a WRITING candidate with rest left and REST_END of a RESTING one: the state and the counts
move, the display is written as R69 gives without a code, the lamp of the seat is put out, and the reply
carries the rest left, for REST_END the rest used before it (R89, R90, R93). FINISH of a candidate in
WRITING or RESTING finishes it with cause DESK, whatever the exit window; the reply carries consumed and
the two counts (R95). WITHDRAW: WITHDRAWN, the counts moved, the seat released, the INCIDENT record
offered, the sitting tests, the reply with the state before and the two counts (R96).  The cause byte at the
front of the INCIDENT body (log 12) and the lamp written whether or not it was lit (log 20) are the model's.
After REST_END the candidate consumes no writing time in the second in which its rest ended (R73), which is the
one that passes next (log 48): it is marked as one whose rest has just ended. -/
def Obligations.RestsAndEndings : Prop :=
  (∀ (d : Desk) (tag : Byte) (number i m : Nat) (c : Cand) (x : Sitting) (s : State),
     s.ready (.desk d) tag → s.hall.session = .live → 1 ≤ number → number ≤ 999999999 →
     s.findCand number = some i → s.cand? i = some c → c.seat = some m → s.sitting? c.sitting = some x →
     x.state = .writing → s.deskPasses d (s.candZone c) = true →
     let moved := fun (new : CandState) (mode : DisplayMode) =>
       ((((s.lampOff (some m)).mapCand i (fun y => { y with state := new })).mapSitting c.sitting (fun y =>
         { y with counts := (y.counts.dec c.state).inc new })).writeDisplay m (fun y =>
           { y with mode := if s.held c.sitting then .held else mode, remaining := c.entitled - c.consumed,
                    number := 0, lock := false }))
     (c.state = .writing → c.restUsed < c.restBudget → exec (.restStart (.desk d) tag number) s = .next
       ((moved .resting .rest).replied (.desk d) tag (.restStart number) .ok [⟨2, c.restBudget - c.restUsed⟩]))
     ∧ (c.state = .resting → exec (.restEnd (.desk d) tag number) s = .next
       ({ moved .writing .count with clock := { s.clock with restEnded := s.clock.restEnded ++ [i] } }.replied
         (.desk d) tag (.restEnd number) .ok
         [⟨2, c.restUsed⟩, ⟨2, c.restBudget - c.restUsed⟩])))
  ∧ (∀ (d : Desk) (tag : Byte) (number i : Nat) (c : Cand) (x : Sitting) (s : State),
     s.ready (.desk d) tag → s.hall.session = .live → 1 ≤ number → number ≤ 999999999 →
     s.findCand number = some i → s.cand? i = some c → s.sitting? c.sitting = some x →
     s.deskPasses d (s.candZone c) = true →
     ((c.state = .writing ∨ c.state = .resting) → exec (.finish (.desk d) tag number) s = .next
       (((s.lampOff c.seat).finishCand i .desk).replied (.desk d) tag (.finish number) .ok
         [⟨2, c.consumed⟩, ⟨2, c.issued⟩, ⟨2, c.returned⟩]))
     ∧ (x.inFlight = false → (c.state = .expected ∨ c.state = .admitted ∨ c.state = .writing
         ∨ c.state = .resting ∨ c.state = .finished) →
       exec (.withdraw (.desk d) tag number) s = .next
       (((((((s.lampOff c.seat).mapCand i (fun y => { y with state := .withdrawn })).mapSitting c.sitting
         (fun y => { y with counts := (y.counts.dec c.state).inc .withdrawn })).releaseCand i).offer .incident
           [⟨1, 1⟩, ⟨2, s.hall.sessionNo.getD 0⟩, ⟨1, c.sitting⟩, ⟨4, c.number⟩, ⟨1, CandState.code c.state⟩,
             ⟨2, c.consumed⟩, ⟨2, c.issued⟩, ⟨2, c.returned⟩, ⟨4, s.hall.time⟩]).sittingTests
               c.sitting).replied (.desk d) tag (.withdraw number) .ok
         [⟨1, CandState.code c.state⟩, ⟨2, c.issued⟩, ⟨2, c.returned⟩])))

/-! ## Script custody (Chapter 6) -/

/-- An issue of a tag (R102): its tests in order, and the entry it creates, at the end of the list, with the
candidate's issued count up by 1; a repeat is taken without change. ISSUE_TAG taken, a repeat included
(R104), and a TAG report from an occupied seat (R103): the issue, and the code ISSUED with the tag's
last four digits at the seat; a refused TAG report shows the result's code with argument 0, and one from
a seat without occupant shows STATE. RANGE for a tag above 99,999,999 (log 22) and the lamp put out whether
or not it was lit (log 20) are the model's. -/
def Obligations.IssuesJudged : Prop :=
  (∀ (s : State) (i t : Nat) (c : Cand), s.cand? i = some c →
     let r := s.issue i c t
     let sheet := t / 10000000 = 8 ∨ t / 10000000 = 9
     let live := ∃ e ∈ s.custody, e.cand = some i ∧ e.kind = .sheet ∧ e.state ≠ .void
     ((t / 10000000 = 0 ∨ 99999999 < t) → r = ⟨s, .range, false⟩)
     ∧ (1 ≤ t / 10000000 → t ≤ 99999999 →
       (¬ (c.state = .admitted ∨ c.state = .writing ∨ c.state = .resting) → r = ⟨s, .state, false⟩)
       ∧ ((c.state = .admitted ∨ c.state = .writing ∨ c.state = .resting) →
         (∀ e, s.entry? t = some e → e.cand = some i → e.state = .issued → r = ⟨s, .ok, true⟩)
         ∧ (∀ e, s.entry? t = some e → e.state = .void → r = ⟨s, .state, false⟩)
         ∧ (∀ e, s.entry? t = some e → e.state ≠ .void → ¬ (e.cand = some i ∧ e.state = .issued) →
           r = ⟨s, .duplicate, false⟩)
         ∧ (s.entry? t = none → sheet → live → r = ⟨s, .duplicate, false⟩)
         ∧ (s.entry? t = none → ¬ (sheet ∧ live) → 2048 ≤ s.custody.length → r = ⟨s, .full, false⟩)
         ∧ (s.entry? t = none → ¬ (sheet ∧ live) → s.custody.length < 2048 →
           let e : Custody := { script := t, cand := some i, kind := if sheet then .sheet else .booklet,
                                state := .issued, issueTime := some s.hall.time, returnTime := none,
                                remarks := 0 }
           r = ⟨{ s with custody := s.custody ++ [e] }.mapCand i (fun y => { y with issued := y.issued + 1 }),
             .ok, false⟩))))
  ∧ ((∀ (d : Desk) (tag : Byte) (number t i m : Nat) (c : Cand) (s : State),
     s.ready (.desk d) tag → s.hall.session = .live → 1 ≤ number → number ≤ 999999999 →
     t ≤ 99999999 → s.findCand number = some i → s.cand? i = some c → c.seat = some m →
     s.deskPasses d (s.candZone c) = true →
     let r := (s.lampOff (some m)).issue i c t
     (r.result = .ok → exec (.issueTag (.desk d) tag number t) s = .next
       ((r.state.writeCode m (.cond .issued) (t % 10000)).replied (.desk d) tag (.issueTag number t) .ok
         [⟨1, if t / 10000000 ≤ 7 then 0 else 1⟩, ⟨2, if r.again then c.issued else c.issued + 1⟩,
           markField r.again]))
     ∧ (r.result ≠ .ok → exec (.issueTag (.desk d) tag number t) s = .next
       ((s.lampOff (some m)).replied (.desk d) tag (.issueTag number t) r.result [])))
   ∧ (∀ (s : State) (n t time : Nat) (rest : List Report) (x : Seat),
     s.line.inbox = ⟨n, .tag t, time⟩ :: rest → s.seat? n = some x →
     (x.occupant = none → exec .tagReport s = .next (s.leaveInbox.writeCode n (.cond .state) 0))
     ∧ (∀ i c, x.occupant = some i → s.cand? i = some c →
       let r := s.leaveInbox.issue i c t
       exec .tagReport s = .next (match r.result with
         | .ok => r.state.writeCode n (.cond .issued) (t % 10000)
         | .range => s.leaveInbox.writeCode n (.cond .range) 0
         | .duplicate => s.leaveInbox.writeCode n (.cond .duplicate) 0
         | .full => s.leaveInbox.writeCode n (.cond .full) 0
         | _ => s.leaveInbox.writeCode n (.cond .state) 0))))

/-- RETURN_TAGS with a count of 1 to 16 that matches the tags carried is taken, and judges its tags one after
the other, each against what the tags before it left; any other count is refused RANGE. The reply carries
for each tag, in the order carried, the tag, its result, the candidate number of its entry or none, the
entry's state after the judgment or none, and the collected mark (R105; none as 0 and 4 and the codes in a
byte each are the model's, log 12).  One tag: an ISSUED entry is RETURNED with its hall time, its candidate's
returned count up by 1 and the collection test made; an unknown tag becomes a stray, with STRAY_TAG to
every desk (R106); every other tag changes nothing.  A tag above 99,999,999 is RANGE (the model's, log 22). -/
def Obligations.TagsReturned : Prop :=
  (∀ (d : Desk) (tag : Byte) (n : Nat) (ts : List Nat) (s : State), s.ready (.desk d) tag →
    s.hall.session = .live →
    let left := fun (k : Nat) => (ts.take k).foldl (fun u t => (u.returnTag (.desk d) t).1) s
    let told := fun (k t : Nat) =>
      let result := ((left k).returnTag (.desk d) t).2
      let entry := (left (k + 1)).entry? t
      let named := (entry.bind (fun e => e.cand)).bind s.cand?
      ([⟨4, t⟩, ⟨1, ResultCode.code result.1⟩, ⟨4, (named.map (fun c => c.number)).getD 0⟩,
        ⟨1, (entry.map (fun e => TagState.code e.state)).getD 4⟩, markField result.2] : List Sys2Proof.Field)
    (1 ≤ n → n ≤ 16 → ts.length = n → exec (.returnTags (.desk d) tag n ts) s = .next
      ((left n).replied (.desk d) tag (.returnTags n ts) .ok (ts.zipIdx.map (fun p => told p.2 p.1)).flatten))
    ∧ ((n = 0 ∨ 16 < n ∨ ts.length ≠ n) → exec (.returnTags (.desk d) tag n ts) s = .next
      (s.replied (.desk d) tag (.returnTags n ts) .range [])))
  ∧ (∀ (d : Desk) (t : Nat) (s : State),
    ((t / 10000000 = 0 ∨ 99999999 < t) → s.returnTag (.desk d) t = (s, .range, false))
    ∧ (1 ≤ t / 10000000 → t ≤ 99999999 →
      (∀ e i c, s.entry? t = some e → e.state = .issued → e.cand = some i → s.cand? i = some c →
        let u := (s.mapEntry t (fun e => { e with state := .returned, returnTime := some s.hall.time })).mapCand
          i (fun c => { c with returned := c.returned + 1 })
        s.returnTag (.desk d) t = (u.collectionTest i, .ok, decide (c.state = .finished) &&
          u.custody.all (fun f => !decide (f.cand = some i) || decide (f.state ≠ .issued))))
      ∧ (∀ e, s.entry? t = some e → (e.state = .returned ∨ e.state = .marked) →
        s.returnTag (.desk d) t = (s, .duplicate, false))
      ∧ (∀ e, s.entry? t = some e → e.state = .void → s.returnTag (.desk d) t = (s, .state, false))
      ∧ (s.entry? t = none → 2048 ≤ s.custody.length → s.returnTag (.desk d) t = (s, .full, false))
      ∧ (s.entry? t = none → s.custody.length < 2048 →
        let kind : TagKind := if t / 10000000 ≤ 7 then .booklet else .sheet
        let e : Custody := { script := t, cand := none, kind := kind, state := .returned, issueTime := none,
                             returnTime := some s.hall.time, remarks := 0 }
        s.returnTag (.desk d) t =
          (({ s with custody := s.custody ++ [e] }.notifyDesks (.strayTag t kind (.desk d) s.hall.time)),
            .ok, false))))

/-- VOID_TAG of an ISSUED entry: VOID, and the collection test for its candidate (R107).  CLAIM_TAG of a
stray for a candidate that may claim it: the entry names the candidate, its two counts go up by 1; a
COLLECTED candidate's NIL_SCRIPT is cleared and an amended CUSTODY_CLOSE record offered, and for another
the collection test is made (R108).  CLAIM_TAG puts the lamp of the candidate's seat out (R93); that it
writes the lamp off, and the seat is owed, whether or not the lamp was lit is the model's (log 20). -/
def Obligations.TagsVoidedAndClaimed : Prop :=
  ∀ (d : Desk) (tag : Byte) (t i : Nat) (e : Custody) (c : Cand) (s : State),
    s.ready (.desk d) tag → s.hall.session = .live → 1 ≤ t / 10000000 → t ≤ 99999999 →
    s.entry? t = some e → s.cand? i = some c → s.deskPasses d (s.candZone c) = true →
    (e.cand = some i → e.state = .issued → exec (.voidTag (.desk d) tag t) s = .next
      (((s.mapEntry t (fun y => { y with state := .void })).collectionTest i).replied (.desk d) tag
        (.voidTag t) .ok [⟨4, c.number⟩, ⟨1, TagKind.code e.kind⟩]))
    ∧ (∀ number, 1 ≤ number → number ≤ 999999999 → s.findCand number = some i → e.cand = none →
      c.state ≠ .expected → c.state ≠ .absent →
      (e.kind = .sheet → ∀ f ∈ s.custody, ¬ (f.cand = some i ∧ f.kind = .sheet ∧ f.state ≠ .void)) →
      let u := ((s.lampOff c.seat).mapEntry t (fun y => { y with cand := some i })).mapCand i (fun y =>
        { y with issued := y.issued + 1, returned := y.returned + 1 })
      (c.state = .collected → exec (.claimTag (.desk d) tag t number) s = .next
        (((u.mapCand i (fun y => { y with nilScript := false })).offerCustodyClose i true).replied (.desk d)
          tag (.claimTag t number) .ok [⟨1, 5⟩, ⟨2, c.issued + 1⟩, ⟨2, c.returned + 1⟩]))
      ∧ (c.state ≠ .collected → (c.state = .finished →
          ∃ f ∈ s.custody, f.cand = some i ∧ f.state = .issued ∧ f.script ≠ t) →
        exec (.claimTag (.desk d) tag t number) s = .next
        (u.replied (.desk d) tag (.claimTag t number) .ok
          [⟨1, CandState.code c.state⟩, ⟨2, c.issued + 1⟩, ⟨2, c.returned + 1⟩])))

/-- The collection test collects a FINISHED candidate that no ISSUED entry names: COLLECTED, the counts
moved, NIL_SCRIPT set where every entry of it is VOID, its seat released, a CUSTODY_CLOSE record
offered, and the sitting tests; any other candidate it leaves as it is (R109). The sitting tests (R78,
R79): a WRITING sitting with nobody in EXPECTED, ADMITTED, WRITING or RESTING is COLLECTING with
admission CLOSED, and a COLLECTING sitting with nobody in FINISHED is CLOSED, with its SITTING_CLOSE
record offered, in the same event; else the test changes nothing. A CUSTODY_CLOSE record carries the
session, the candidate's record, the flags LATE, LATE_OVERRIDE, NIL_SCRIPT, EXIT_CLOSED and AMENDED in bits 0
to 4, the entry count, the hall time and up to 12 tags with their entries' states, in list order (R110,
R183). -/
def Obligations.CollectionTested : Prop :=
  (∀ (s : State) (i : Nat) (c : Cand), s.cand? i = some c →
     ((c.state ≠ .finished ∨ ∃ e ∈ s.custody, e.cand = some i ∧ e.state = .issued) →
       s.collectionTest i = s)
     ∧ (c.state = .finished → (∀ e ∈ s.custody, e.cand = some i → e.state ≠ .issued) →
       let nil := s.custody.all (fun e => !decide (e.cand = some i) || decide (e.state = .void))
       s.collectionTest i =
         (((((s.mapCand i (fun y => { y with state := .collected, nilScript := y.nilScript || nil })).mapSitting
           c.sitting (fun y => { y with counts := { y.counts with finished := y.counts.finished - 1,
                                                                  collected := y.counts.collected + 1 } })
           ).releaseCand i).offerCustodyClose i false).sittingTests c.sitting)))
  ∧ (∀ (s : State) (n : Nat) (x : Sitting), s.sitting? n = some x →
     let empty := x.counts.expected = 0 ∧ x.counts.admitted = 0 ∧ x.counts.writing = 0 ∧ x.counts.resting = 0
     let record := fun u : State => u.offer .sittingClose
       ([⟨2, s.hall.sessionNo.getD 0⟩, ⟨1, n⟩, ⟨2, x.counts.expected⟩, ⟨2, x.counts.admitted⟩,
         ⟨2, x.counts.writing⟩, ⟨2, x.counts.resting⟩, ⟨2, x.counts.finished⟩, ⟨2, x.counts.collected⟩,
         ⟨2, x.counts.absent⟩, ⟨2, x.counts.withdrawn⟩, ⟨2, x.sel⟩, ⟨4, x.pauseAcc⟩, markField x.disrupted,
         ⟨4, s.hall.time⟩])
     (x.state = .writing → ¬ empty → s.sittingTests n = s)
     ∧ (x.state = .writing → empty → x.counts.finished ≠ 0 → s.sittingTests n =
       s.mapSitting n (fun y => { y with state := .collecting, admission := false }))
     ∧ (x.state = .writing → empty → x.counts.finished = 0 → s.sittingTests n =
       record (s.mapSitting n (fun y => { y with state := .closed, admission := false })))
     ∧ (x.state = .collecting → x.counts.finished ≠ 0 → s.sittingTests n = s)
     ∧ (x.state = .collecting → x.counts.finished = 0 → s.sittingTests n =
       record (s.mapSitting n (fun y => { y with state := .closed })))
     ∧ (x.state ≠ .writing → x.state ≠ .collecting → s.sittingTests n = s))
  ∧ (∀ (s : State) (i : Nat) (c : Cand) (amended : Bool), s.cand? i = some c →
     let named := s.custody.filter (fun e => decide (e.cand = some i))
     let bit := fun (b : Bool) (n : Nat) => if b then 2 ^ n else 0
     s.offerCustodyClose i amended = s.offer .custodyClose
       ([⟨2, s.hall.sessionNo.getD 0⟩, ⟨1, c.sitting⟩, ⟨4, c.number⟩, ⟨2, i⟩, ⟨1, CandState.code c.state⟩,
         ⟨1, match c.cause with
             | none => 0
             | some .time => 1
             | some .early => 2
             | some .desk => 3⟩,
         ⟨2, c.entitled⟩, ⟨2, c.consumed⟩, ⟨2, c.restUsed⟩,
         ⟨1, bit c.late 0 + bit c.lateOverride 1 + bit c.nilScript 2 + bit c.exitClosed 3 + bit amended 4⟩,
         ⟨2, c.issued⟩, ⟨2, c.returned⟩, ⟨2, named.length⟩, ⟨4, s.hall.time⟩]
         ++ ((named.take 12).map (fun e => ([⟨4, e.script⟩, ⟨1, match e.state with
             | .issued => 0
             | .returned => 1
             | .marked => 2
             | .void => 3⟩] : List Sys2Proof.Field))).flatten))

/-! ## Keys, batches and pages (Chapter 7) -/

/-- LAYOUT_DEFINE of a sitting whose key is EMPTY replaces its layout (R114).  KEY_ITEM of a key not SEALED
puts the entry in its item's place, every other item keeping its own, the key LOADING (R115, R116).
KEY_SEAL of a LOADING key names the lowest item without an entry, or sets R to 256 times the weights and
the key SEALED (R117).  KEY_UNSEAL is refused STATE once a candidate of the sitting has a result or a slot
holds its sheet, and else makes the key LOADING (R118).  KEY_ITEM's
count of items in 1 byte is the model's (log 53). -/
def Obligations.KeysSealed : Prop :=
  ∀ (tag : Byte) (n : Nat) (x : Sitting) (s : State), s.ready .g tag →
    (s.hall.session = .loading ∨ s.hall.session = .live) → 1 ≤ n → n ≤ 12 → s.sitting? n = some x →
    x.state ≠ .final →
    (∀ counts : List Nat, x.keyState = .empty → 1 ≤ counts.length → counts.length ≤ 4 →
      (∀ k ∈ counts, 1 ≤ k ∧ k ≤ 50) → counts.sum ≤ 200 →
      exec (.layoutDefine .g tag n counts.length counts) s = .next
        ((s.mapSitting n (fun y => { y with layout := some counts })).replied .g tag
          (.layoutDefine n counts.length counts) .ok [⟨1, counts.sum⟩]))
    ∧ (∀ (f : KeyItemFields) (counts : List Nat) (e : ItemEntry), f.sitting = n → x.layout = some counts →
      x.keyState ≠ .sealed → 1 ≤ f.item → f.item ≤ counts.sum → f.item ≤ 200 → f.weight ≤ 255 →
      ((2 ≤ f.optionCount ∧ f.optionCount ≤ 8 ∧
          ((f.kind = 0 ∧ (∃ j, j < f.optionCount ∧ f.keyed = 2 ^ j) ∧
              e = ⟨.single, f.weight, f.optionCount, BitVec.ofNat 8 f.keyed, 0, 0, 0⟩)
            ∨ (f.kind = 1 ∧ 0 < f.keyed ∧ f.keyed < 2 ^ f.optionCount ∧
              e = ⟨.multi, f.weight, f.optionCount, BitVec.ofNat 8 f.keyed, 0, 0, 0⟩)))
        ∨ (f.kind = 2 ∧ f.numericKey < 10 ^ f.columns ∧ f.tolerance ≤ 999999 ∧ 1 ≤ f.columns ∧ f.columns ≤ 6 ∧
              e = ⟨.numeric, f.weight, 0, 0#8, f.numericKey, f.tolerance, f.columns⟩)) →
      ∃ put : Sitting → Sitting,
        exec (.keyItem .g tag f) s = .next ((s.mapSitting n put).replied .g tag (.keyItem f) .ok
          [⟨1, ((put x).items.filter (fun g => g.1 ≤ counts.sum)).length⟩])
        ∧ ∀ y : Sitting, y.keyState ≠ .sealed → put y = { y with items := (put y).items, keyState := .loading }
          ∧ (put y).item? f.item = some e ∧ ∀ j, j ≠ f.item → (put y).item? j = y.item? j)
    ∧ (∀ counts : List Nat, x.keyState = .loading → x.layout = some counts →
      (∀ i, 1 ≤ i → i ≤ counts.sum → x.item? i = none → (∀ j, 1 ≤ j → j < i → x.item? j ≠ none) →
        exec (.keySeal .g tag n) s = .next (s.replied .g tag (.keySeal n) .notFound [⟨1, i⟩]))
      ∧ ((∀ i, 1 ≤ i → i ≤ counts.sum → x.item? i ≠ none) →
        let r := 256 * ((List.range counts.sum).map (fun j =>
          ((x.item? (j + 1)).map (fun e => e.weight)).getD 0)).sum
        (r = 0 → exec (.keySeal .g tag n) s = .next (s.replied .g tag (.keySeal n) .range []))
        ∧ (0 < r → exec (.keySeal .g tag n) s = .next
          ((s.mapSitting n (fun y => { y with rawMax := r, keyState := .sealed })).replied .g tag (.keySeal n)
            .ok [⟨1, counts.sum⟩, ⟨4, r⟩]))))
    ∧ (x.keyState = .sealed →
      let marked := ∃ c ∈ s.hall.cands, c.sitting = n ∧ 0 < c.version
      let slot := ∃ y ∈ s.marking.slots, y.state ≠ .free ∧ y.sitting = n
      ((marked ∨ slot) → exec (.keyUnseal .g tag n) s = .next (s.replied .g tag (.keyUnseal n) .state []))
      ∧ (¬ marked → ¬ slot → exec (.keyUnseal .g tag n) s = .next
        ((s.mapSitting n (fun y => { y with keyState := .loading })).replied .g tag (.keyUnseal n) .ok [])))

/-- BATCH_OPEN and BATCH_CLOSE outside LIVE: STATE. BATCH_OPEN in LIVE: RANGE for a number of 0 or above
65,535, STATE with a batch open, and else a batch with that number, the hall time, its counts 0 and CLAMP_SEEN
clear (R120). BATCH_CLOSE in LIVE: STATE with no batch open, BUSY with a slot in SCORING or WAITING, and else
every GATHERING slot freed, the BATCH record offered and the batch NONE, the reply carrying the counts (R121).
-/
def Obligations.BatchesOpened : Prop :=
  ∀ (tag : Byte) (s : State), s.ready .k tag →
    (s.hall.session ≠ .live →
      (∀ n, exec (.batchOpen .k tag n) s = .next (s.replied .k tag (.batchOpen n) .state []))
      ∧ exec (.batchClose .k tag) s = .next (s.replied .k tag .batchClose .state []))
    ∧ (s.hall.session = .live →
    (∀ n, ((n = 0 ∨ 65535 < n) →
        exec (.batchOpen .k tag n) s = .next (s.replied .k tag (.batchOpen n) .range []))
      ∧ (1 ≤ n → n ≤ 65535 → s.marking.batch.opened = true →
        exec (.batchOpen .k tag n) s = .next (s.replied .k tag (.batchOpen n) .state []))
      ∧ (1 ≤ n → n ≤ 65535 → s.marking.batch.opened = false →
        exec (.batchOpen .k tag n) s = .next
          ({ s with marking := { s.marking with
              batch := { opened := true, number := n, openedAt := s.hall.time, scored := 0, clamped := 0,
                         discarded := 0, mismatches := 0, clampSeen := false } } }.replied .k tag
            (.batchOpen n) .ok [])))
    ∧ (s.marking.batch.opened = false →
      exec (.batchClose .k tag) s = .next (s.replied .k tag .batchClose .state []))
    ∧ (s.marking.batch.opened = true → (∃ y ∈ s.marking.slots, y.state = .scoring ∨ y.state = .waiting) →
      exec (.batchClose .k tag) s = .next (s.replied .k tag .batchClose .busy []))
    ∧ (s.marking.batch.opened = true → (∀ y ∈ s.marking.slots, y.state = .free ∨ y.state = .gathering) →
      let b := s.marking.batch
      let freed : List Slot := s.marking.slots.map (fun y => if y.state = .gathering then
        ⟨.free, 0, 0, 0, 0, [], false, false, none⟩ else y)
      let counts : List Field := [⟨2, b.scored⟩, ⟨2, b.clamped⟩, ⟨2, b.discarded⟩,
        ⟨1, s.marking.slots.countP (fun y => decide (y.state = .gathering))⟩, ⟨2, b.mismatches⟩,
        markField b.clampSeen]
      let t := State.offer { s with marking := { s.marking with slots := freed } } .batch
        (⟨2, s.hall.sessionNo.getD 0⟩ :: ⟨2, b.number⟩ :: ⟨4, b.openedAt⟩ :: counts ++ [⟨4, s.hall.time⟩])
      exec (.batchClose .k tag) s = .next
        ({ t with marking := { t.marking with batch := { t.marking.batch with opened := false } } }.replied .k
            tag .batchClose .ok counts)))

/-- A PAGE in range with a batch open goes through its checks in order (R123, R124): custody, candidate,
identity, key and layout, each failure with its result and nothing changed but, for MISMATCH, the batch's
mismatch count and the slot's MISMATCH_SEEN.  A page that passes is placed in the slot that holds its tag, or
in the lowest FREE slot, and a whole sheet enters SCORING at the tail of the scoring order (R125, R126); a
page number already held is DUPLICATE, and with no slot FREE the result is FULL.  A MISMATCH page sets the
mark of a slot whatever the slot's state (R123; log 49).  The count of pages held takes the 1 byte of
log 53. -/
def Obligations.PagesTaken : Prop :=
  ∀ (tag : Byte) (f : PageFields) (s : State), s.ready .k tag → s.hall.session = .live →
    s.marking.batch.opened = true → 1 ≤ f.script / 10000000 → f.script ≤ 99999999 → f.flags ≤ 1 →
    (f.flags = 1 → 1 ≤ f.numberRead ∧ f.numberRead ≤ 999999999) → 1 ≤ f.pageNo → f.pageNo ≤ 4 →
    1 ≤ f.pageCount → f.pageCount ≤ 4 → 1 ≤ f.responseCount → f.responseCount ≤ 50 →
    f.responses.length = f.responseCount → (∀ r ∈ f.responses, r.wf = true) →
    let answers := fun (r : ResultCode) =>
      exec (.page .k tag f) s = .next (s.replied .k tag (.page f) r [])
    let held := fun (u : State) (k : Nat) (y : Slot) =>
      let z := { y with pages := y.pages ++ [(f.pageNo, f.responses)], readSeen := y.readSeen || f.flags == 1 }
      if y.pages.length + 1 = y.pageCount then
        (let v := u.mapSlot k (fun _ => { z with state := .scoring })
        { v with marking := { v.marking with order := v.marking.order ++ [k] } }).replied .k tag (.page f) .ok
          [⟨1, k⟩, ⟨1, y.pages.length + 1⟩, ⟨1, 2⟩]
      else (u.mapSlot k (fun _ => z)).replied .k tag (.page f) .ok
          [⟨1, k⟩, ⟨1, y.pages.length + 1⟩, ⟨1, SlotState.code y.state⟩]
    (s.entry? f.script = none → answers .notFound)
    ∧ ∀ e, s.entry? f.script = some e →
      (e.state = .marked → answers .alreadyMarked)
      ∧ (e.state ≠ .marked → (e.kind = .booklet ∨ e.state ≠ .returned) → answers .state)
      ∧ (e.kind = .sheet → e.state = .returned → e.cand = none → answers .state)
      ∧ ∀ i c, e.kind = .sheet → e.state = .returned → e.cand = some i → s.cand? i = some c →
        (c.state ≠ .collected → answers .state)
        ∧ ∀ x, c.state = .collected → s.sitting? c.sitting = some x →
          (f.flags = 1 → f.numberRead ≠ c.number →
            exec (.page .k tag f) s = .next
              ((let t := { s with marking := { s.marking with batch := { s.marking.batch with
                  mismatches := min 65535 (s.marking.batch.mismatches + 1) } } }
                match s.slotOf f.script with
                | some k => t.mapSlot k (fun y => { y with mismatchSeen := true })
                | none => t).replied .k tag (.page f) .mismatch []))
          ∧ ((f.flags = 1 → f.numberRead = c.number) →
            ((x.keyState ≠ .sealed ∨ x.state = .final) → answers .state)
            ∧ ∀ counts, x.keyState = .sealed → x.state ≠ .final → x.layout = some counts →
              let fits := f.pageCount = counts.length ∧ f.pageNo ≤ counts.length
                ∧ counts[f.pageNo - 1]? = some f.responseCount
                ∧ ∀ j r, f.responses[j]? = some r →
                  ∃ g, x.item? (1 + (counts.take (f.pageNo - 1)).sum + j) = some g
                    ∧ (((g.kind = .single ∨ g.kind = .multi) ∧ ∃ m, r = .option m)
                      ∨ (g.kind = .numeric ∧ ∃ cols, r = .column g.columns cols))
              (¬ fits → answers .layout)
              ∧ (fits →
                (∀ k y, s.slotOf f.script = some k → s.marking.slots[k]? = some y →
                  ((∃ g ∈ y.pages, g.1 = f.pageNo) → answers .duplicate)
                  ∧ ((∀ g ∈ y.pages, g.1 ≠ f.pageNo) → exec (.page .k tag f) s = .next (held s k y)))
                ∧ (s.slotOf f.script = none → (∀ y ∈ s.marking.slots, y.state ≠ .free) → answers .full)
                ∧ (∀ k y, s.slotOf f.script = none → s.marking.slots[k]? = some y → y.state = .free →
                  (∀ j z, j < k → s.marking.slots[j]? = some z → z.state ≠ .free) →
                  exec (.page .k tag f) s = .next
                    (held s k ⟨.gathering, f.script, i, x.number, counts.length, [], false, false, none⟩))))

/-- SHEET_DISCARD frees the GATHERING slot that holds the tag and counts it; in SCORING or WAITING it is BUSY,
and with no slot NOT_FOUND (R127).  SHEET_QUERY changes nothing and tells the slot that holds the tag, or else
the custody entry, with the latest result of a SHEET whose candidate has one, or else NOT_FOUND (R128).  The
layout of the fields that chapter 11 leaves open is the model's (log 12), and so is the summary told for a
SHEET whose candidate's latest result is of another sheet (log 39), and the 1 byte of the pages SHEET_DISCARD
reports (log 53). -/
def Obligations.SheetsAsked : Prop :=
  ∀ (tag : Byte) (t : Nat) (s : State), s.ready .k tag → s.hall.session = .live → 1 ≤ t / 10000000 →
    t ≤ 99999999 →
    (∀ k y, s.slotOf t = some k → s.marking.slots[k]? = some y →
      (y.state = .gathering → exec (.sheetDiscard .k tag t) s = .next
        ((let u := s.mapSlot k (fun _ => ⟨.free, 0, 0, 0, 0, [], false, false, none⟩)
        { u with marking := { u.marking with batch := { u.marking.batch with
            discarded := min 65535 (s.marking.batch.discarded + 1) } } }).replied .k tag (.sheetDiscard t) .ok
          [⟨1, y.pages.length⟩]))
      ∧ ((y.state = .scoring ∨ y.state = .waiting) → exec (.sheetDiscard .k tag t) s = .next
        (s.replied .k tag (.sheetDiscard t) .busy []))
      ∧ (∀ place : List Field, (y.state ≠ .scoring → place = []) →
        (y.state = .scoring → k ∉ s.marking.order → place = [⟨1, 0⟩, ⟨1, 0⟩]) →
        (∀ m, y.state = .scoring → s.marking.order[m]? = some k → k ∉ s.marking.order.take m →
          place = [⟨1, 1⟩, ⟨1, m⟩]) →
        let has := fun (n : Nat) => if ∃ g ∈ y.pages, g.1 = n then 1 else 0
        let shown : List Field := [⟨1, k⟩, ⟨1, SlotState.code y.state⟩, ⟨1, y.pageCount⟩,
          ⟨1, has 1 + 2 * has 2 + 4 * has 3 + 8 * has 4⟩, ⟨1, if y.readSeen then 1 else 0⟩,
          ⟨1, if y.mismatchSeen then 1 else 0⟩]
        exec (.sheetQuery .k tag t) s = .next
          (s.replied .k tag (.sheetQuery t) .ok (shown ++ place))))
    ∧ (s.slotOf t = none →
      exec (.sheetDiscard .k tag t) s = .next (s.replied .k tag (.sheetDiscard t) .notFound [])
      ∧ (s.entry? t = none → exec (.sheetQuery .k tag t) s = .next
        (s.replied .k tag (.sheetQuery t) .notFound []))
      ∧ (∀ e number, s.entry? t = some e →
        ((e.cand = none ∧ number = 0) ∨ (∃ i c, e.cand = some i ∧ s.cand? i = some c ∧ number = c.number)) →
        let fields : List Field := [⟨1, TagKind.code e.kind⟩, ⟨1, TagState.code e.state⟩, ⟨4, number⟩,
          ⟨4, e.issueTime.getD 0xFFFFFFFF⟩, ⟨4, e.returnTime.getD 0xFFFFFFFF⟩, ⟨1, e.remarks⟩]
        ((e.kind = .booklet ∨ e.cand = none ∨ ∃ i c, e.cand = some i ∧ s.cand? i = some c ∧ c.version = 0) →
          exec (.sheetQuery .k tag t) s = .next (s.replied .k tag (.sheetQuery t) .ok fields))
        ∧ (∀ i c m, e.kind = .sheet → e.cand = some i → s.cand? i = some c → 0 < c.version →
          c.summary = some m →
          exec (.sheetQuery .k tag t) s = .next (s.replied .k tag (.sheetQuery t) .ok
            (fields ++ [⟨4, m.version⟩, signedField 2 m.reported, ⟨1, Standing.code m.standing⟩,
              m.flags.field])))))

/-! ## Scoring (Chapter 8) -/

/-- The three item kinds.  SINGLE, on the marks within the option count (R131, R132): none BLANK, one on the
key CORRECT with 256w, one elsewhere WRONG with -pw, two or more INVALID by the policy.  MULTI (R133): the
numerator over k rounded toward zero and not below -pw; CORRECT, WRONG and PARTIAL as the rule orders them.
NUMERIC (R134): a column marked twice INVALID, all blank BLANK, a blank between digits INVALID, and else the
digits' value within the tolerance CORRECT or outside it WRONG. -/
def Obligations.ItemsScored : Prop :=
  ∀ (x : Sitting) (e : ItemEntry),
    let w : Int := e.weight
    let p : Int := x.penalty
    let invalid : Scored := ⟨.invalid, if x.invalidPolicy = .asWrong then -(p * w) else 0⟩
    (∀ (key : Nat) (m : BitVec 8), e.kind = .single → e.optionCount ≤ 8 → key < e.optionCount →
      (∀ i, i < 8 → (e.keyed.getLsbD i = true ↔ i = key)) →
      let marked := fun (i : Nat) => i < e.optionCount ∧ m.getLsbD i = true
      ((∀ i, ¬ marked i) → scoreItem x e (.option m) = ⟨.blank, 0⟩)
      ∧ (marked key → (∀ i, marked i → i = key) → scoreItem x e (.option m) = ⟨.correct, 256 * w⟩)
      ∧ (∀ a, a ≠ key → marked a → (∀ i, marked i → i = a) → scoreItem x e (.option m) = ⟨.wrong, -(p * w)⟩)
      ∧ (∀ a b, a ≠ b → marked a → marked b → scoreItem x e (.option m) = invalid))
    ∧ (∀ (m : BitVec 8), e.kind = .multi → e.optionCount ≤ 8 → e.keyed ≠ 0#8 →
      (∀ i, i < 8 → e.keyed.getLsbD i = true → i < e.optionCount) → e.weight ≤ 255 → x.penalty ≤ 255 →
      let count := fun (q : Nat → Bool) => ((List.range 8).filter q).length
      let marked := fun (i : Nat) => decide (i < e.optionCount) && m.getLsbD i
      let k := count (fun i => e.keyed.getLsbD i)
      let hits := count (fun i => marked i && e.keyed.getLsbD i)
      let extras := count (fun i => marked i && !e.keyed.getLsbD i)
      let num : Int := w * (256 * (hits : Int) - p * (extras : Int))
      let r := scoreItem x e (.option m)
      hits ≤ k ∧ extras ≤ 8 - k ∧ num.natAbs ≤ 522240
      ∧ (hits + extras = 0 → r = ⟨.blank, 0⟩)
      ∧ (0 < hits + extras → hits = k → extras = 0 → r = ⟨.correct, 256 * w⟩)
      ∧ (0 < hits + extras → ¬ (hits = k ∧ extras = 0) → ∃ q : Int,
          q.natAbs * k ≤ num.natAbs ∧ num.natAbs < (q.natAbs + 1) * k ∧ (0 ≤ num → 0 ≤ q) ∧ (num ≤ 0 → q ≤ 0)
          ∧ r.credit = (if q < -(p * w) then -(p * w) else q) ∧ r.credit ≤ 256 * w
          ∧ r.outcome = (if r.credit ≤ 0 then .wrong else .part)))
    ∧ (∀ (n : Nat) (cols : List (BitVec 16)), e.kind = .numeric →
      let reads := cols.map readColumn
      let r := scoreItem x e (.column n cols)
      (∀ m : BitVec 16, (readColumn m = .blank ↔ ∀ d, d < 10 → m.getLsbD d = false)
        ∧ (∀ d, readColumn m = .digit d ↔ d < 10 ∧ ∀ i, i < 10 → (m.getLsbD i = true ↔ i = d))
        ∧ (readColumn m = .twice ↔ ∃ a b, a < b ∧ b < 10 ∧ m.getLsbD a = true ∧ m.getLsbD b = true))
      ∧ (.twice ∈ reads → r = invalid)
      ∧ ((∀ c ∈ reads, c = .blank) → r = ⟨.blank, 0⟩)
      ∧ (∀ (l : List ColumnRead) (a b : Nat) (mid k : List ColumnRead), .twice ∉ reads →
        reads = l ++ .digit a :: mid ++ .digit b :: k → .blank ∈ mid → r = invalid)
      ∧ (∀ (l k : Nat) (ds : List Nat), ds ≠ [] →
        reads = List.replicate l .blank ++ ds.map .digit ++ List.replicate k .blank →
        let value : Nat := ds.foldl (fun n d => 10 * n + d) 0
        ((value : Int) - e.numericKey ≤ e.tolerance ∧ (e.numericKey : Int) - value ≤ e.tolerance →
          r = ⟨.correct, 256 * w⟩)
        ∧ (e.tolerance < (value : Int) - e.numericKey ∨ e.tolerance < (e.numericKey : Int) - value →
          r = ⟨.wrong, -(p * w)⟩)))

/-- The working result of a sheet whose N responses answer a sealed key (R135 to R138): the raw score the sum
of the items' credits, each between -pw and 256w, the INVALID items counted and the outcomes in item order;
the raw score between -p and 256 times the weights, within the stated limits; the mark v nearest to the scaled
raw score, a half away from zero, of magnitude at most out_max; a negative v becomes 0 and is CLAMPED under
CLAMP_ZERO, and every other v is kept with CLAMPED clear; the standing BELOW, AT or ABOVE as the reported mark
lies to the pass mark. -/
def Obligations.MarkReported : Prop :=
  ∀ (x : Sitting) (rs : List Response), x.rawMax = 256 * x.weightSum rs.length → 0 < x.rawMax →
    x.penalty ≤ 255 →
    let r := scoreSheet x rs
    let product : Int := r.raw * x.outMax
    r.raw ≤ x.rawMax ∧ -((x.penalty : Int) * (x.weightSum rs.length : Int)) ≤ r.raw
    ∧ r.outcomes.length = rs.length ∧ r.invalid = r.outcomes.countP (fun o => decide (o = .invalid))
    ∧ r.raw = ((scoreItems x rs).map (fun i => i.credit)).sum
    ∧ (∀ n a e, rs[n]? = some a → x.item? (n + 1) = some e → let i := scoreItem x e a
      (scoreItems x rs)[n]? = some i ∧ r.outcomes[n]? = some i.outcome
      ∧ -((x.penalty : Int) * e.weight) ≤ i.credit ∧ i.credit ≤ 256 * (e.weight : Int))
    ∧ (x.weightSum rs.length ≤ 51000 → -13005000 ≤ r.raw ∧ r.raw ≤ 13056000
      ∧ (x.outMax ≤ 10000 → product.natAbs ≤ 130560000000 ∧ product.natAbs < 2 ^ 47))
    ∧ ∃ v : Int, v.natAbs = (2 * product.natAbs + x.rawMax) / (2 * x.rawMax)
      ∧ (0 ≤ product → 0 ≤ v) ∧ (product ≤ 0 → v ≤ 0) ∧ 2 * (v * x.rawMax - product).natAbs ≤ x.rawMax
      ∧ v.natAbs ≤ x.outMax
      ∧ (x.floorPolicy = .clampZero → v < 0 → r.reported = 0 ∧ r.clamped = true)
      ∧ ((x.floorPolicy = .signed ∨ 0 ≤ v) → r.reported = v ∧ r.clamped = false)
      ∧ (x.floorPolicy = .clampZero → 0 ≤ r.reported ∧ r.reported ≤ x.outMax)
      ∧ (r.standing = .below ↔ r.reported < x.passMark) ∧ (r.standing = .at ↔ r.reported = x.passMark)
      ∧ (r.standing = .above ↔ (x.passMark : Int) < r.reported)

/-- SCORING_START takes the head of the scoring order when the Scoring Unit holds no slot, and the items are
answered by the pages in page order (R126, R130, R131).  SCORING_END queues the result when no slot waits
and the queue can take a RESULT record, or else leaves the slot in WAITING at the list's tail; the unit then
takes the next head (R140).  WAITING_RESULT_QUEUE queues the head of the waiting list when the queue can take
it (R140). That the working result is computed whole at SCORING_START, from what is read then, and what
SCORING_END does in its one event are the model's choices (log 18); read seen and MISMATCH_SEEN are read then
(log 49). -/
def Obligations.SheetsScored : Prop :=
  (∀ (s : State) (k : Nat) (ks : List Nat) (y : Slot) (x : Sitting), s.marking.job = none →
    s.marking.order = k :: ks → s.marking.slots[k]? = some y → s.sitting? y.sitting = some x →
    exec .scoringStart s = .next { s with marking := { s.marking with
      order := ks, job := some ⟨k, { scoreSheet x y.responses with
        readSeen := y.readSeen, mismatchSeen := y.mismatchSeen }⟩ } })
  ∧ (∀ (y : Slot) (rs : List (List Response)), rs.length = y.pageCount →
    (∀ n r, rs[n]? = some r → (n + 1, r) ∈ y.pages) → y.pages.Pairwise (fun a b => a.1 ≠ b.1) →
    y.responses = rs.flatten)
  ∧ (∀ (s : State) (j : ScoringJob), s.marking.job = some j →
    let u := { s with marking := { s.marking with job := none } }
    let room := s.marking.waiting = [] ∧ s.arch.queue.length < 32
      ∧ s.arch.queue.countP (fun r => decide (r.kind = .result)) < 24
    ∃ t, exec .scoringEnd s = .next t
      ∧ (room → exec .scoringStart (u.queueResult j.slot j.working) = .next t)
      ∧ (¬ room →
        let v := u.mapSlot j.slot (fun y => { y with state := .waiting, result := some j.working })
        exec .scoringStart { v with marking := { v.marking with waiting := v.marking.waiting ++ [j.slot] } }
          = .next t))
  ∧ (∀ (s : State) (k : Nat) (ks : List Nat) (y : Slot) (r : SheetResult), s.marking.waiting = k :: ks →
    s.marking.slots[k]? = some y → y.result = some r →
    let room := s.arch.queue.length < 32 ∧ s.arch.queue.countP (fun r => decide (r.kind = .result)) < 24
    (room → exec .waitingResultQueue s = .next
      ({ s with marking := { s.marking with waiting := ks } }.queueResult k r))
    ∧ (¬ room → exec .waitingResultQueue s = .next s))

/-- A result queued (R139, R141, R147, R182): the candidate's version up by 1 and its summary replaced, the
RESULT record at the tail of the archive queue, the entry MARKED, the batch's counts and CLAMP_SEEN, a
SHEET_SCORED notice to K, the slot freed; nothing else of the hall, the line, the clocks, the marking, the ports
and the archive changes but what the record's queueing does to its plane (R149, R153).  The flags
are of the marks read when scoring began (the model's reading of R130, log 49), and the widths of the
version are log 14's. -/
def Obligations.ResultQueued : Prop :=
  ∀ (s : State) (k : Nat) (r : SheetResult) (y : Slot) (c : Cand), s.marking.slots[k]? = some y →
    s.cand? y.cand = some c →
    let t := s.queueResult k r
    let b := s.marking.batch
    let flags : ResultFlags := ⟨r.clamped, b.clampSeen || r.clamped, !r.readSeen, r.mismatchSeen⟩
    let bits := (r.outcomes.map (fun o => natBits 3 (ItemOutcome.code o))).flatten
    t.cand? y.cand = some { c with
        version := c.version + 1,
        summary := some ⟨y.script, c.version + 1, s.arch.seqCounter, b.number, r.reported, r.standing, flags⟩ }
    ∧ (∀ j, j ≠ y.cand → t.cand? j = s.cand? j)
    ∧ (∃ packed : List Byte, packed.length = (3 * r.outcomes.length + 7) / 8
      ∧ (packed.map byteBits).flatten = bits ++ List.replicate (8 * packed.length - bits.length) false
      ∧ t.arch.queue = s.arch.queue ++ [⟨s.arch.seqCounter, .result, s.arch.lost,
        [⟨2, s.hall.sessionNo.getD 0⟩, ⟨4, c.number⟩, ⟨1, y.sitting⟩, ⟨4, y.script⟩, ⟨2, b.number⟩,
          ⟨2, c.version + 1⟩, signedField 4 r.raw, signedField 2 r.reported, ⟨1, Standing.code r.standing⟩,
          flags.field, ⟨1, r.invalid⟩, ⟨1, r.outcomes.length⟩] ++ packed.map (fun v => ⟨1, v.toNat⟩)⟩])
    ∧ t.arch.seqCounter = s.arch.seqCounter + 1 ∧ t.arch.lost = 0
    ∧ t.custody = s.custody.map (fun e => if e.script = y.script then { e with state := .marked } else e)
    ∧ t.marking.batch = { b with scored := min 65535 (b.scored + 1),
                                 clamped := if r.clamped then min 65535 (b.clamped + 1) else b.clamped,
                                 clampSeen := b.clampSeen || r.clamped }
    ∧ t.port .k = (s.port .k).notify (.sheetScored y.script c.number y.sitting b.number (c.version + 1)
        s.arch.seqCounter r.reported r.standing flags r.invalid s.hall.time)
    ∧ t.marking.slots[k]? = some ⟨.free, 0, 0, 0, 0, [], false, false, none⟩
    ∧ (∀ j, j ≠ k → t.marking.slots[j]? = s.marking.slots[j]?)
    ∧ t.hall = { s.hall with cands := t.hall.cands } ∧ t.alloc = s.alloc ∧ t.line = s.line ∧ t.clock = s.clock
    ∧ t.marking = { s.marking with slots := t.marking.slots, batch := t.marking.batch }
    ∧ t.pending = s.pending ∧ (∀ d, t.port (.desk d) = s.port (.desk d))
    ∧ (let p : PlaneId := if s.arch.seqCounter % 2 = 0 then .p0 else .p1
      let old := s.arch.plane p
      t.arch.mem = s.arch.mem ∧ t.arch.lastStored = s.arch.lastStored ∧ t.arch.exported = s.arch.exported
      ∧ t.arch.torn = s.arch.torn ∧ t.arch.scan = s.arch.scan
      ∧ (∀ q, q ≠ p → t.arch.plane q = s.arch.plane q)
      ∧ (t.arch.plane p).blocks = old.blocks ∧ (t.arch.plane p).stalled = old.stalled
      ∧ (t.arch.plane p).prev = old.prev ∧ (t.arch.plane p).cur = old.cur
      ∧ (t.arch.plane p).eraseBegun = old.eraseBegun
      ∧ t.port .g = (if old.stallAlertDue = true ∧ old.stalled = true then
          (s.port .g).notify (.archiveAlert (.stalled (planeNo p)
            (old.blocks.countP (fun x => decide (x.state = .retired)))) s.hall.time)
        else s.port .g))

/-- REMARK of a MARKED sheet whose sitting is not FINAL: PENDING while its result is in the archive queue, and
else RETURNED with the remark count up by 1, stopping at 255 (R142).  FINALISE of a CLOSED sitting: STATE
while a slot holds a sheet of it, and else FINAL with the SITTING_FINAL record offered, the record and the
reply carrying the counts of the sitting's SHEET entries and of the MARKED ones' standings (R143), in 2
bytes each (the model's, log 12). -/
def Obligations.RemarkedAndFinalised : Prop :=
  (∀ (tag : Byte) (t i : Nat) (e : Custody) (c : Cand) (x : Sitting) (m : Summary) (s : State),
    s.ready .g tag → s.hall.session = .live → 1 ≤ t / 10000000 → t ≤ 99999999 → s.entry? t = some e →
    e.state = .marked → e.cand = some i → s.cand? i = some c → s.sitting? c.sitting = some x →
    x.state ≠ .final → c.summary = some m →
    let waits := ∃ r ∈ s.arch.queue, r.kind = .result ∧ r.seq = m.seq
    (waits → exec (.remark .g tag t) s = .next (s.replied .g tag (.remark t) .pending []))
    ∧ (¬ waits →
      let n := if e.remarks < 255 then e.remarks + 1 else 255
      exec (.remark .g tag t) s = .next
        ({ s with custody := s.custody.map (fun (f : Custody) => if f.script = t then
            { f with state := .returned, remarks := n } else f) }.replied .g tag (.remark t) .ok
          [⟨4, c.number⟩, ⟨1, n⟩, ⟨4, c.version⟩])))
  ∧ (∀ (tag : Byte) (n : Nat) (x : Sitting) (s : State), s.ready .g tag → s.hall.session = .live → 1 ≤ n →
    n ≤ 12 → s.sitting? n = some x → x.state = .closed →
    ((∃ y ∈ s.marking.slots, y.state ≠ .free ∧ y.sitting = n) →
      exec (.finalise .g tag n) s = .next (s.replied .g tag (.finalise n) .state []))
    ∧ ((∀ y ∈ s.marking.slots, y.state = .free ∨ y.sitting ≠ n) →
      let sheet := fun (e : Custody) (q : Cand → Bool) => decide (e.kind = .sheet) &&
        e.cand.any (fun i => (s.cand? i).any (fun c => c.sitting == n && q c))
      let inState := fun (v : TagState) =>
        s.custody.countP (fun e => sheet e (fun _ => true) && decide (e.state = v))
      let stands := fun (v : Standing) => s.custody.countP (fun e => decide (e.state = .marked) &&
        sheet e (fun c => c.summary.any (fun m => decide (m.standing = v))))
      let counts : List Field := [⟨2, inState .marked⟩, ⟨2, inState .returned⟩, ⟨2, inState .issued⟩,
        ⟨2, stands .below⟩, ⟨2, stands .at⟩, ⟨2, stands .above⟩]
      exec (.finalise .g tag n) s = .next
        (((s.mapSitting n (fun y => { y with state := .final })).offer .sittingFinal
          (⟨2, s.hall.sessionNo.getD 0⟩ :: ⟨1, n⟩ :: counts ++ [⟨4, s.hall.time⟩])).replied .g tag
            (.finalise n) .ok counts)))

/-! ## The Result Archive (Chapter 9) -/

/-- A non-result record offered (R147 to R149, R153). With room it takes the counter's value and the
lost-record count and joins the tail, its plane's buffers and next program taking it where they can; a plane
that the scan left STALLED sends the notice it owes. With the queue full it is dropped: the count goes up,
stopping at 65,535, and ARCHIVE_ALERT LOST goes to G. Both notices carry the hall time at which the event was
taken, which is the present one unless the event has set hall time (R1). The buffers filled in the same event
(log 16), a counter without an upper end (log 35) and the plane's owed notice (log 40) are the model's
readings. -/
def Obligations.RecordsOffered : Prop :=
  ∀ (s : State) (kind : RecordKind) (body : List Field) (now : Nat),
    (32 ≤ s.arch.queue.length →
      let n := if s.arch.lost < 65535 then s.arch.lost + 1 else 65535
      s.offer kind body now = { s with arch := { s.arch with lost := n } }.mapPort .g (fun ps =>
        ps.notify (.archiveAlert (.lost kind n) now)))
    ∧ (s.arch.queue.length < 32 →
      let r : ArchRecord := ⟨s.arch.seqCounter, kind, s.arch.lost, body⟩
      let p : PlaneId := if s.arch.seqCounter % 2 = 0 then .p0 else .p1
      let t := s.offer kind body now
      let old := s.arch.plane p
      let new := t.arch.plane p
      t.arch.queue = s.arch.queue ++ [r] ∧ t.arch.seqCounter = s.arch.seqCounter + 1 ∧ t.arch.lost = 0
      ∧ t.arch.mem = s.arch.mem ∧ t.arch.lastStored = s.arch.lastStored ∧ t.arch.exported = s.arch.exported
      ∧ t.hall = s.hall ∧ t.marking = s.marking ∧ t.custody = s.custody ∧ t.line = s.line
      ∧ t.alloc = s.alloc ∧ t.clock = s.clock ∧ t.pending = s.pending
      ∧ (∀ q, q ≠ p → t.arch.plane q = s.arch.plane q) ∧ (∀ q, q ≠ .g → t.port q = s.port q)
      ∧ new.blocks = old.blocks ∧ new.stalled = old.stalled
      ∧ t.port .g = (if old.stallAlertDue = true ∧ old.stalled = true then
          (s.port .g).notify (.archiveAlert (.stalled (planeNo p)
            (old.blocks.countP (fun x => decide (x.state = .retired)))) now)
        else s.port .g)
      ∧ ((∀ q ∈ s.arch.queue, planeOf q.seq ≠ p) → old.staging = none → old.progBuf = none →
        new.progBuf = some r ∧ new.staging = none
        ∧ (∀ b x, old.run = .none → old.findBlock .opened = some b → old.blocks[b]? = some x →
          old.findBlock .erasing = none → new.run = .record b x.used))
      ∧ (∀ g, old.staging = none → old.progBuf = some g → g.seq < s.arch.seqCounter →
        (∀ q ∈ s.arch.queue, planeOf q.seq = p → q.seq = g.seq) →
        new.staging = some r ∧ new.progBuf = some g))

/-- PROGRAM_START fills the buffers, oldest record first, and begins a program in the OPEN block's next page
when no erase is accepted or running (R149, R156).  A program that ends with PASS (R150): the record's bytes
in its page and no other byte changed, the marks moved, the table entry, the last-stored value, the queue
entry freed, the next record in the program buffer; after page 30 the lowest ERASED block opens, or the
plane stalls with its notice (R153).  That the bytes replace those of a page that was not blank is the
model's (log 51). -/
def Obligations.ProgramsPass : Prop :=
  (∀ (s : State) (p : PlaneId) (r : ArchRecord), (s.arch.plane p).run = .none →
    let pl := s.arch.plane p
    (pl.progBuf = some r → pl.staging.isSome = true →
      (∀ b x, pl.findBlock .opened = some b → pl.blocks[b]? = some x → pl.findBlock .erasing = none →
        exec (.programStart p) s = .next
          { s with arch := s.arch.setPlane p { pl with run := .record b x.used } })
      ∧ ((pl.findBlock .opened = none ∨ (pl.findBlock .erasing).isSome = true) →
        exec (.programStart p) s = .next s))
    ∧ (∀ r2 rest, pl.progBuf = none → pl.staging = none →
      s.arch.queue.filter (fun q => decide (planeOf q.seq = p)) = r :: r2 :: rest → r2.seq ≠ r.seq →
      ∃ t, exec (.programStart p) s = .next t ∧ (t.arch.plane p).progBuf = some r
        ∧ (t.arch.plane p).staging = some r2 ∧ t.arch.queue = s.arch.queue))
  ∧ (∀ (s : State) (p : PlaneId) (b page : Nat) (r : ArchRecord) (x : Block), s.MemOk →
    (s.arch.plane p).run = .record b page → (s.arch.plane p).progBuf = some r →
    (s.arch.plane p).blocks[b]? = some x → x.state = .opened → page ≤ 30 → r.page.length ≤ 128 →
    ∃ t, exec (.programPass p) s = .next t
      ∧ t.arch.queue = s.arch.queue.filter (fun q => q.seq != r.seq)
      ∧ t.arch.lastStored = max s.arch.lastStored r.seq ∧ t.arch.seqCounter = s.arch.seqCounter
      ∧ t.arch.exported = s.arch.exported ∧ t.hall = s.hall ∧ t.marking = s.marking
      ∧ (t.arch.plane p).prev = (s.arch.plane p).cur ∧ (t.arch.plane p).cur = .pass
      ∧ (t.arch.plane p).blocks[b]? = some ⟨if page = 30 then .full else .opened, page + 1,
          if page = 0 then some r.seq else x.first, some r.seq, x.failed⟩
      ∧ (∀ j v, r.page[j]? = some v → Memory.read t.arch.mem (pageAddr p b page + j) = v)
      ∧ (∀ a, a < pageAddr p b page ∨ pageAddr p b page + r.page.length ≤ a →
        Memory.read t.arch.mem a = Memory.read s.arch.mem a)
      ∧ (∀ q, (s.arch.plane p).staging = some q → (t.arch.plane p).progBuf = some q)
      ∧ (page < 30 → t.links = s.links ∧ (t.arch.plane p).stalled = (s.arch.plane p).stalled)
      ∧ (∀ e, page = 30 → (s.arch.plane p).findBlock .erased = some e →
        t.links = s.links ∧ (t.arch.plane p).stalled = false
        ∧ (t.arch.plane p).blocks[e]? = some ⟨.opened, 0, none, none, none⟩)
      ∧ (page = 30 → (s.arch.plane p).findBlock .erased = none → (t.arch.plane p).stalled = true
        ∧ t.port .g = (s.port .g).notify (.archiveAlert (.stalled (planeNo p)
            ((s.arch.plane p).blocks.countP (fun y => decide (y.state = .retired)))) s.hall.time)))

/-- A program that ends with FAIL (R151): the marks moved, the block RETIRED with the record's number as
its failed sequence and the page used, PROGRAM_FAIL to G, the page torn, every other byte and every record
where it was, and the tail program begun, or waiting for an accepted erase (R156).  The end of the tail
program (R151, R152): with PASS a valid retire mark that carries the failed sequence, with FAIL a torn tail
and RETIRE_FAIL to G; then the record is programmed into page 0 of the lowest ERASED block, or the plane
stalls with its notice (R153).  What a torn page holds is free (log 10); that a tail
that was not blank takes the mark is the model's (log 51). -/
def Obligations.ProgramsFail : Prop :=
  (∀ (s : State) (p : PlaneId) (b page : Nat) (r : ArchRecord) (x : Block), s.MemOk →
    (s.arch.plane p).run = .record b page → (s.arch.plane p).progBuf = some r →
    (s.arch.plane p).blocks[b]? = some x →
    let pl := s.arch.plane p
    ∃ t, exec (.programFail p) s = .next t
      ∧ t.arch.plane p = { pl with
          prev := pl.cur, cur := .fail, blocks := pl.blocks.set b ⟨.retired, page + 1, x.first, x.highest, some r.seq⟩,
          run := if (pl.findBlock .erasing).isSome = true then .tailDue b else .tail b }
      ∧ (∀ q, q ≠ p → t.arch.plane q = s.arch.plane q) ∧ t.arch.queue = s.arch.queue
      ∧ t.links = s.links.set .g ((s.port .g).notify
          (.archiveAlert (.programFail (planeNo p) b page r.seq) s.hall.time))
      ∧ pageTorn (readPage t.arch.mem p b page) = true
      ∧ (∀ a, a < pageAddr p b page ∨ pageAddr p b page + 128 ≤ a →
        Memory.read t.arch.mem a = Memory.read s.arch.mem a))
  ∧ (∀ (s : State) (p : PlaneId) (b seq : Nat) (pass : Bool) (r : ArchRecord) (x : Block), s.MemOk →
    (s.arch.plane p).run = .tail b → (s.arch.plane p).progBuf = some r →
    (s.arch.plane p).findBlock .opened = none → (s.arch.plane p).findBlock .erasing = none →
    (s.arch.plane p).blocks[b]? = some x → x.failed = some seq → seq < 2 ^ 32 →
    let pl := s.arch.plane p
    ∃ t, exec (.retireMarkEnd p pass) s = .next t
      ∧ (t.arch.plane p).prev = pl.cur ∧ (t.arch.plane p).cur = (if pass then .pass else .fail)
      ∧ (t.arch.plane p).progBuf = some r ∧ (∀ q, pl.staging = some q → (t.arch.plane p).staging = some q)
      ∧ t.arch.queue = s.arch.queue
      ∧ (pass = true → retireValid (readPage t.arch.mem p b 31) = true
        ∧ pageSeq (readPage t.arch.mem p b 31) = seq)
      ∧ (pass = false → pageTorn (readPage t.arch.mem p b 31) = true)
      ∧ (∀ a, a < pageAddr p b 31 ∨ pageAddr p b 31 + 128 ≤ a →
        Memory.read t.arch.mem a = Memory.read s.arch.mem a)
      ∧ (let told := if pass then s.port .g else
          (s.port .g).notify (.archiveAlert (.retireFail (planeNo p) b seq) s.hall.time)
        (∀ e, pl.findBlock .erased = some e → (t.arch.plane p).run = .record e 0
          ∧ (t.arch.plane p).blocks = pl.blocks.set e ⟨.opened, 0, none, none, none⟩
          ∧ (t.arch.plane p).stalled = false ∧ t.port .g = told)
        ∧ (pl.findBlock .erased = none → (t.arch.plane p).run = .none ∧ (t.arch.plane p).blocks = pl.blocks
          ∧ (t.arch.plane p).stalled = true ∧ t.port .g = told.notify (.archiveAlert (.stalled (planeNo p)
            (pl.blocks.countP (fun y => decide (y.state = .retired)))) s.hall.time))))

/-- Erases (R156, R153). ERASE_START: an accepted erase begins when no program runs in its plane. ERASE_END
with PASS: every byte of the block FFh and no other byte changed, the block ERASED with its entry cleared, or
OPEN where the plane was STALLED, which then owes no notice from the scan; with FAIL: the block RETIRED with
31 pages used, no sequence, ERASE_FAIL to G, and no byte outside the block changed. A tail program that waited
begins. The mark that an erase has begun, and an ERASE_END taken whether or not ERASE_START was, are the
model's (log 17). -/
def Obligations.Erases : Prop :=
  ∀ (s : State) (p : PlaneId) (b : Nat), (s.arch.plane p).findBlock .erasing = some b → s.MemOk →
    let pl := s.arch.plane p
    let outside := fun (t : State) => ∀ a, a < pageAddr p b 0 ∨ pageAddr p b 31 + 128 ≤ a →
      Memory.read t.arch.mem a = Memory.read s.arch.mem a
    let waits := fun (t : State) => ∀ c, pl.run = .tailDue c → (t.arch.plane p).run = .tail c
    (((∃ c n, pl.run = .record c n) ∨ (∃ c, pl.run = .tail c)) → exec (.eraseStart p) s = .next s)
    ∧ ((pl.run = .none ∨ ∃ c, pl.run = .tailDue c) →
      exec (.eraseStart p) s = .next { s with arch := s.arch.setPlane p { pl with eraseBegun := true } }
      ∧ (∃ t, exec (.eraseEnd p true) s = .next t ∧ outside t ∧ waits t
        ∧ (∀ n j, n < 32 → j < 128 → Memory.read t.arch.mem (pageAddr p b n + j) = 0xFF)
        ∧ (t.arch.plane p).eraseBegun = false ∧ (t.arch.plane p).stalled = false ∧ t.links = s.links
        ∧ (t.arch.plane p).stallAlertDue = (pl.stallAlertDue && !pl.stalled) ∧ t.arch.queue = s.arch.queue
        ∧ (pl.stalled = false → (t.arch.plane p).blocks = pl.blocks.set b ⟨.erased, 0, none, none, none⟩)
        ∧ (pl.stalled = true → pl.findBlock .erased = none →
          (t.arch.plane p).blocks = pl.blocks.set b ⟨.opened, 0, none, none, none⟩
          ∧ (∀ r, pl.run = .none → pl.progBuf = some r → pl.findBlock .opened = none →
            pl.blocks.countP (fun y => decide (y.state = .erasing)) = 1 →
            (t.arch.plane p).run = .record b 0)))
      ∧ (∃ t, exec (.eraseEnd p false) s = .next t ∧ outside t ∧ waits t
        ∧ (t.arch.plane p).eraseBegun = false ∧ (t.arch.plane p).stalled = pl.stalled
        ∧ t.arch.queue = s.arch.queue
        ∧ (t.arch.plane p).blocks = pl.blocks.set b ⟨.retired, 31, none, none, none⟩
        ∧ t.links = s.links.set .g ((s.port .g).notify
            (.archiveAlert (.eraseFail (planeNo p) b) s.hall.time))))

/-- The power-up scan. SCAN_BLOCK_CLASSIFY gives a block the first line of R159's table that fits it, its
first and highest sequence from its valid pages, counts its torn pages, and raises the highest number found;
the EXPORT_MARK of the highest number so far gives the mark, and the record of the highest number among the
session kinds how the session stands (R160). A RETIRED block's pages used end at its last page that is not
blank (the model's, log 27); the blocks come in any order (log 26). SCAN_END sets the counter, the last-stored
value and the exported mark, gives each plane its OPEN block or leaves it STALLED, and queues SESSION_LOST
where the last session record is a SESSION_OPEN (R159, R160), its torn count in 4 bytes (the model's, log 53).
-/
def Obligations.ScanRuns : Prop :=
  (∀ (s : State) (p : PlaneId) (b : Nat) (c : Scan) (x : Block), s.arch.scan = some c →
    (s.arch.plane p).blocks[b]? = some x → x.state = .unread →
    let pages := (List.range 31).map (fun n => readPage s.arch.mem p b n)
    let tail := readPage s.arch.mem p b 31
    let blank := fun (bs : List Byte) => ∀ v ∈ bs, v = 0xFF
    let valid := pages.filter pageValid
    let allBlank := (∀ bs ∈ pages, blank bs) ∧ blank tail
    let found := fun {α : Type} (kinds : List RecordKind) (value : List Byte → α)
        (before after : Option (Nat × α)) =>
      let listed := valid.filter (fun bs => (kinds.map RecordKind.code).contains (pageKind bs))
      (after = before ∨ ∃ bs ∈ listed, after = some (pageSeq bs, value bs))
      ∧ (∀ bs ∈ listed, ∃ e, after = some e ∧ pageSeq bs ≤ e.1)
      ∧ (∀ e, before = some e → after = before ∨ ∃ g, after = some g ∧ e.1 < g.1)
    ∃ t y d, exec (.scanBlockClassify p b) s = .next t ∧ t.arch.scan = some d ∧ t.arch.mem = s.arch.mem
      ∧ (t.arch.plane p).blocks = (s.arch.plane p).blocks.set b y
      ∧ t.arch.torn = s.arch.torn + pages.countP pageTorn + (if pageTorn tail || pageValid tail then 1 else 0)
      ∧ y.first = valid.head?.map pageSeq
      ∧ (∀ bs ∈ valid, (∃ h, y.highest = some h ∧ pageSeq bs ≤ h) ∧ pageSeq bs ≤ d.high)
      ∧ (∀ h, y.highest = some h → ∃ bs ∈ valid, pageSeq bs = h)
      ∧ found [.exportMark] (fun bs => ofBytes (((pageBody bs).drop 2).take 4)) c.exportSeen d.exportSeen
      ∧ found [.sessionOpen, .sessionClosed, .sessionDiscarded, .sessionLost]
        (fun bs => (pageKind bs, ofBytes (((pageBody bs).drop 2).take 2))) c.sessionSeen d.sessionSeen
      ∧ c.high ≤ d.high ∧ (retireValid tail = true → pageSeq tail ≤ d.high)
      ∧ (d.high = c.high ∨ (∃ bs ∈ valid, d.high = pageSeq bs)
          ∨ (retireValid tail = true ∧ d.high = pageSeq tail))
      ∧ (allBlank → y = ⟨.erased, 0, none, none, none⟩ ∧ d.written = c.written)
      ∧ (¬ allBlank → d.written = true)
      ∧ (retireValid tail = true → y.state = .retired ∧ y.failed = some (pageSeq tail)
        ∧ ((∀ bs ∈ pages, blank bs) → y.used = 0)
        ∧ (∀ n, n < 31 → ¬ blank (readPage s.arch.mem p b n) →
          (∀ m, n < m → m < 31 → blank (readPage s.arch.mem p b m)) → y.used = n + 1))
      ∧ (retireValid tail = false → ¬ allBlank → y.failed = none
        ∧ ((∀ bs ∈ pages, ¬ blank bs) → y.state = .full ∧ y.used = 31)
        ∧ (blank (readPage s.arch.mem p b 0) → y.state = .full ∧ y.used = 31)
        ∧ (∀ n, 0 < n → n < 31 → blank (readPage s.arch.mem p b n) →
          (∀ m, m < n → ¬ blank (readPage s.arch.mem p b m)) → y.state = .candidate ∧ y.used = n)))
  ∧ (∀ (s : State) (c : Scan), s.arch.scan = some c →
    (∀ p, ∀ x ∈ (s.arch.plane p).blocks, x.state ≠ .unread) →
    let counter := if c.written then c.high + 33 else 1
    ∃ t, exec .scanEnd s = .next t ∧ t.arch.scan = none ∧ t.arch.lastStored = c.high
      ∧ t.arch.exported = (match c.exportSeen with
                           | some (_, mark) => mark
                           | none => 0)
      ∧ t.arch.mem = s.arch.mem ∧ t.hall = s.hall
      ∧ ((∀ q n, c.sessionSeen ≠ some (q, 1, n)) → t.arch.seqCounter = counter ∧ t.arch.queue = s.arch.queue)
      ∧ (∀ q n, c.sessionSeen = some (q, 1, n) → s.arch.queue.length < 32 →
        t.arch.seqCounter = counter + 1 ∧ t.arch.queue = s.arch.queue ++ [⟨counter, .sessionLost, s.arch.lost,
          [⟨2, n⟩, ⟨4, q⟩, ⟨4, c.high⟩, ⟨4, s.arch.torn⟩, ⟨4, s.hall.time⟩]⟩])
      ∧ (∀ p, (t.arch.plane p).prev = .none ∧ (t.arch.plane p).cur = .none
        ∧ (let pl := s.arch.plane p
          let resumes := fun (b : Nat) => ∃ x h, pl.blocks[b]? = some x ∧ x.state = .candidate
            ∧ x.highest = some h ∧ (∀ z ∈ pl.blocks, ∀ g, z.highest = some g → g ≤ h)
          let becomes := fun (b : Option Nat) (v : Block → Block) => ∀ j y, pl.blocks[j]? = some y →
            (t.arch.plane p).blocks[j]? = some (if b = some j then v y
              else if y.state = .candidate then { y with state := .full } else y)
          (∀ b, resumes b → (∀ j, j < b → ¬ resumes j) →
            (t.arch.plane p).stalled = false ∧ becomes (some b) (fun y => { y with state := .opened }))
          ∧ ((∀ j, ¬ resumes j) →
            (∀ e, pl.findBlock .erased = some e →
              (t.arch.plane p).stalled = false ∧ becomes (some e) (fun _ => ⟨.opened, 0, none, none, none⟩))
            ∧ (pl.findBlock .erased = none →
              (t.arch.plane p).stalled = true ∧ becomes none (fun y => y))))))

/-- ARCHIVE_READ (R154): PENDING, BUSY and NOT_FOUND in order, and else the page found in the block chosen, a
record or TORN; nothing changes.  ARCHIVE_EXPORTED (R155): RANGE, PENDING and FULL in order, and else the
mark set and EXPORT_MARK queued.  ARCHIVE_ERASE (R156): STATE, NOT_EXPORTED and BUSY in order, and else the
block ERASING and the reply ACCEPTED.  The reply's layout (log 12), the void page as the last page used (log
27), the search of pages 0 to 30 alone (log 41), TORN for a number in the reserve that a torn page carries (log
50) and a session of none as 0 in EXPORT_MARK (log 28) are the model's. -/
def Obligations.ArchiveCommands : Prop :=
  (∀ (q : Port) (tag : Byte) (seq : Nat) (s : State), s.ready q tag → q ≠ .k → 1 ≤ seq →
    let p := planeOf seq
    let answers := fun (r : ResultCode) (fields : List Field) =>
      exec (.archiveRead q tag seq) s = .next (s.replied q tag (.archiveRead seq) r fields)
    let readable := fun (x : Block) (f : Nat) =>
      (x.state = .opened ∨ x.state = .full ∨ x.state = .retired) ∧ x.first = some f ∧ f ≤ seq
    ((∃ r ∈ s.arch.queue, r.seq = seq) → answers .pending [])
    ∧ ((∀ r ∈ s.arch.queue, r.seq ≠ seq) →
      ((∃ x ∈ (s.arch.plane p).blocks, x.state = .erasing) → answers .busy [])
      ∧ ((∀ x ∈ (s.arch.plane p).blocks, x.state ≠ .erasing) →
        (s.arch.seqCounter ≤ seq → answers .notFound [])
        ∧ (seq < s.arch.seqCounter → (∀ x ∈ (s.arch.plane p).blocks, ∀ f, ¬ readable x f) →
          answers .notFound [])
        ∧ (∀ b x f, seq < s.arch.seqCounter → (s.arch.plane p).blocks[b]? = some x → readable x f →
          (∀ j y g, j ≠ b → (s.arch.plane p).blocks[j]? = some y → readable y g → g < f) →
          let passed := fun (n : Nat) (bs : List Byte) =>
            (x.state = .retired ∧ x.failed.isSome = true ∧ n = x.used - 1) ∨ pageBlank bs = true
          let other := fun (bs : List Byte) => pageSeq bs ≠ seq ∧ ¬ (pageValid bs = true ∧ seq < pageSeq bs)
          ((∀ n, n ≤ 30 → passed n (readPage s.arch.mem p b n) ∨ other (readPage s.arch.mem p b n)) →
            answers .notFound [])
          ∧ ∀ n, n ≤ 30 → (∀ m, m < n → passed m (readPage s.arch.mem p b m)
              ∨ other (readPage s.arch.mem p b m)) →
            let bs := readPage s.arch.mem p b n
            ¬ passed n bs →
            (pageSeq bs ≠ seq → pageValid bs = true → seq < pageSeq bs → answers .notFound [])
            ∧ (pageSeq bs = seq → pageValid bs = true → answers .ok
              (⟨1, 0⟩ :: ⟨4, seq⟩ :: ⟨1, pageKind bs⟩ :: ⟨2, ofBytes ((pageBody bs).take 2)⟩
                :: ((pageBody bs).drop 2).map (fun v => ⟨1, v.toNat⟩)
                ++ [⟨1, planeNo p⟩, ⟨1, b⟩, ⟨1, n⟩]))
            ∧ (pageSeq bs = seq → pageValid bs = false → answers .ok
              [⟨1, 1⟩, ⟨1, planeNo p⟩, ⟨1, b⟩, ⟨1, n⟩])))))
  ∧ (∀ (tag : Byte) (seq : Nat) (s : State), s.ready .g tag → s.hall.session ≠ .closing →
    let answers := fun (r : ResultCode) =>
      exec (.archiveExported .g tag seq) s = .next (s.replied .g tag (.archiveExported seq) r [])
    ((seq < s.arch.exported ∨ s.arch.lastStored < seq) → answers .range)
    ∧ (s.arch.exported ≤ seq → seq ≤ s.arch.lastStored →
      ((∃ r ∈ s.arch.queue, r.seq ≤ seq) → answers .pending)
      ∧ ((∀ r ∈ s.arch.queue, seq < r.seq) →
        (32 ≤ s.arch.queue.length → answers .full)
        ∧ (s.arch.queue.length < 32 → exec (.archiveExported .g tag seq) s = .next
          (({ s with arch := { s.arch with exported := seq } }.offer .exportMark
            [⟨4, seq⟩, ⟨2, s.hall.sessionNo.getD 0⟩, ⟨4, s.hall.time⟩]).replied .g tag (.archiveExported seq)
              .ok [⟨4, seq⟩, ⟨4, s.arch.seqCounter⟩])))))
  ∧ (∀ (tag : Byte) (plane b : Nat) (p : PlaneId) (x : Block) (s : State), s.ready .g tag →
    s.hall.session ≠ .closing → (plane, p) ∈ [(0, PlaneId.p0), (1, PlaneId.p1)] →
    (s.arch.plane p).blocks[b]? = some x →
    let answers := fun (r : ResultCode) =>
      exec (.archiveErase .g tag plane b) s = .next (s.replied .g tag (.archiveErase plane b) r [])
    (x.state ≠ .full → answers .state)
    ∧ (x.state = .full → (∃ h, x.highest = some h ∧ s.arch.exported ≤ h) → answers .notExported)
    ∧ (x.state = .full → (∀ h, x.highest = some h → h < s.arch.exported) →
      ((∃ y ∈ (s.arch.plane p).blocks, y.state = .erasing) → answers .busy)
      ∧ ((∀ y ∈ (s.arch.plane p).blocks, y.state ≠ .erasing) →
        exec (.archiveErase .g tag plane b) s = .next
          ({ s with arch := s.arch.setPlane p { s.arch.plane p with
              blocks := (s.arch.plane p).blocks.set b { x with state := .erasing } } }.replied .g tag
            (.archiveErase plane b) .accepted []))))

/-! ## Links (Chapters 10 and 11) -/

/-- The frame of every well-formed link command, received without error on a port that is HUNTING, is that
command's arrival: read back from its bytes, the command is the one the partner sent (R163 to R166, R177 to
R179). -/
def Obligations.CommandFrames : Prop :=
  ∀ (c : Cmd), c.wf = true →
    decodeCommand c.code c.fieldBytes = c
    ∧ (∀ (tag : Byte) (p : Port) (s : State), tag ≠ 0 → (s.port p).asm = .hunting →
      (c.frame tag).foldl (fun o b => match o with
        | some u => (match exec (.linkByteReceived p b false false false) u with
                     | .next v => some v
                     | _ => none)
        | none => none) (some s) = some (s.arrive p tag c))

/-- A port's receive assembly and its ends (R163, R164, R165, R176): bytes passed over in HUNTING, SYNC, a LEN
out of range, bytes gathered, a complete frame judged and a gap of more than 20 ms; a bad frame sets the
summary error flag and changes nothing else. A byte with a framing error sets the flag and ends a frame
(R176). A BREAK reset empties the port and leaves every other port and record. That a parity error or an
overrun is judged at the frame's end, and what an A5h with an error starts, are the model's (logs 24 and 25).
The transmitter and the notice queue (R165, R169, R171). A free transmitter sends the reply in the slot, or
else the head of the notice queue, which leaves it; a transmitter that is sending begins nothing. The last
byte of a reply ends the command in service, and a frame in the receive buffer is taken in the same event. A
notice joins a queue of fewer than 32, and else is dropped with NOTICES_LOST set. The bytes a transmitter
sends (R169, R177, R178): A5h, LEN, TAG, code, then a reply's result code, the fields, each most significant
byte first, and the CRC over LEN through the last field; the TAG is the command's, or 00h in a notice, and the
code the command's plus 80h, or C0h to CAh by the notice's kind. The causes' bytes, what follows them, and the
result flags in one byte are the model's (log 12), and so are the widths of CUE_FIRED's number made ABSENT and
of STALLED's count (log 53) and that no mark of a break that goes on is kept (log 52). -/
def Obligations.PortsReceiveAndSend : Prop :=
  (∀ (p : Port) (s : State),
    let ends := s.mapPort p (fun ps => { ps with asm := .hunting, errorFlag := true })
    (∀ b par fr ov, (s.port p).asm = .hunting → b ≠ 0xA5 →
      exec (.linkByteReceived p b par fr ov) s = .next (s.mapPort p (fun ps =>
        { ps with errorFlag := ps.errorFlag || par || fr || ov })))
    ∧ ((s.port p).asm = .hunting → exec (.linkByteReceived p 0xA5 false false false) s = .next
      (s.mapPort p (fun ps => { ps with asm := .collecting [] false })))
    ∧ (∀ par ov, (s.port p).asm = .hunting → par || ov →
      exec (.linkByteReceived p 0xA5 par false ov) s = .next
        (s.mapPort p (fun ps => { ps with asm := .collecting [] true, errorFlag := true })))
    ∧ (∀ par ov, (s.port p).asm = .hunting → exec (.linkByteReceived p 0xA5 par true ov) s = .next
      (s.mapPort p (fun ps => { ps with errorFlag := true })))
    ∧ (∀ b par ov got bad, (s.port p).asm = .collecting got bad →
      exec (.linkByteReceived p b par true ov) s = .next ends)
    ∧ (∀ b par ov bad, (s.port p).asm = .collecting [] bad →
      ((b.toNat < 2 ∨ 240 < b.toNat) → exec (.linkByteReceived p b par false ov) s = .next ends)
      ∧ (2 ≤ b.toNat → b.toNat ≤ 240 → exec (.linkByteReceived p b par false ov) s = .next
        (s.mapPort p (fun ps => { ps with asm := .collecting [b] (bad || par || ov) }))))
    ∧ (∀ b par ov bad len got, (s.port p).asm = .collecting (len :: got) bad → 2 ≤ len.toNat →
      len.toNat ≤ 240 →
      (got.length + 1 < len.toNat + 2 → exec (.linkByteReceived p b par false ov) s = .next
        (s.mapPort p (fun ps => { ps with asm := .collecting (len :: got ++ [b]) (bad || par || ov) })))
      ∧ (∀ tag code fields c1, got.length + 1 = len.toNat + 2 → got = tag :: code :: fields ++ [c1] →
        let crc := (crc16 (len :: tag :: code :: fields)).toNat
        let good := bad = false ∧ par = false ∧ ov = false ∧ tag ≠ 0 ∧ c1.toNat * 256 + b.toNat = crc
        (¬ good → exec (.linkByteReceived p b par false ov) s = .next ends)
        ∧ (good → exec (.linkByteReceived p b par false ov) s = .next
          ((s.mapPort p (fun ps => { ps with asm := .hunting })).arrive p tag (decodeCommand code fields)))))
    ∧ (∀ got bad, (s.port p).asm = .collecting got bad → exec (.frameGapTimeout p) s = .next ends)
    ∧ ((s.port p).asm = .hunting → exec (.frameGapTimeout p) s = .next s)
    ∧ exec (.linkBreak p) s = .next (s.mapPort p (fun _ =>
        ⟨.hunting, none, none, none, [], false, false, .none⟩)))
  ∧ (∀ (p : Port) (s : State),
    let ps := s.port p
    let put := fun (v : PortState) => s.mapPort p (fun _ => v)
    (∀ r, ps.sending = .none → ps.replySlot = some r →
      exec (.transmitterStart p) s = .next (put { ps with sending := .reply }))
    ∧ (∀ n ns, ps.sending = .none → ps.replySlot = none → ps.notices = n :: ns →
      exec (.transmitterStart p) s = .next (put { ps with sending := .notice n, notices := ns }))
    ∧ ((ps.sending ≠ .none ∨ (ps.replySlot = none ∧ ps.notices = [])) →
      exec (.transmitterStart p) s = .next s)
    ∧ (∀ n, ps.sending = .notice n → exec (.noticeSent p) s = .next (put { ps with sending := .none }))
    ∧ (ps.sending = .reply → ps.buffer = none → exec (.replyComplete p) s = .next
      (put { ps with sending := .none, replySlot := none, inService := none }))
    ∧ (∀ i tag c, ps.sending = .reply → ps.buffer = some ⟨tag, c⟩ → tag ≠ 0 →
      linkCommand i = some (p, tag, c) → exec (.replyComplete p) s =
        exec i (put { ps with sending := .none, replySlot := none, inService := none, buffer := none })))
  ∧ (∀ (ps : PortState) (n : Notice),
    (ps.notices.length < 32 → ps.notify n = { ps with notices := ps.notices ++ [n] })
    ∧ (32 ≤ ps.notices.length → ps.notify n = { ps with lostFlag := true }))
  ∧ (let framed := fun (tag code : Byte) (rest : List Byte) =>
       let body := BitVec.ofNat 8 (rest.length + 2) :: tag :: code :: rest
       0xA5#8 :: body ++ [BitVec.ofNat 8 ((crc16 body).toNat / 256), BitVec.ofNat 8 (crc16 body).toNat]
     let bytes := fun (fs : List Sys2Proof.Field) => fs.flatMap (fun f =>
       (List.range f.width).map (fun k => BitVec.ofNat 8 (f.value / 256 ^ (f.width - 1 - k))))
     let results := [ResultCode.ok, .accepted, .unknown, .role, .length, .range, .state, .notFound, .duplicate,
       .full, .busy, .zone, .adjacent, .mismatch, .tooLate, .alreadyMarked, .pending, .notExported, .layout]
     (∀ (ps : PortState), ps.sending = .none → ps.transmitting = none)
     ∧ (∀ (ps : PortState) (r : Reply) (k : Nat), ps.sending = .reply → ps.replySlot = some r →
       results[k]? = some r.result → ps.transmitting =
         some (framed r.tag r.code (BitVec.ofNat 8 k :: bytes r.fields)))
     ∧ (∀ c : Byte, c.toNat < 0x80 → replyCode c = c + 0x80)
     ∧ (∀ (ps : PortState) (n : Notice), ps.sending = .notice n →
       let sent := fun (code : Byte) (fs : List Sys2Proof.Field) =>
         ps.transmitting = some (framed 0 code (bytes fs))
       match n with
       | .call seat num st t => sent 0xC0 [⟨2, seat⟩, ⟨4, num⟩, ⟨1, CandState.code st⟩, ⟨4, t⟩]
       | .seatFault (.unit bits) seat num t =>
         sent 0xC1 [⟨1, 0⟩, ⟨2, seat⟩, ⟨4, num.getD 0⟩, ⟨1, bits⟩, ⟨4, t⟩]
       | .seatFault .silent seat num t => sent 0xC1 [⟨1, 1⟩, ⟨2, seat⟩, ⟨4, num.getD 0⟩, ⟨4, t⟩]
       | .seatRecovered seat num t => sent 0xC2 [⟨2, seat⟩, ⟨4, num.getD 0⟩, ⟨4, t⟩]
       | .wrongSeat seat num right t => sent 0xC3 [⟨2, seat⟩, ⟨4, num⟩, ⟨2, right.getD 0⟩, ⟨4, t⟩]
       | .collect seat num cause i r t =>
         sent 0xC4 [⟨2, seat⟩, ⟨4, num⟩, ⟨1, causeCode cause⟩, ⟨2, i⟩, ⟨2, r⟩, ⟨4, t⟩]
       | .strayTag script kind p t =>
         sent 0xC5 [⟨4, script⟩, ⟨1, TagKind.code kind⟩, ⟨1, portCode p⟩, ⟨4, t⟩]
       | .cueFired x kind offset code absent t =>
         sent 0xC6 [⟨1, x⟩, ⟨1, CueKind.code kind⟩, ⟨2, offset⟩, ⟨1, code⟩, ⟨2, absent⟩, ⟨4, t⟩]
       | .pauseLimit x acc limit t => sent 0xC7 [⟨1, x⟩, ⟨4, acc⟩, ⟨2, limit⟩, ⟨4, t⟩]
       | .allocDone x placed un aborted t =>
         sent 0xC8 [⟨1, x⟩, ⟨2, placed⟩, ⟨2, un⟩, ⟨1, if aborted then 1 else 0⟩, ⟨4, t⟩]
       | .archiveAlert (.lost kind k) t => sent 0xC9 [⟨1, 0⟩, ⟨1, RecordKind.code kind⟩, ⟨2, k⟩, ⟨4, t⟩]
       | .archiveAlert (.programFail p b page q) t =>
         sent 0xC9 [⟨1, 1⟩, ⟨1, p⟩, ⟨1, b⟩, ⟨1, page⟩, ⟨4, q⟩, ⟨4, t⟩]
       | .archiveAlert (.retireFail p b q) t => sent 0xC9 [⟨1, 2⟩, ⟨1, p⟩, ⟨1, b⟩, ⟨4, q⟩, ⟨4, t⟩]
       | .archiveAlert (.stalled p k) t => sent 0xC9 [⟨1, 3⟩, ⟨1, p⟩, ⟨1, k⟩, ⟨4, t⟩]
       | .archiveAlert (.eraseFail p b) t => sent 0xC9 [⟨1, 4⟩, ⟨1, p⟩, ⟨1, b⟩, ⟨4, t⟩]
       | .sheetScored script num x batch version q reported standing flags invalid t =>
         sent 0xCA [⟨4, script⟩, ⟨4, num⟩, ⟨1, x⟩, ⟨2, batch⟩, ⟨4, version⟩, ⟨4, q⟩,
           ⟨2, (reported % 65536).toNat⟩, ⟨1, Standing.code standing⟩,
           ⟨1, flagsValue [flags.clamped, flags.clampSeen, flags.idUnread, flags.mismatchSeen]⟩, ⟨1, invalid⟩,
           ⟨4, t⟩]))

/-- The READ and status commands answer OK with the record as it stands, and change nothing but the two
flags that PORT_STATUS clears on its own port (R157, R172 to R175).  The encodings chapter 11 leaves open,
among them which flags share a byte, are the model's (log 12), and so are the widths of the counts whose rules
state no range (log 53). -/
def Obligations.RecordsRead : Prop :=
  ∀ (p : Port) (tag : Byte) (s : State), tag ≠ 0 → (s.port p).inService = none → (s.port p).buffer = none →
    let flag := fun (b : Bool) => if b then 1 else 0
    (s.arch.scan = none → p ≠ .k →
      (∀ i c, s.cand? i = some c →
        let result : List Sys2Proof.Field := match c.summary with
          | none => []
          | some m => [⟨4, m.script⟩, ⟨4, m.version⟩, ⟨4, m.seq⟩, ⟨2, m.batch⟩, signedField 2 m.reported,
              ⟨1, Standing.code m.standing⟩, m.flags.field]
        let seated : List Sys2Proof.Field := match c.seat.bind s.seat? with
          | none => []
          | some x => [⟨1, flag x.display.lamp⟩, ⟨1, flag (s.held c.sitting)⟩]
        let fields : List Sys2Proof.Field := [⟨2, i⟩, ⟨4, c.number⟩, ⟨1, c.sitting⟩, ⟨1, flag c.access⟩,
          ⟨1, c.allowance⟩, ⟨2, c.restBudget⟩, ⟨2, c.restUsed⟩, ⟨1, CandState.code c.state⟩,
          ⟨2, c.seat.getD 0⟩, ⟨2, c.entitled⟩, ⟨2, c.consumed⟩, ⟨2, c.entitled - c.consumed⟩, ⟨1, c.cuePtr⟩,
          ⟨1, causeCode c.cause⟩, ⟨1, flag c.late + 2 * flag c.lateOverride + 4 * flag c.nilScript
            + 8 * flag c.exitClosed⟩, ⟨2, c.issued⟩, ⟨2, c.returned⟩, ⟨4, c.version⟩] ++ result ++ seated
        (i ≤ 639 → exec (.readCandidate p tag 1 i) s = .next
          (s.replied p tag (.readCandidate 1 i) .ok fields))
        ∧ (1 ≤ c.number → c.number ≤ 999999999 → s.findCand c.number = some i →
          exec (.readCandidate p tag 0 c.number) s = .next
            (s.replied p tag (.readCandidate 0 c.number) .ok fields)))
      ∧ (∀ n x, 1 ≤ n → n ≤ 511 → s.seat? n = some x → exec (.readSeat p tag n) s = .next
        (s.replied p tag (.readSeat n) .ok
          ([⟨1, x.row⟩, ⟨1, x.column⟩, ⟨1, x.zone⟩, ⟨1, SeatKind.code x.kind⟩, ⟨1, Service.code x.service⟩,
            ⟨4, (s.numberOf x.occupant).getD 0⟩, ⟨1, flag x.waiver⟩, ⟨1, flag x.faultMark.isSome⟩,
            ⟨4, x.faultMark.getD 0xFFFFFFFF⟩, ⟨1, x.miss⟩, ⟨1, x.quiet⟩, ⟨1, x.unitFaults⟩,
            ⟨1, match x.unitGroup with
                | .none => 0
                | .sitting _ => 1
                | .unknown => 2⟩,
            ⟨1, match x.unitGroup with
                | .sitting n => n
                | _ => 0⟩, ⟨1, x.keys.length⟩]
            ++ x.display.payload.map (fun b => ⟨1, b.toNat⟩) ++ [⟨1, flag x.owed⟩])))
      ∧ (∀ n x, 1 ≤ n → n ≤ 12 → s.sitting? n = some x →
        let counts := x.layout.getD []
        let cues := fun (qs : List Cue) => (⟨1, qs.length⟩ : Sys2Proof.Field)
          :: (qs.map (fun q => [(⟨1, CueKind.code q.kind⟩ : Sys2Proof.Field), ⟨2, q.value⟩, ⟨1, q.code⟩])).flatten
        exec (.readSitting p tag n) s = .next (s.replied p tag (.readSitting n) .ok
          (x.paper.map (fun ch => ⟨1, ch⟩)
            ++ [⟨1, SittingState.code x.state⟩, ⟨2, x.base⟩, ⟨2, x.reading⟩, ⟨2, x.pauseLimit⟩,
              ⟨1, x.zones.length⟩] ++ x.zones.map (fun z => ⟨1, z⟩)
            ++ [⟨2, x.elapsedReading⟩, ⟨2, x.sel⟩, ⟨4, x.pauseAcc⟩, ⟨1, flag (!x.admission)⟩,
              ⟨1, flag x.exitOpen⟩, ⟨1, flag x.disrupted⟩, ⟨1, flag x.paused⟩, ⟨1, flag s.clock.hallPause⟩]
            ++ cues x.elapsedCues ++ cues x.remainingCues ++ [⟨1, x.elapsedPtr⟩, ⟨1, counts.length⟩]
            ++ counts.map (fun k => ⟨1, k⟩)
            ++ [⟨1, counts.sum⟩, ⟨1, KeyState.code x.keyState⟩, ⟨4, x.rawMax⟩,
              ⟨1, x.items.countP (fun g => decide (g.1 ≤ counts.sum))⟩, ⟨2, x.outMax⟩, ⟨2, x.passMark⟩,
              ⟨1, x.penalty⟩, ⟨1, InvalidPolicy.code x.invalidPolicy⟩, ⟨1, FloorPolicy.code x.floorPolicy⟩,
              ⟨2, x.enrolled⟩, ⟨2, x.counts.expected⟩, ⟨2, x.counts.admitted⟩, ⟨2, x.counts.writing⟩,
              ⟨2, x.counts.resting⟩, ⟨2, x.counts.finished⟩, ⟨2, x.counts.collected⟩, ⟨2, x.counts.absent⟩,
              ⟨2, x.counts.withdrawn⟩, ⟨1, flag x.inFlight⟩]))))
    ∧ (let ps := s.port p
      let grant : List Sys2Proof.Field := match p with
        | .desk d => [⟨1, (s.hall.masks.get d).toNat⟩, ⟨1, flag (decide (d = s.hall.chief))⟩]
        | _ => []
      exec (.portStatus p tag) s = .next
        ((s.mapPort p (fun v => { v with errorFlag := false, lostFlag := false })).replied p tag .portStatus .ok
          ([⟨1, portCode p⟩, ⟨1, roleCode p⟩, ⟨1, flag ps.errorFlag⟩, ⟨1, flag ps.lostFlag⟩,
            ⟨1, ps.notices.length⟩, ⟨1, flag ps.buffer.isSome⟩] ++ grant
            ++ [⟨1, deskCode s.hall.chief⟩, ⟨1, s.line.inbox.length⟩, ⟨1, SessionState.code s.hall.session⟩,
              ⟨1, flag s.arch.scan.isSome⟩, ⟨4, s.hall.time⟩])))
    ∧ (let a := s.arch
      let plane := fun (pl : Plane) => ([⟨1, flag pl.stalled⟩, ⟨1, (pl.findBlock .opened).getD 0xFF⟩,
        ⟨1, (((pl.findBlock .opened).bind (fun b => pl.blocks[b]?)).map (fun x => x.used)).getD 0⟩,
        ⟨1, (pl.findBlock .erasing).getD 0xFF⟩, ⟨1, pl.countBlocks .erased⟩,
        ⟨1, pl.countBlocks .full + pl.countBlocks .candidate⟩, ⟨1, pl.countBlocks .retired⟩,
        ⟨4, (pl.staging.map (fun r => r.seq)).getD 0xFFFFFFFF⟩,
        ⟨4, (pl.progBuf.map (fun r => r.seq)).getD 0xFFFFFFFF⟩, ⟨1, Mark.code pl.prev⟩,
        ⟨1, Mark.code pl.cur⟩] : List Sys2Proof.Field)
      exec (.archiveStatus p tag) s = .next (s.replied p tag .archiveStatus .ok
        ([⟨1, flag a.scan.isNone⟩, ⟨2, if a.scan.isSome then
            256 - (a.p0.countBlocks .unread + a.p1.countBlocks .unread) else 0⟩,
          ⟨1, SessionState.code s.hall.session⟩, ⟨4, a.seqCounter⟩, ⟨4, a.lastStored⟩, ⟨4, a.exported⟩,
          ⟨1, a.queue.length⟩, ⟨1, a.queue.countP (fun r => decide (r.kind = .result))⟩, ⟨2, a.lost⟩,
          ⟨4, a.torn⟩] ++ plane a.p0 ++ plane a.p1)))

end Obligations
end

