-- ==== Sys2Proof/Laws/Memory.lean ====
section
/-! SUPPORT. The archive's memory: the canonical form as an order, that every memory operation keeps it,
and what reading a byte gives after a write, a program or an erase. -/

namespace Sys2Proof.Machine

/-! ## The canonical form -/

/-- The canonical form said over the whole list. -/
theorem Memory.wf_iff (m : List Host.Cell) :
    Memory.wf m = true ↔ m.Pairwise (fun c d => c.1 < d.1) ∧ ∀ c ∈ m, c.2 ≠ Memory.blankByte := by
  induction m with
  | nil => simp [Memory.wf]
  | cons c m ih =>
    cases m with
    | nil => simp [Memory.wf]
    | cons d m =>
      simp only [Memory.wf, Bool.and_eq_true, ih, List.pairwise_cons, List.mem_cons, decide_eq_true_eq]
      grind

/-- Every entry of a memory after a write is the one written or was there. -/
theorem Memory.mem_write {m : List Host.Cell} {a : Nat} {b : Byte} {c : Host.Cell}
    (h : c ∈ Memory.write m a b) : (c = (a, b) ∧ b ≠ Memory.blankByte) ∨ c ∈ m := by
  induction m with
  | nil => simp only [Memory.write] at h; grind
  | cons d m ih => simp only [Memory.write] at h; grind

/-- A write keeps the canonical form. -/
theorem Memory.write_wf {m : List Host.Cell} (h : Memory.wf m = true) (a : Nat) (b : Byte) :
    Memory.wf (Memory.write m a b) = true := by
  rw [Memory.wf_iff] at h ⊢
  obtain ⟨hp, hb⟩ := h
  refine ⟨?_, fun c hc => ?_⟩
  · induction m with
    | nil => simp only [Memory.write]; split <;> simp
    | cons d m ih =>
      have entries := @Memory.mem_write m a b
      rw [List.pairwise_cons] at hp
      simp only [Memory.write]
      split
      · split <;> simp only [List.pairwise_cons] <;> grind
      · split
        · split
          · exact hp.2
          · rw [List.pairwise_cons]; grind
        · rw [List.pairwise_cons]; grind
  · rcases Memory.mem_write hc with ⟨rfl, hne⟩ | hc
    · exact hne
    · exact hb c hc

/-- Dropping entries keeps the canonical form. -/
theorem Memory.filter_wf {m : List Host.Cell} (h : Memory.wf m = true) (q : Host.Cell → Bool) :
    Memory.wf (m.filter q) = true := by
  rw [Memory.wf_iff] at h ⊢
  exact ⟨h.1.filter _, fun c hc => h.2 c (List.mem_filter.1 hc).1⟩

theorem Memory.clear_wf {m : List Host.Cell} (h : Memory.wf m = true) (lo hi : Nat) :
    Memory.wf (Memory.clear m lo hi) = true := Memory.filter_wf h _

theorem Memory.writeRun_wf (bs : List Byte) : ∀ {m : List Host.Cell} (_ : Memory.wf m = true) (a : Nat),
    Memory.wf (Memory.writeRun m a bs) = true := by
  induction bs with
  | nil => intro m h a; exact h
  | cons b bs ih => intro m h a; exact ih (Memory.write_wf h a b) (a + 1)

theorem programPage_wf {m : List Host.Cell} (h : Memory.wf m = true) (p : PlaneId) (b pg : Nat)
    (bs : List Byte) : Memory.wf (programPage m p b pg bs) = true := Memory.writeRun_wf bs h _

theorem blankPage_wf {m : List Host.Cell} (h : Memory.wf m = true) (p : PlaneId) (b pg : Nat) :
    Memory.wf (blankPage m p b pg) = true := Memory.clear_wf h _ _

theorem eraseBlock_wf {m : List Host.Cell} (h : Memory.wf m = true) (p : PlaneId) (b : Nat) :
    Memory.wf (eraseBlock m p b) = true := Memory.clear_wf h _ _

theorem disturbPage_wf {m : List Host.Cell} (h : Memory.wf m = true) (p : PlaneId) (b e pg : Nat) :
    Memory.wf (disturbPage p b e pg m) = true := by
  unfold disturbPage
  split
  · exact h
  · exact blankPage_wf h ..
  · exact programPage_wf h ..

theorem disturbBlock_wf {m : List Host.Cell} (h : Memory.wf m = true) (p : PlaneId) (b e : Nat) :
    Memory.wf (disturbBlock p b e m) = true := by
  unfold disturbBlock
  generalize List.range Config.pagesPerBlock = pgs
  induction pgs generalizing m with
  | nil => exact h
  | cons pg pgs ih => exact ih (disturbPage_wf h ..)

theorem cutErase_wf {m : List Host.Cell} (h : Memory.wf m = true) (p : PlaneId) (b e : Nat) :
    Memory.wf (cutErase p b e m) = true := by
  simp only [cutErase]
  split
  · exact disturbBlock_wf h ..
  · exact programPage_wf (disturbBlock_wf h ..) ..

/-- The memory right after reset lists nothing and is in the canonical form. -/
theorem reset_mem_wf : Memory.wf State.reset.arch.mem = true := rfl

/-! ## Reading a byte -/

/-- The byte at an address, by cases on the first entry. -/
theorem Memory.read_cons (k : Nat) (v : Byte) (m : List Host.Cell) (a : Nat) :
    Memory.read ((k, v) :: m) a = if k = a then v else Memory.read m a := by
  by_cases h : k = a <;> simp [Memory.read, h]

/-- An address below every listed one reads blank. -/
theorem Memory.read_of_lt {m : List Host.Cell} {a : Nat} (h : ∀ c ∈ m, a < c.1) :
    Memory.read m a = Memory.blankByte := by
  induction m with
  | nil => rfl
  | cons c m ih =>
    rw [show c = (c.1, c.2) from rfl, Memory.read_cons,
      if_neg (Nat.ne_of_gt (h c (List.mem_cons_self ..)))]
    exact ih (fun d hd => h d (List.mem_cons_of_mem _ hd))

/-- A read after a write: the byte written at its address, and every other address as before. -/
theorem Memory.read_write {m : List Host.Cell} (h : Memory.wf m = true) (a : Nat) (b : Byte) (x : Nat) :
    Memory.read (Memory.write m a b) x = if x = a then b else Memory.read m x := by
  have hp := ((Memory.wf_iff m).1 h).1
  clear h
  induction m with
  | nil =>
    simp only [Memory.write]
    split
    · next hb => subst hb; split <;> rfl
    · rw [Memory.read_cons]; simp only [eq_comm]
  | cons c m ih =>
    obtain ⟨k, v⟩ := c
    have hk := (List.pairwise_cons.1 hp).1
    simp only [Memory.write]
    split
    · next hlt =>
      split
      · next hb =>
        subst hb
        split
        · next hx =>
          subst hx
          refine Memory.read_of_lt (fun c hc => ?_)
          rcases List.mem_cons.1 hc with rfl | hc
          · exact hlt
          · exact Nat.lt_trans hlt (hk c hc)
        · rfl
      · rw [Memory.read_cons]; simp only [eq_comm]
    · split
      · next heq =>
        subst heq
        split
        · next hb =>
          subst hb
          rw [Memory.read_cons]
          by_cases hx : x = a
          · subst hx
            rw [if_pos rfl]
            exact Memory.read_of_lt hk
          · rw [if_neg hx, if_neg (fun e => hx e.symm)]
        · rw [Memory.read_cons, Memory.read_cons]
          by_cases hx : x = a
          · subst hx; simp
          · simp [hx, Ne.symm hx]
      · next hne =>
        rw [Memory.read_cons, Memory.read_cons, ih (List.pairwise_cons.1 hp).2]
        by_cases hkx : k = x
        · subst hkx; simp [Ne.symm hne]
        · simp [hkx]

/-- A read after an address range is made blank. -/
theorem Memory.read_clear (m : List Host.Cell) (lo hi x : Nat) :
    Memory.read (Memory.clear m lo hi) x =
      if lo ≤ x ∧ x < hi then Memory.blankByte else Memory.read m x := by
  induction m with
  | nil => simp [Memory.clear, Memory.read]
  | cons c m ih =>
    obtain ⟨k, v⟩ := c
    rw [Memory.read_cons]
    by_cases hk : lo ≤ k ∧ k < hi
    · have : Memory.clear ((k, v) :: m) lo hi = Memory.clear m lo hi := by
        simp [Memory.clear, hk]
      rw [this, ih]
      by_cases hx : lo ≤ x ∧ x < hi
      · simp [hx]
      · have : ¬ k = x := fun e => hx (e ▸ hk)
        simp [hx, this]
    · have : Memory.clear ((k, v) :: m) lo hi = (k, v) :: Memory.clear m lo hi := by
        simp only [Memory.clear, List.filter_cons]
        simp only [Bool.not_and, Bool.or_eq_true, Bool.not_eq_true', decide_eq_false_iff_not]
        rw [if_pos (by omega)]
      rw [this, Memory.read_cons, ih]
      by_cases hx : k = x
      · subst hx; simp [hk]
      · simp [hx]

/-- A read after a run of bytes is written: outside the run, every address as before. -/
theorem Memory.read_writeRun_of_outside (bs : List Byte) : ∀ {m : List Host.Cell} (_ : Memory.wf m = true)
    (a x : Nat) (_ : x < a ∨ a + bs.length ≤ x), Memory.read (Memory.writeRun m a bs) x = Memory.read m x := by
  induction bs with
  | nil => intros; rfl
  | cons b bs ih =>
    intro m h a x hx
    simp only [List.length_cons] at hx
    rw [Memory.writeRun, ih (Memory.write_wf h a b) (a + 1) x (by omega), Memory.read_write h, if_neg (by omega)]

/-- A read after a run of bytes is written: within the run, the byte written there. -/
theorem Memory.read_writeRun_of_inside (bs : List Byte) : ∀ {m : List Host.Cell} (_ : Memory.wf m = true)
    (a i : Nat) (hi : i < bs.length), Memory.read (Memory.writeRun m a bs) (a + i) = bs[i] := by
  induction bs with
  | nil => intro m _ a i hi; exact absurd hi (Nat.not_lt_zero i)
  | cons b bs ih =>
    intro m h a i hi
    cases i with
    | zero =>
      rw [Memory.writeRun, Memory.read_writeRun_of_outside bs (Memory.write_wf h a b) (a + 1) (a + 0) (by omega),
        Memory.read_write h, if_pos (Nat.add_zero a)]
      rfl
    | succ i =>
      have := ih (Memory.write_wf h a b) (a + 1) i (by simpa using hi)
      rw [show a + (i + 1) = a + 1 + i by omega]
      simpa [Memory.writeRun] using this

end Sys2Proof.Machine
end

