-- ==== Sys2Proof/Laws/State.lean ====
section
/-! SUPPORT. The small lemmas of the record updates: what each shared update leaves in each field, true by
`rfl`, so that no later proof unfolds an update. -/

namespace Sys2Proof.Machine

@[simp] theorem State.mapSeat_alloc (s : State) (n : Nat) (f : Seat → Seat) : (s.mapSeat n f).alloc = s.alloc := rfl
@[simp] theorem State.mapSeat_line (s : State) (n : Nat) (f : Seat → Seat) : (s.mapSeat n f).line = s.line := rfl
@[simp] theorem State.mapSeat_clock (s : State) (n : Nat) (f : Seat → Seat) : (s.mapSeat n f).clock = s.clock := rfl
@[simp] theorem State.mapSeat_custody (s : State) (n : Nat) (f : Seat → Seat) : (s.mapSeat n f).custody = s.custody := rfl
@[simp] theorem State.mapSeat_marking (s : State) (n : Nat) (f : Seat → Seat) : (s.mapSeat n f).marking = s.marking := rfl
@[simp] theorem State.mapSeat_arch (s : State) (n : Nat) (f : Seat → Seat) : (s.mapSeat n f).arch = s.arch := rfl
@[simp] theorem State.mapSeat_links (s : State) (n : Nat) (f : Seat → Seat) : (s.mapSeat n f).links = s.links := rfl
@[simp] theorem State.mapSeat_pending (s : State) (n : Nat) (f : Seat → Seat) : (s.mapSeat n f).pending = s.pending := rfl
@[simp] theorem State.mapSeat_hall_session (s : State) (n : Nat) (f : Seat → Seat) : (s.mapSeat n f).hall.session = s.hall.session := rfl
@[simp] theorem State.mapSeat_hall_sessionNo (s : State) (n : Nat) (f : Seat → Seat) : (s.mapSeat n f).hall.sessionNo = s.hall.sessionNo := rfl
@[simp] theorem State.mapSeat_hall_time (s : State) (n : Nat) (f : Seat → Seat) : (s.mapSeat n f).hall.time = s.hall.time := rfl
@[simp] theorem State.mapSeat_hall_masks (s : State) (n : Nat) (f : Seat → Seat) : (s.mapSeat n f).hall.masks = s.hall.masks := rfl
@[simp] theorem State.mapSeat_hall_chief (s : State) (n : Nat) (f : Seat → Seat) : (s.mapSeat n f).hall.chief = s.hall.chief := rfl
@[simp] theorem State.mapSeat_hall_sittings (s : State) (n : Nat) (f : Seat → Seat) : (s.mapSeat n f).hall.sittings = s.hall.sittings := rfl
@[simp] theorem State.mapSeat_hall_cands (s : State) (n : Nat) (f : Seat → Seat) : (s.mapSeat n f).hall.cands = s.hall.cands := rfl
@[simp] theorem State.mapSeat_hall_drain (s : State) (n : Nat) (f : Seat → Seat) : (s.mapSeat n f).hall.drain = s.hall.drain := rfl
@[simp] theorem State.mapSeat_hall_seats (s : State) (n : Nat) (f : Seat → Seat) :
    (s.mapSeat n f).hall.seats = s.hall.seats.map (fun x => if x.seat = n then f x else x) := rfl

@[simp] theorem State.mapSitting_alloc (s : State) (n : Nat) (f : Sitting → Sitting) : (s.mapSitting n f).alloc = s.alloc := rfl
@[simp] theorem State.mapSitting_line (s : State) (n : Nat) (f : Sitting → Sitting) : (s.mapSitting n f).line = s.line := rfl
@[simp] theorem State.mapSitting_clock (s : State) (n : Nat) (f : Sitting → Sitting) : (s.mapSitting n f).clock = s.clock := rfl
@[simp] theorem State.mapSitting_custody (s : State) (n : Nat) (f : Sitting → Sitting) : (s.mapSitting n f).custody = s.custody := rfl
@[simp] theorem State.mapSitting_marking (s : State) (n : Nat) (f : Sitting → Sitting) : (s.mapSitting n f).marking = s.marking := rfl
@[simp] theorem State.mapSitting_arch (s : State) (n : Nat) (f : Sitting → Sitting) : (s.mapSitting n f).arch = s.arch := rfl
@[simp] theorem State.mapSitting_links (s : State) (n : Nat) (f : Sitting → Sitting) : (s.mapSitting n f).links = s.links := rfl
@[simp] theorem State.mapSitting_pending (s : State) (n : Nat) (f : Sitting → Sitting) : (s.mapSitting n f).pending = s.pending := rfl
@[simp] theorem State.mapSitting_hall_session (s : State) (n : Nat) (f : Sitting → Sitting) : (s.mapSitting n f).hall.session = s.hall.session := rfl
@[simp] theorem State.mapSitting_hall_sessionNo (s : State) (n : Nat) (f : Sitting → Sitting) : (s.mapSitting n f).hall.sessionNo = s.hall.sessionNo := rfl
@[simp] theorem State.mapSitting_hall_time (s : State) (n : Nat) (f : Sitting → Sitting) : (s.mapSitting n f).hall.time = s.hall.time := rfl
@[simp] theorem State.mapSitting_hall_seats (s : State) (n : Nat) (f : Sitting → Sitting) : (s.mapSitting n f).hall.seats = s.hall.seats := rfl
@[simp] theorem State.mapSitting_hall_masks (s : State) (n : Nat) (f : Sitting → Sitting) : (s.mapSitting n f).hall.masks = s.hall.masks := rfl
@[simp] theorem State.mapSitting_hall_chief (s : State) (n : Nat) (f : Sitting → Sitting) : (s.mapSitting n f).hall.chief = s.hall.chief := rfl
@[simp] theorem State.mapSitting_hall_cands (s : State) (n : Nat) (f : Sitting → Sitting) : (s.mapSitting n f).hall.cands = s.hall.cands := rfl
@[simp] theorem State.mapSitting_hall_drain (s : State) (n : Nat) (f : Sitting → Sitting) : (s.mapSitting n f).hall.drain = s.hall.drain := rfl
@[simp] theorem State.mapSitting_hall_sittings (s : State) (n : Nat) (f : Sitting → Sitting) :
    (s.mapSitting n f).hall.sittings = s.hall.sittings.map (fun x => if x.number = n then f x else x) := rfl

@[simp] theorem State.mapCand_alloc (s : State) (i : Nat) (f : Cand → Cand) : (s.mapCand i f).alloc = s.alloc := rfl
@[simp] theorem State.mapCand_line (s : State) (i : Nat) (f : Cand → Cand) : (s.mapCand i f).line = s.line := rfl
@[simp] theorem State.mapCand_clock (s : State) (i : Nat) (f : Cand → Cand) : (s.mapCand i f).clock = s.clock := rfl
@[simp] theorem State.mapCand_custody (s : State) (i : Nat) (f : Cand → Cand) : (s.mapCand i f).custody = s.custody := rfl
@[simp] theorem State.mapCand_marking (s : State) (i : Nat) (f : Cand → Cand) : (s.mapCand i f).marking = s.marking := rfl
@[simp] theorem State.mapCand_arch (s : State) (i : Nat) (f : Cand → Cand) : (s.mapCand i f).arch = s.arch := rfl
@[simp] theorem State.mapCand_links (s : State) (i : Nat) (f : Cand → Cand) : (s.mapCand i f).links = s.links := rfl
@[simp] theorem State.mapCand_pending (s : State) (i : Nat) (f : Cand → Cand) : (s.mapCand i f).pending = s.pending := rfl
@[simp] theorem State.mapCand_hall_session (s : State) (i : Nat) (f : Cand → Cand) : (s.mapCand i f).hall.session = s.hall.session := rfl
@[simp] theorem State.mapCand_hall_sessionNo (s : State) (i : Nat) (f : Cand → Cand) : (s.mapCand i f).hall.sessionNo = s.hall.sessionNo := rfl
@[simp] theorem State.mapCand_hall_time (s : State) (i : Nat) (f : Cand → Cand) : (s.mapCand i f).hall.time = s.hall.time := rfl
@[simp] theorem State.mapCand_hall_seats (s : State) (i : Nat) (f : Cand → Cand) : (s.mapCand i f).hall.seats = s.hall.seats := rfl
@[simp] theorem State.mapCand_hall_masks (s : State) (i : Nat) (f : Cand → Cand) : (s.mapCand i f).hall.masks = s.hall.masks := rfl
@[simp] theorem State.mapCand_hall_chief (s : State) (i : Nat) (f : Cand → Cand) : (s.mapCand i f).hall.chief = s.hall.chief := rfl
@[simp] theorem State.mapCand_hall_sittings (s : State) (i : Nat) (f : Cand → Cand) : (s.mapCand i f).hall.sittings = s.hall.sittings := rfl
@[simp] theorem State.mapCand_hall_drain (s : State) (i : Nat) (f : Cand → Cand) : (s.mapCand i f).hall.drain = s.hall.drain := rfl
@[simp] theorem State.mapCand_hall_cands (s : State) (i : Nat) (f : Cand → Cand) :
    (s.mapCand i f).hall.cands = s.hall.cands.modify i f := rfl

@[simp] theorem State.mapSlot_hall (s : State) (i : Nat) (f : Slot → Slot) : (s.mapSlot i f).hall = s.hall := rfl
@[simp] theorem State.mapSlot_alloc (s : State) (i : Nat) (f : Slot → Slot) : (s.mapSlot i f).alloc = s.alloc := rfl
@[simp] theorem State.mapSlot_line (s : State) (i : Nat) (f : Slot → Slot) : (s.mapSlot i f).line = s.line := rfl
@[simp] theorem State.mapSlot_clock (s : State) (i : Nat) (f : Slot → Slot) : (s.mapSlot i f).clock = s.clock := rfl
@[simp] theorem State.mapSlot_custody (s : State) (i : Nat) (f : Slot → Slot) : (s.mapSlot i f).custody = s.custody := rfl
@[simp] theorem State.mapSlot_arch (s : State) (i : Nat) (f : Slot → Slot) : (s.mapSlot i f).arch = s.arch := rfl
@[simp] theorem State.mapSlot_links (s : State) (i : Nat) (f : Slot → Slot) : (s.mapSlot i f).links = s.links := rfl
@[simp] theorem State.mapSlot_pending (s : State) (i : Nat) (f : Slot → Slot) : (s.mapSlot i f).pending = s.pending := rfl
@[simp] theorem State.mapSlot_marking_batch (s : State) (i : Nat) (f : Slot → Slot) : (s.mapSlot i f).marking.batch = s.marking.batch := rfl
@[simp] theorem State.mapSlot_marking_order (s : State) (i : Nat) (f : Slot → Slot) : (s.mapSlot i f).marking.order = s.marking.order := rfl
@[simp] theorem State.mapSlot_marking_waiting (s : State) (i : Nat) (f : Slot → Slot) : (s.mapSlot i f).marking.waiting = s.marking.waiting := rfl
@[simp] theorem State.mapSlot_marking_job (s : State) (i : Nat) (f : Slot → Slot) : (s.mapSlot i f).marking.job = s.marking.job := rfl
@[simp] theorem State.mapSlot_marking_slots (s : State) (i : Nat) (f : Slot → Slot) :
    (s.mapSlot i f).marking.slots = s.marking.slots.modify i f := rfl

@[simp] theorem State.mapBatch_hall (s : State) (f : Batch → Batch) : (s.mapBatch f).hall = s.hall := rfl
@[simp] theorem State.mapBatch_alloc (s : State) (f : Batch → Batch) : (s.mapBatch f).alloc = s.alloc := rfl
@[simp] theorem State.mapBatch_line (s : State) (f : Batch → Batch) : (s.mapBatch f).line = s.line := rfl
@[simp] theorem State.mapBatch_clock (s : State) (f : Batch → Batch) : (s.mapBatch f).clock = s.clock := rfl
@[simp] theorem State.mapBatch_custody (s : State) (f : Batch → Batch) : (s.mapBatch f).custody = s.custody := rfl
@[simp] theorem State.mapBatch_arch (s : State) (f : Batch → Batch) : (s.mapBatch f).arch = s.arch := rfl
@[simp] theorem State.mapBatch_links (s : State) (f : Batch → Batch) : (s.mapBatch f).links = s.links := rfl
@[simp] theorem State.mapBatch_pending (s : State) (f : Batch → Batch) : (s.mapBatch f).pending = s.pending := rfl
@[simp] theorem State.mapBatch_marking_slots (s : State) (f : Batch → Batch) : (s.mapBatch f).marking.slots = s.marking.slots := rfl
@[simp] theorem State.mapBatch_marking_order (s : State) (f : Batch → Batch) : (s.mapBatch f).marking.order = s.marking.order := rfl
@[simp] theorem State.mapBatch_marking_waiting (s : State) (f : Batch → Batch) : (s.mapBatch f).marking.waiting = s.marking.waiting := rfl
@[simp] theorem State.mapBatch_marking_job (s : State) (f : Batch → Batch) : (s.mapBatch f).marking.job = s.marking.job := rfl
@[simp] theorem State.mapBatch_marking_batch (s : State) (f : Batch → Batch) :
    (s.mapBatch f).marking.batch = f s.marking.batch := rfl

@[simp] theorem State.setLine_hall (s : State) (c : LineCond) : (s.setLine c).hall = s.hall := rfl
@[simp] theorem State.setLine_alloc (s : State) (c : LineCond) : (s.setLine c).alloc = s.alloc := rfl
@[simp] theorem State.setLine_clock (s : State) (c : LineCond) : (s.setLine c).clock = s.clock := rfl
@[simp] theorem State.setLine_custody (s : State) (c : LineCond) : (s.setLine c).custody = s.custody := rfl
@[simp] theorem State.setLine_marking (s : State) (c : LineCond) : (s.setLine c).marking = s.marking := rfl
@[simp] theorem State.setLine_arch (s : State) (c : LineCond) : (s.setLine c).arch = s.arch := rfl
@[simp] theorem State.setLine_links (s : State) (c : LineCond) : (s.setLine c).links = s.links := rfl
@[simp] theorem State.setLine_pending (s : State) (c : LineCond) : (s.setLine c).pending = s.pending := rfl
@[simp] theorem State.setLine_line_inbox (s : State) (c : LineCond) : (s.setLine c).line.inbox = s.line.inbox := rfl
@[simp] theorem State.setLine_line_groupQueue (s : State) (c : LineCond) : (s.setLine c).line.groupQueue = s.line.groupQueue := rfl
@[simp] theorem State.setLine_line_deliver (s : State) (c : LineCond) : (s.setLine c).line.deliver = s.line.deliver := rfl
@[simp] theorem State.setLine_line_lastServed (s : State) (c : LineCond) : (s.setLine c).line.lastServed = s.line.lastServed := rfl
@[simp] theorem State.setLine_line_lastPolled (s : State) (c : LineCond) : (s.setLine c).line.lastPolled = s.line.lastPolled := rfl
@[simp] theorem State.setLine_line_acked (s : State) (c : LineCond) : (s.setLine c).line.acked = s.line.acked := rfl
@[simp] theorem State.setLine_line_cond (s : State) (c : LineCond) :
    (s.setLine c).line.cond = c := rfl

@[simp] theorem State.markRestEnded_hall (s : State) (i : Nat) : (s.markRestEnded i).hall = s.hall := rfl
@[simp] theorem State.markRestEnded_alloc (s : State) (i : Nat) : (s.markRestEnded i).alloc = s.alloc := rfl
@[simp] theorem State.markRestEnded_line (s : State) (i : Nat) : (s.markRestEnded i).line = s.line := rfl
@[simp] theorem State.markRestEnded_custody (s : State) (i : Nat) : (s.markRestEnded i).custody = s.custody := rfl
@[simp] theorem State.markRestEnded_marking (s : State) (i : Nat) : (s.markRestEnded i).marking = s.marking := rfl
@[simp] theorem State.markRestEnded_arch (s : State) (i : Nat) : (s.markRestEnded i).arch = s.arch := rfl
@[simp] theorem State.markRestEnded_links (s : State) (i : Nat) : (s.markRestEnded i).links = s.links := rfl
@[simp] theorem State.markRestEnded_pending (s : State) (i : Nat) : (s.markRestEnded i).pending = s.pending := rfl
@[simp] theorem State.markRestEnded_clock_hallPause (s : State) (i : Nat) : (s.markRestEnded i).clock.hallPause = s.clock.hallPause := rfl
@[simp] theorem State.markRestEnded_clock_ahead (s : State) (i : Nat) : (s.markRestEnded i).clock.ahead = s.clock.ahead := rfl
@[simp] theorem State.markRestEnded_clock_restEnded (s : State) (i : Nat) :
    (s.markRestEnded i).clock.restEnded = s.clock.restEnded ++ [i] := rfl

@[simp] theorem State.mapEntry_hall (s : State) (t : Nat) (f : Custody → Custody) : (s.mapEntry t f).hall = s.hall := rfl
@[simp] theorem State.mapEntry_alloc (s : State) (t : Nat) (f : Custody → Custody) : (s.mapEntry t f).alloc = s.alloc := rfl
@[simp] theorem State.mapEntry_line (s : State) (t : Nat) (f : Custody → Custody) : (s.mapEntry t f).line = s.line := rfl
@[simp] theorem State.mapEntry_clock (s : State) (t : Nat) (f : Custody → Custody) : (s.mapEntry t f).clock = s.clock := rfl
@[simp] theorem State.mapEntry_marking (s : State) (t : Nat) (f : Custody → Custody) : (s.mapEntry t f).marking = s.marking := rfl
@[simp] theorem State.mapEntry_arch (s : State) (t : Nat) (f : Custody → Custody) : (s.mapEntry t f).arch = s.arch := rfl
@[simp] theorem State.mapEntry_links (s : State) (t : Nat) (f : Custody → Custody) : (s.mapEntry t f).links = s.links := rfl
@[simp] theorem State.mapEntry_pending (s : State) (t : Nat) (f : Custody → Custody) : (s.mapEntry t f).pending = s.pending := rfl
@[simp] theorem State.mapEntry_custody (s : State) (t : Nat) (f : Custody → Custody) :
    (s.mapEntry t f).custody = s.custody.map (fun e => if e.script = t then f e else e) := rfl

@[simp] theorem State.mapPort_hall (s : State) (p : Port) (f : PortState → PortState) :
    (s.mapPort p f).hall = s.hall := rfl
@[simp] theorem State.mapPort_alloc (s : State) (p : Port) (f : PortState → PortState) :
    (s.mapPort p f).alloc = s.alloc := rfl
@[simp] theorem State.mapPort_line (s : State) (p : Port) (f : PortState → PortState) :
    (s.mapPort p f).line = s.line := rfl
@[simp] theorem State.mapPort_clock (s : State) (p : Port) (f : PortState → PortState) :
    (s.mapPort p f).clock = s.clock := rfl
@[simp] theorem State.mapPort_custody (s : State) (p : Port) (f : PortState → PortState) :
    (s.mapPort p f).custody = s.custody := rfl
@[simp] theorem State.mapPort_marking (s : State) (p : Port) (f : PortState → PortState) :
    (s.mapPort p f).marking = s.marking := rfl
@[simp] theorem State.mapPort_arch (s : State) (p : Port) (f : PortState → PortState) :
    (s.mapPort p f).arch = s.arch := rfl
@[simp] theorem State.mapPort_pending (s : State) (p : Port) (f : PortState → PortState) :
    (s.mapPort p f).pending = s.pending := rfl
@[simp] theorem State.mapPort_links (s : State) (p : Port) (f : PortState → PortState) :
    (s.mapPort p f).links = s.links.set p (f (s.port p)) := rfl

@[simp] theorem State.mapArch_hall (s : State) (f : Archive → Archive) : (s.mapArch f).hall = s.hall := rfl
@[simp] theorem State.mapArch_alloc (s : State) (f : Archive → Archive) : (s.mapArch f).alloc = s.alloc := rfl
@[simp] theorem State.mapArch_line (s : State) (f : Archive → Archive) : (s.mapArch f).line = s.line := rfl
@[simp] theorem State.mapArch_clock (s : State) (f : Archive → Archive) : (s.mapArch f).clock = s.clock := rfl
@[simp] theorem State.mapArch_custody (s : State) (f : Archive → Archive) : (s.mapArch f).custody = s.custody := rfl
@[simp] theorem State.mapArch_marking (s : State) (f : Archive → Archive) : (s.mapArch f).marking = s.marking := rfl
@[simp] theorem State.mapArch_links (s : State) (f : Archive → Archive) : (s.mapArch f).links = s.links := rfl
@[simp] theorem State.mapArch_pending (s : State) (f : Archive → Archive) : (s.mapArch f).pending = s.pending := rfl

@[simp] theorem State.mapPlane_hall (s : State) (p : PlaneId) (f : Plane → Plane) : (s.mapPlane p f).hall = s.hall := rfl
@[simp] theorem State.mapPlane_alloc (s : State) (p : PlaneId) (f : Plane → Plane) : (s.mapPlane p f).alloc = s.alloc := rfl
@[simp] theorem State.mapPlane_line (s : State) (p : PlaneId) (f : Plane → Plane) : (s.mapPlane p f).line = s.line := rfl
@[simp] theorem State.mapPlane_clock (s : State) (p : PlaneId) (f : Plane → Plane) : (s.mapPlane p f).clock = s.clock := rfl
@[simp] theorem State.mapPlane_custody (s : State) (p : PlaneId) (f : Plane → Plane) : (s.mapPlane p f).custody = s.custody := rfl
@[simp] theorem State.mapPlane_marking (s : State) (p : PlaneId) (f : Plane → Plane) : (s.mapPlane p f).marking = s.marking := rfl
@[simp] theorem State.mapPlane_links (s : State) (p : PlaneId) (f : Plane → Plane) : (s.mapPlane p f).links = s.links := rfl
@[simp] theorem State.mapPlane_pending (s : State) (p : PlaneId) (f : Plane → Plane) : (s.mapPlane p f).pending = s.pending := rfl

@[simp] theorem State.mapMem_hall (s : State) (f : List Host.Cell → List Host.Cell) : (s.mapMem f).hall = s.hall := rfl
@[simp] theorem State.mapMem_alloc (s : State) (f : List Host.Cell → List Host.Cell) : (s.mapMem f).alloc = s.alloc := rfl
@[simp] theorem State.mapMem_line (s : State) (f : List Host.Cell → List Host.Cell) : (s.mapMem f).line = s.line := rfl
@[simp] theorem State.mapMem_clock (s : State) (f : List Host.Cell → List Host.Cell) : (s.mapMem f).clock = s.clock := rfl
@[simp] theorem State.mapMem_custody (s : State) (f : List Host.Cell → List Host.Cell) : (s.mapMem f).custody = s.custody := rfl
@[simp] theorem State.mapMem_marking (s : State) (f : List Host.Cell → List Host.Cell) : (s.mapMem f).marking = s.marking := rfl
@[simp] theorem State.mapMem_links (s : State) (f : List Host.Cell → List Host.Cell) : (s.mapMem f).links = s.links := rfl
@[simp] theorem State.mapMem_pending (s : State) (f : List Host.Cell → List Host.Cell) : (s.mapMem f).pending = s.pending := rfl

@[simp] theorem State.mapArch_arch (s : State) (f : Archive → Archive) : (s.mapArch f).arch = f s.arch := rfl
@[simp] theorem State.mapMem_arch (s : State) (f : List Host.Cell → List Host.Cell) :
    (s.mapMem f).arch = { s.arch with mem := f s.arch.mem } := rfl
@[simp] theorem State.mapPlane_arch (s : State) (p : PlaneId) (f : Plane → Plane) :
    (s.mapPlane p f).arch = s.arch.setPlane p (f (s.arch.plane p)) := rfl

/-! ## Ports -/

@[simp] theorem Links.port_set (l : Links) (p : Port) (v : PortState) : (l.set p v).port p = v := by
  rcases p with d | _ | _
  · cases d <;> rfl
  · rfl
  · rfl

theorem Links.port_set_of_ne (l : Links) {p q : Port} (v : PortState) (h : q ≠ p) :
    (l.set p v).port q = l.port q := by
  rcases p with d | _ | _ <;> rcases q with e | _ | _
  · cases d <;> cases e <;> first | rfl | exact absurd rfl h
  all_goals first | rfl | (cases d; all_goals rfl) | (cases e; all_goals rfl) | exact absurd rfl h

@[simp] theorem Links.set_set (l : Links) (p : Port) (v w : PortState) : (l.set p v).set p w = l.set p w := by
  rcases p with d | _ | _
  · cases d <;> rfl
  · rfl
  · rfl

@[simp] theorem State.mapPort_port (s : State) (p : Port) (f : PortState → PortState) :
    (s.mapPort p f).port p = f (s.port p) := Links.port_set ..

theorem State.mapPort_port_of_ne (s : State) {p q : Port} (f : PortState → PortState) (h : q ≠ p) :
    (s.mapPort p f).port q = s.port q := Links.port_set_of_ne _ _ h

@[simp] theorem State.mapPort_mapPort (s : State) (p : Port) (f g : PortState → PortState) :
    (s.mapPort p f).mapPort p g = s.mapPort p (fun ps => g (f ps)) := by
  simp [State.mapPort]

/-! ## Planes -/

@[simp] theorem Archive.plane_setPlane (a : Archive) (p : PlaneId) (v : Plane) : (a.setPlane p v).plane p = v := by
  cases p <;> rfl

theorem Archive.plane_setPlane_of_ne (a : Archive) {p q : PlaneId} (v : Plane) (h : q ≠ p) :
    (a.setPlane p v).plane q = a.plane q := by
  cases p <;> cases q <;> first | rfl | exact absurd rfl h

@[simp] theorem Archive.setPlane_mem (a : Archive) (p : PlaneId) (v : Plane) : (a.setPlane p v).mem = a.mem := by
  cases p <;> rfl
@[simp] theorem Archive.setPlane_queue (a : Archive) (p : PlaneId) (v : Plane) : (a.setPlane p v).queue = a.queue := by
  cases p <;> rfl
@[simp] theorem Archive.setPlane_seqCounter (a : Archive) (p : PlaneId) (v : Plane) : (a.setPlane p v).seqCounter = a.seqCounter := by
  cases p <;> rfl
@[simp] theorem Archive.setPlane_lastStored (a : Archive) (p : PlaneId) (v : Plane) : (a.setPlane p v).lastStored = a.lastStored := by
  cases p <;> rfl
@[simp] theorem Archive.setPlane_exported (a : Archive) (p : PlaneId) (v : Plane) : (a.setPlane p v).exported = a.exported := by
  cases p <;> rfl
@[simp] theorem Archive.setPlane_lost (a : Archive) (p : PlaneId) (v : Plane) : (a.setPlane p v).lost = a.lost := by
  cases p <;> rfl
@[simp] theorem Archive.setPlane_torn (a : Archive) (p : PlaneId) (v : Plane) : (a.setPlane p v).torn = a.torn := by
  cases p <;> rfl
@[simp] theorem Archive.setPlane_scan (a : Archive) (p : PlaneId) (v : Plane) : (a.setPlane p v).scan = a.scan := by
  cases p <;> rfl
@[simp] theorem Archive.setPlane_disturbances (a : Archive) (p : PlaneId) (v : Plane) : (a.setPlane p v).disturbances = a.disturbances := by
  cases p <;> rfl

/-! ## Records found after an update -/

@[simp] theorem State.mapCand_cand? (s : State) (i j : Nat) (f : Cand → Cand) :
    (s.mapCand i f).cand? j = if i = j then (s.cand? j).map f else s.cand? j := by
  simp only [State.cand?, State.mapCand_hall_cands, List.getElem?_modify]
  split <;> simp [*]

@[simp] theorem State.mapSeat_cand? (s : State) (n i : Nat) (f : Seat → Seat) :
    (s.mapSeat n f).cand? i = s.cand? i := rfl

@[simp] theorem State.mapSitting_cand? (s : State) (n i : Nat) (f : Sitting → Sitting) :
    (s.mapSitting n f).cand? i = s.cand? i := rfl

@[simp] theorem State.mapSeat_sitting? (s : State) (n m : Nat) (f : Seat → Seat) :
    (s.mapSeat n f).sitting? m = s.sitting? m := rfl

@[simp] theorem State.mapCand_sitting? (s : State) (i m : Nat) (f : Cand → Cand) :
    (s.mapCand i f).sitting? m = s.sitting? m := rfl

@[simp] theorem State.mapCand_seat? (s : State) (i n : Nat) (f : Cand → Cand) :
    (s.mapCand i f).seat? n = s.seat? n := rfl

@[simp] theorem State.mapSitting_seat? (s : State) (m n : Nat) (f : Sitting → Sitting) :
    (s.mapSitting m f).seat? n = s.seat? n := rfl

/-- A list's first match of a key after a change that keeps keys. -/
theorem find?_map_key {α : Type} (key : α → Nat) (f : α → α) (hf : ∀ x, key (f x) = key x) (n m : Nat)
    (l : List α) :
    (l.map (fun x => if key x = n then f x else x)).find? (fun x => key x == m) =
      if n = m then (l.find? (fun x => key x == m)).map f else l.find? (fun x => key x == m) := by
  induction l with
  | nil => simp
  | cons a l ih =>
    by_cases ha : key a = n
    · by_cases hm : n = m
      · subst hm; simp [ha, hf]
      · have : ¬ key a = m := fun h => hm (ha.symm.trans h)
        simp [ha, hf, hm, ih]
    · by_cases hm : n = m
      · subst hm; simp [ha, ih]
      · by_cases hk : key a = m
        · subst hk; simp [ha, hm]
        · simp [ha, hm, hk, ih]

theorem State.mapSeat_seat? (s : State) (n m : Nat) (f : Seat → Seat) (hf : ∀ x, (f x).seat = x.seat) :
    (s.mapSeat n f).seat? m = if n = m then (s.seat? m).map f else s.seat? m :=
  find?_map_key Seat.seat f hf n m s.hall.seats

theorem State.mapSitting_sitting? (s : State) (n m : Nat) (f : Sitting → Sitting)
    (hf : ∀ x, (f x).number = x.number) :
    (s.mapSitting n f).sitting? m = if n = m then (s.sitting? m).map f else s.sitting? m :=
  find?_map_key Sitting.number f hf n m s.hall.sittings

theorem State.mapEntry_entry? (s : State) (t u : Nat) (f : Custody → Custody)
    (hf : ∀ e, (f e).script = e.script) :
    (s.mapEntry t f).entry? u = if t = u then (s.entry? u).map f else s.entry? u :=
  find?_map_key Custody.script f hf t u s.custody

end Sys2Proof.Machine
end

