-- ==== Sys2Proof/Laws/Ops.lean ====
section
/-! SUPPORT. What the shared operations can do: each leaves the queue of waiting commands and the
archive's memory as they were, and keeps the bounds of the manual (`Calm`); and for the queues, exactly
what joins them. -/

namespace Sys2Proof.Machine

/-! ## Calm -/

/-- From one state to another nothing waits anew, no byte of the archive changes, and the bounds are
kept. -/
structure Calm (s t : State) : Prop where
  pending : t.pending = s.pending
  mem : t.arch.mem = s.arch.mem
  bounded : s.Bounded → t.Bounded

theorem Calm.refl (s : State) : Calm s s := ⟨rfl, rfl, id⟩

theorem Calm.trans {s t u : State} (h : Calm s t) (g : Calm t u) : Calm s u :=
  ⟨g.pending.trans h.pending, g.mem.trans h.mem, fun b => g.bounded (h.bounded b)⟩

/-- Calm through a fold of calm steps. -/
theorem Calm.foldl {α : Type} {f : State → α → State} (hf : ∀ s a, Calm s (f s a)) (l : List α) :
    ∀ s, Calm s (l.foldl f s) := by
  induction l with
  | nil => exact Calm.refl
  | cons a l ih => exact fun s => (hf s a).trans (ih (f s a))

/-- A change of records alone is calm. -/
theorem Calm.records {s t : State} (hp : t.pending = s.pending) (ha : t.arch = s.arch)
    (hk : t.links = s.links) (hl : t.line = s.line) (hc : t.custody.length = s.custody.length)
    (hn : t.hall.cands.length = s.hall.cands.length) (ht : t.hall.time = s.hall.time) : Calm s t := by
  refine ⟨hp, by rw [ha], fun b => ⟨?_, ?_, ?_, ?_, ?_, ?_, ?_, ?_, ?_⟩⟩
  · rw [hl]; exact b.inbox
  · rw [hl]; exact b.groupQueue
  · intro p; have := b.notices p; rw [State.port] at this ⊢; rw [hk]; exact this
  · rw [ha]; exact b.queue
  · rw [ha]; exact b.results
  · rw [hc]; exact b.custody
  · rw [hn]; exact b.cands
  · rw [ht]; exact b.time
  · rw [ha]; exact b.lost

theorem State.mapSeat_calm (s : State) (n : Nat) (f : Seat → Seat) : Calm s (s.mapSeat n f) :=
  Calm.records rfl rfl rfl rfl rfl rfl rfl

theorem State.mapSitting_calm (s : State) (n : Nat) (f : Sitting → Sitting) : Calm s (s.mapSitting n f) :=
  Calm.records rfl rfl rfl rfl rfl rfl rfl

theorem State.mapCand_calm (s : State) (i : Nat) (f : Cand → Cand) : Calm s (s.mapCand i f) :=
  Calm.records rfl rfl rfl rfl rfl (by simp) rfl

theorem State.mapEntry_calm (s : State) (t : Nat) (f : Custody → Custody) : Calm s (s.mapEntry t f) :=
  Calm.records rfl rfl rfl rfl (by simp) rfl rfl

theorem State.mapSlot_calm (s : State) (i : Nat) (f : Slot → Slot) : Calm s (s.mapSlot i f) :=
  Calm.records rfl rfl rfl rfl rfl rfl rfl

theorem State.mapBatch_calm (s : State) (f : Batch → Batch) : Calm s (s.mapBatch f) :=
  Calm.records rfl rfl rfl rfl rfl rfl rfl

/-! ## Ports and notices (R171) -/

/-- A change of one port that keeps its notice queue within bounds is calm. -/
theorem State.mapPort_calm (s : State) (p : Port) (f : PortState → PortState)
    (h : ∀ ps, ps.notices.length ≤ 32 → (f ps).notices.length ≤ 32) : Calm s (s.mapPort p f) := by
  refine ⟨rfl, rfl, fun b => ⟨b.inbox, b.groupQueue, fun q => ?_, b.queue, b.results, b.custody, b.cands,
    b.time, b.lost⟩⟩
  by_cases hq : q = p
  · subst hq; rw [State.mapPort_port]; exact h _ (b.notices q)
  · rw [State.mapPort_port_of_ne s f hq]; exact b.notices q

/-- A notice joins the tail of a queue with room; a full queue keeps its notices and the flag is set. -/
theorem PortState.notify_notices (ps : PortState) (n : Notice) :
    (ps.notify n).notices = if ps.notices.length < 32 then ps.notices ++ [n] else ps.notices := by
  simp only [PortState.notify, Config.noticeQueueSize]
  by_cases h : ps.notices.length < 32 <;> simp [h]

theorem PortState.notify_bound (ps : PortState) (n : Notice) (h : ps.notices.length ≤ 32) :
    (ps.notify n).notices.length ≤ 32 := by
  rw [PortState.notify_notices]
  split
  · simp; omega
  · exact h

theorem State.notify_calm (s : State) (p : Port) (n : Notice) : Calm s (s.notify p n) :=
  State.mapPort_calm s p _ (fun ps h => PortState.notify_bound ps n h)

theorem State.notifyWhere_calm (s : State) (q : Desk → Bool) (n : Notice) : Calm s (s.notifyWhere q n) :=
  Calm.foldl (fun s d => by split; exacts [State.notify_calm .., Calm.refl _]) _ s

theorem State.notifyZone_calm (s : State) (z : Nat) (n : Notice) : Calm s (s.notifyZone z n) :=
  State.notifyWhere_calm ..

theorem State.notifyDesks_calm (s : State) (n : Notice) : Calm s (s.notifyDesks n) := State.notifyWhere_calm ..

/-! ## Displays -/

theorem State.writeDisplay_calm (s : State) (n : Nat) (f : Display → Display) : Calm s (s.writeDisplay n f) :=
  State.mapSeat_calm ..

theorem State.writeCode_calm (s : State) (n : Nat) (c : DispCode) (a : Nat) : Calm s (s.writeCode n c a) :=
  State.mapSeat_calm ..

theorem State.showAt_calm (s : State) (n i : Nat) (c : Option DispCode) : Calm s (s.showAt n i c) := by
  unfold State.showAt
  split
  · exact State.writeDisplay_calm ..
  · exact State.writeCode_calm ..
  · exact Calm.refl _

theorem State.showCand_calm (s : State) (i : Nat) (c : Option DispCode) : Calm s (s.showCand i c) := by
  unfold State.showCand
  split
  · exact Calm.refl _
  · exact State.showAt_calm ..

theorem State.lampOff_calm (s : State) (o : Option Nat) : Calm s (s.lampOff o) := by
  unfold State.lampOff
  split
  · exact Calm.refl _
  · exact State.writeDisplay_calm ..

/-! ## The archive queue and the pipelines (R147 to R149) -/

/-- The pipeline of a plane changes that plane alone. -/
structure PlaneOnly (p : PlaneId) (a b : Archive) : Prop where
  eq : b = a.setPlane p (b.plane p)

theorem Archive.setPlane_plane (a : Archive) (p : PlaneId) : a.setPlane p (a.plane p) = a := by
  cases p <;> rfl

theorem Archive.setPlane_setPlane (a : Archive) (p : PlaneId) (v w : Plane) :
    (a.setPlane p v).setPlane p w = a.setPlane p w := by cases p <;> rfl

theorem PlaneOnly.refl (p : PlaneId) (a : Archive) : PlaneOnly p a a := ⟨(a.setPlane_plane p).symm⟩

theorem PlaneOnly.set (p : PlaneId) (a : Archive) (v : Plane) : PlaneOnly p a (a.setPlane p v) := ⟨by simp⟩

theorem PlaneOnly.trans {p : PlaneId} {a b c : Archive} (h : PlaneOnly p a b) (g : PlaneOnly p b c) :
    PlaneOnly p a c := ⟨by
  have hb := h.eq
  have hc := g.eq
  rw [hb, Archive.setPlane_setPlane] at hc
  exact hc⟩

theorem Archive.fillStaging_only (a : Archive) (p : PlaneId) : PlaneOnly p a (a.fillStaging p) := by
  unfold Archive.fillStaging
  split
  · exact PlaneOnly.refl ..
  · exact PlaneOnly.set ..

theorem Archive.fillProgram_only (a : Archive) (p : PlaneId) : PlaneOnly p a (a.fillProgram p) := by
  unfold Archive.fillProgram
  split
  · exact (PlaneOnly.set ..).trans (Archive.fillStaging_only ..)
  · exact PlaneOnly.refl ..

theorem Archive.startProgram_only (a : Archive) (p : PlaneId) : PlaneOnly p a (a.startProgram p) := by
  simp only [Archive.startProgram]
  split
  · exact PlaneOnly.set ..
  · exact PlaneOnly.refl ..

/-- What the pipeline of a plane changes: that plane, and nothing else of the archive. -/
theorem Archive.pump_only (a : Archive) (p : PlaneId) : PlaneOnly p a (a.pump p) :=
  ((a.fillStaging_only p).trans (Archive.fillProgram_only ..)).trans (Archive.startProgram_only ..)

/-- A change of one plane leaves the archive's memory, queue, counters and marks. -/
theorem PlaneOnly.fields {p : PlaneId} {a b : Archive} (h : PlaneOnly p a b) :
    b.mem = a.mem ∧ b.queue = a.queue ∧ b.seqCounter = a.seqCounter ∧ b.lastStored = a.lastStored
      ∧ b.exported = a.exported ∧ b.lost = a.lost ∧ b.torn = a.torn ∧ b.scan = a.scan
      ∧ b.disturbances = a.disturbances := by
  rw [h.eq]; simp

/-- A change of the archive that keeps its memory and its bounds is calm. -/
theorem State.arch_calm (s : State) (a : Archive) (hm : a.mem = s.arch.mem)
    (hb : s.Bounded → a.queue.length ≤ 32 ∧ a.results ≤ 24 ∧ a.lost ≤ 65535) : Calm s { s with arch := a } :=
  ⟨rfl, hm, fun b => ⟨b.inbox, b.groupQueue, b.notices, (hb b).1, (hb b).2.1, b.custody, b.cands, b.time,
    (hb b).2.2⟩⟩

/-- A change of one plane is calm. -/
theorem State.plane_calm (s : State) (p : PlaneId) {a : Archive} (h : PlaneOnly p s.arch a) :
    Calm s { s with arch := a } := by
  obtain ⟨hm, hq, -, -, -, hl, -⟩ := h.fields
  refine State.arch_calm s a hm (fun b => ⟨hq ▸ b.queue, ?_, hl ▸ b.lost⟩)
  have := b.results
  simp only [Archive.results] at this ⊢
  rw [hq]
  exact this

theorem State.stallAlertAt_calm (s : State) (p : PlaneId) (now : Nat) : Calm s (s.stallAlertAt p now) := by
  simp only [State.stallAlertAt]
  split
  · have h := State.plane_calm s p
      (PlaneOnly.set p s.arch { s.arch.plane p with stallAlertDue := false })
    split
    · exact h.trans (State.notify_calm ..)
    · exact h
  · exact Calm.refl _

/-- The record that a queueing makes (R147). -/
def State.newRecord (s : State) (kind : RecordKind) (body : List Field) : ArchRecord :=
  { seq := s.arch.seqCounter, kind := kind, gap := s.arch.lost, body := body }

/-- The archive after a queueing, before the plane's pipeline takes what it can (R147). -/
def State.queued (s : State) (kind : RecordKind) (body : List Field) : Archive :=
  { s.arch with queue := s.arch.queue ++ [s.newRecord kind body], seqCounter := s.arch.seqCounter + 1,
                lost := 0 }

/-- A stall notice changes no more than the notice queue of G and the mark that owes it. -/
theorem State.stallAlertAt_arch (s : State) (p : PlaneId) (now : Nat) :
    PlaneOnly p s.arch (s.stallAlertAt p now).arch := by
  simp only [State.stallAlertAt]
  split
  · split
    · exact PlaneOnly.set ..
    · exact PlaneOnly.set ..
  · exact PlaneOnly.refl ..

/-- What a queueing does to the archive (R147): the record joins the tail with the counter's number and
the lost-record count, the counter goes up and the count is cleared; beside that only the plane the
record is bound for changes. -/
theorem State.enqueue_arch (s : State) (kind : RecordKind) (body : List Field) (now : Nat) :
    PlaneOnly (planeOf s.arch.seqCounter) (s.queued kind body) (s.enqueue kind body now).arch :=
  ((s.queued kind body).pump_only _).trans
    (State.stallAlertAt_arch { s with arch := (s.queued kind body).pump (planeOf s.arch.seqCounter) } _ now)

/-- The RESULT records of a queue with one record more. -/
theorem results_append (a : Archive) (r : ArchRecord) :
    (({ a with queue := a.queue ++ [r] } : Archive)).results = a.results + if r.kind = .result then 1 else 0 := by
  simp only [Archive.results, List.filter_append, List.length_append]
  by_cases h : r.kind = .result <;> simp [h]

/-- A queueing is calm when the queue can take the record. -/
theorem State.enqueue_calm (s : State) (kind : RecordKind) (body : List Field) (now : Nat)
    (h : s.arch.canTake = true) (hr : kind = .result → s.arch.canTakeResult = true) :
    Calm s (s.enqueue kind body now) := by
  have hq : s.arch.queue.length < 32 := of_decide_eq_true h
  have h1 : Calm s { s with arch := s.queued kind body } := by
    refine State.arch_calm s _ rfl (fun b => ⟨by simp [State.queued]; omega, ?_, Nat.zero_le _⟩)
    have hres : (s.queued kind body).results = s.arch.results + if kind = .result then 1 else 0 :=
      results_append _ _
    rw [hres]
    split
    · next hk =>
      have := hr hk
      have hlt : s.arch.results < 24 := of_decide_eq_true (Bool.and_eq_true _ _ ▸ this).2
      omega
    · exact b.results
  have h2 := State.plane_calm { s with arch := s.queued kind body } (planeOf s.arch.seqCounter)
    ((s.queued kind body).pump_only _)
  exact h1.trans (h2.trans (State.stallAlertAt_calm ..))

theorem State.dropRecord_calm (s : State) (kind : RecordKind) (now : Nat) : Calm s (s.dropRecord kind now) := by
  have h : Calm s { s with arch := { s.arch with lost := min 65535 (s.arch.lost + 1) } } :=
    State.arch_calm s _ rfl (fun b => ⟨b.queue, b.results, Nat.min_le_left ..⟩)
  exact h.trans (State.notify_calm ..)

/-- A non-result record offered is calm. -/
theorem State.offer_calm (s : State) (kind : RecordKind) (body : List Field) (now : Nat) (hk : kind ≠ .result) :
    Calm s (s.offer kind body now) := by
  unfold State.offer
  split
  · next h => exact State.enqueue_calm s kind body now h (fun e => absurd e hk)
  · exact State.dropRecord_calm ..

/-! ## Candidates, sittings and seats -/

theorem State.setCandState_calm (s : State) (i : Nat) (st : CandState) : Calm s (s.setCandState i st) := by
  unfold State.setCandState
  split
  · exact Calm.refl _
  · exact (State.mapCand_calm ..).trans (State.mapSitting_calm ..)

theorem State.closedTest_calm (s : State) (n : Nat) : Calm s (s.closedTest n) := by
  unfold State.closedTest
  split
  · exact Calm.refl _
  · split
    · exact (State.mapSitting_calm ..).trans (State.offer_calm _ _ _ _ (by decide))
    · exact Calm.refl _

theorem State.sittingTests_calm (s : State) (n : Nat) : Calm s (s.sittingTests n) := by
  unfold State.sittingTests
  split
  · exact Calm.refl _
  · split
    · exact (State.mapSitting_calm ..).trans (State.closedTest_calm ..)
    · exact State.closedTest_calm ..

theorem State.releaseCand_calm (s : State) (i : Nat) : Calm s (s.releaseCand i) := by
  unfold State.releaseCand
  split
  · exact Calm.refl _
  · exact (State.mapSeat_calm ..).trans (State.mapCand_calm ..)

theorem State.place_calm (s : State) (i n : Nat) (f : Display → Display) : Calm s (s.place i n f) :=
  (State.mapSeat_calm ..).trans (State.mapCand_calm ..)

theorem State.offerCustodyClose_calm (s : State) (i : Nat) (a : Bool) : Calm s (s.offerCustodyClose i a) := by
  unfold State.offerCustodyClose
  split
  · exact Calm.refl _
  · exact State.offer_calm _ _ _ _ (by decide)

theorem State.collectionTest_calm (s : State) (i : Nat) : Calm s (s.collectionTest i) := by
  simp only [State.collectionTest]
  split
  · split
    · exact Calm.refl _
    · exact ((((State.setCandState_calm ..).trans (State.mapCand_calm ..)).trans
        (State.releaseCand_calm ..)).trans (State.offerCustodyClose_calm ..)).trans (State.sittingTests_calm ..)
  · exact Calm.refl _

theorem State.notifyCollect_calm (s : State) (i : Nat) : Calm s (s.notifyCollect i) := by
  unfold State.notifyCollect
  split
  · exact Calm.refl _
  · split
    · exact Calm.refl _
    · exact State.notifyZone_calm ..

theorem State.finishCand_calm (s : State) (i : Nat) (cause : FinishCause) : Calm s (s.finishCand i cause) := by
  simp only [State.finishCand]
  split
  · exact Calm.refl _
  · exact (((((State.setCandState_calm ..).trans (State.mapCand_calm ..)).trans
      (State.showCand_calm ..)).trans (State.notifyCollect_calm ..)).trans
        (State.collectionTest_calm ..)).trans (State.sittingTests_calm ..)

theorem State.markRestEnded_calm (s : State) (i : Nat) : Calm s (s.markRestEnded i) :=
  Calm.records rfl rfl rfl rfl rfl rfl rfl

/-- The end of a rest leaves the waiting commands and the archive's memory, and keeps the bounds (R73, R90). -/
theorem State.leaveRest_calm (s : State) (i n : Nat) (code : Option DispCode) : Calm s (s.leaveRest i n code) :=
  (((State.setCandState_calm s i .writing).trans (State.showCand_calm _ i code)).trans
    (State.markRestEnded_calm _ i)).trans (State.sittingTests_calm _ n)

/-! ## Intake (R165) -/

/-- A good frame on a port that is ready is taken at once: the command is judged and its reply is in the
slot (R165, R166). -/
theorem State.arrive_ready {s : State} {p : Port} {tag : Byte} (c : Cmd) (h : s.ready p tag) :
    s.arrive p tag c = (s.judge p c).state.replied p tag c (s.judge p c).result (s.judge p c).fields := by
  obtain ⟨-, hi, hb, ht⟩ := h
  simp only [State.arrive, State.intake, hi, hb, if_neg ht]
  rfl

/-- The gates a command passes when the scan is over (R166). -/
theorem State.gate_none {s : State} {p : Port} {c : Cmd} (hs : s.arch.scan = none)
    (hu : Cmd.isUnknown c = false) (hr : roleTakes p c.code = true) (hl : Cmd.isBadLength c = false)
    (hst : sessionTakes c s.hall.session = true) : s.gate p c = none := by
  simp [State.gate, State.scanning, hs, hu, hr, hl, hst]

end Sys2Proof.Machine
end

