-- ==== Sys2Proof/Tests/Slice0.lean ====
section
/-! SUPPORT. Tests: the well-formedness smoke test, and cases the manual works out, by rule or section. -/

namespace Sys2Proof.Tests
open Sys2Proof.Machine

/-! ## Well-formedness: an ill-formed term for each check -/

theorem smoke_tag_zero : (Instr.sessionGo .g 0x00).wf = false := by decide
theorem smoke_session : (Instr.sessionOpen .g 1 65536 0).wf = false := by decide
theorem smoke_seat : (Instr.seatDefine .g 1 1 256 1 0 0).wf = false := by decide
theorem smoke_grant : (Instr.zoneGrant .g 1 0 256 0).wf = false := by decide
theorem smoke_sitting : (Instr.sittingDefine .g 1 ⟨1, [65], 60, 0, 0, 1, [0], 1, 0, 0, 0, 0⟩).wf = false := by decide
theorem smoke_cue : (Instr.cueDefine .g 1 1 0 0 65536 0).wf = false := by decide
theorem smoke_layout : (Instr.layoutDefine .g 1 1 5 [1, 1, 1, 1, 1]).wf = false := by decide
theorem smoke_candidate : (Instr.candidateAdd .g 1 (2 ^ 32) 1 0 0 0).wf = false := by decide
theorem smoke_key_item : (Instr.keyItem .g 1 ⟨1, 1, 0, 256, 4, 1, 0, 0, 0⟩).wf = false := by decide
theorem smoke_return_tags : (Instr.returnTags (.desk .d0) 1 0 []).wf = false := by decide
theorem smoke_page : (Instr.page .k 1 ⟨80000000, 0, 0, 1, 1, 1, [.column 1 [0x400]]⟩).wf = false := by decide
theorem smoke_page_size : (Instr.page .k 1 ⟨80000000, 0, 0, 1, 1, 17, List.replicate 17 (.column 6 (List.replicate 6 0))⟩).wf = false := by decide
theorem smoke_sitting_event : (Instr.readingEnd 13).wf = false := by decide
theorem smoke_cand_event : (Instr.expiry 640).wf = false := by decide
theorem smoke_seat_event : (Instr.seatPollDue 0).wf = false := by decide
theorem smoke_block : (Instr.scanBlockClassify .p0 128).wf = false := by decide
theorem smoke_report : (Instr.seatReportStart []).wf = false := by decide
theorem smoke_report_fields : (Instr.seatReportStart [⟨1024, 3, 0, [], 0⟩]).wf = false := by decide
theorem smoke_cmd_unknown : (Cmd.unknown 0x50).wf = false := by decide
theorem smoke_malformed : (Response.malformed).wf = false := by decide

/-- The table gives no row any bits, so no word spells a row. -/
theorem test_decode_table (n w : Nat) : Sys2Proof.decodeTableWord n w = none := rfl

/-! ## Encodings (Chapter 11) -/

/-- R164: over the nine characters "123456789" the CRC gives 29B1h. -/
theorem test_crc16 : crc16 [0x31, 0x32, 0x33, 0x34, 0x35, 0x36, 0x37, 0x38, 0x39] = 0x29B1#16 := by decide +kernel

/-- The frame of PORT_STATUS: SYNC, LEN 2, TAG, CODE 70h, CRC (R178), and back (R166). -/
theorem test_frame : ((Cmd.portStatus).frame 1).take 4 = [0xA5, 0x02, 0x01, 0x70] ∧ decodeCommand 0x70 [] = .portStatus := by
  decide

/-- R178, R177: FINISH is 29h with a 4-byte number, MSB first. -/
theorem test_finish_bytes : decodeCommand 0x29 [0x0C, 0x2F, 0x2A, 0xC3] = .finish 204417731 := by decide

/-- R177: a code in no command row, and a length with no form. -/
theorem test_unknown : decodeCommand 0x15 [] = .unknown 0x15 ∧ decodeCommand 0x29 [1] = .badLength 0x29 := by decide

/-- R179: one option response with option B, and a page of 2 columns whose masks are 0001h and 0200h. -/
theorem test_page_bytes :
    decodeCommand 0x41 [0x04, 0xC4, 0xB4, 0x00, 0, 0, 0, 0, 0, 1, 1, 2, 0x00, 0x02, 0x01, 0x02, 0x00, 0x01, 0x02, 0x00]
      = .page ⟨80000000, 0, 0, 1, 1, 2, [.option 0x02, .column 2 [0x0001, 0x0200]]⟩ := by decide

/-- R180: a DISPLAY payload, group 3, COUNT, 3,430 s, WRONG_SEAT with argument 3, sequence 2, lamp and lock. -/
theorem test_display_payload :
    Display.payload ⟨some 3, .count, 3430, 0, .cond .wrongSeat, 3, 2, true, true⟩
      = [3, 3, 0x0D, 0x66, 0, 0, 1, 5, 0, 3, 2, 3] := by decide

/-- R182: the outcomes of P's sheet pack into 08h 86h. -/
theorem test_outcomes :
    packOutcomes [.correct, .wrong, .part, .correct, .blank] = [⟨1, 0x08⟩, ⟨1, 0x86⟩] := by decide

/-- R181, R154: a retire mark is valid and carries its number, and a record's page is valid. -/
theorem test_retire_mark : retireValid (retireMark 2024) = true ∧ pageSeq (retireMark 2024) = 2024
    ∧ pageValid (ArchRecord.page ⟨2024, .batch, 3, [⟨2, 7⟩]⟩) = true
    ∧ pageKind (ArchRecord.page ⟨2024, .batch, 3, [⟨2, 7⟩]⟩) = 0x0A := by decide +kernel

/-! ## Marking arithmetic (Chapter 8) -/

/-- R133: w = 5, k = 3, one hit gives 426; no hit, one extra, p = 64 gives -106. -/
theorem test_multi_rounding : multiCredit 64 5 3 1 0 = 426 ∧ multiCredit 64 5 3 0 1 = -106 := by decide

/-- Section 8.9: keyed over 8 options, extras 4 are bounded to -768. -/
theorem test_multi_bound : multiCredit 64 12 3 0 4 = -768 ∧ multiCredit 64 12 3 0 2 = -512 := by decide

/-- A column with the digits of a list marked. -/
def column (ds : List Nat) : BitVec 16 := BitVec.ofNat 16 (ds.map (fun d => 2 ^ d)).sum

/-- A NUMERIC response judged with key 314, tolerance 1, weight 16, penalty 64, AS_WRONG. -/
def numeric (cols : List (List Nat)) : Scored :=
  scoreNumeric .asWrong 64 16 314 1 (cols.map (fun ds => readColumn (column ds)))

/-- R134's table. -/
theorem test_numeric :
    numeric [[3], [1], [4]] = ⟨.correct, 4096⟩ ∧ numeric [[3], [1], [5]] = ⟨.correct, 4096⟩
    ∧ numeric [[3], [1], [2]] = ⟨.wrong, -1024⟩ ∧ numeric [[], [3], [1]] = ⟨.wrong, -1024⟩
    ∧ numeric [[3], [], [4]] = ⟨.invalid, -1024⟩ ∧ numeric [[3], [1, 8], [4]] = ⟨.invalid, -1024⟩
    ∧ numeric [[], [], []] = ⟨.blank, 0⟩ := by decide

/-- R136: 604.17 gives 604, -250.5 gives -251, -0.4 gives 0. -/
theorem test_scale : scaleMark 7424 1000 12288 = 604 ∧ scaleMark (-501) 1 2 = -251 ∧ scaleMark (-2) 1 5 = 0 := by
  decide

/-- Section 8.9: -229, and exactly -250. -/
theorem test_lowest : scaleMark (-2816) 1000 12288 = -229 ∧ scaleMark (-3072) 1000 12288 = -250
    ∧ floorMark .clampZero (-229) = (0, true) ∧ standingOf 0 500 = .below := by decide

/-- Sitting 3 of sections 1.9 and 7.8, with its key. -/
def sitting3 : Sitting :=
  { number := 3, paper := [0x43, 0x48, 0x4D, 0x32, 0x30, 0x34, 0x31, 0x20], state := .closed, base := 5430,
    reading := 600, pauseLimit := 900, zones := [0, 1], outMax := 1000, passMark := 500, penalty := 64,
    invalidPolicy := .asWrong, floorPolicy := .clampZero, layout := some [3, 2], keyState := .sealed,
    rawMax := 12288,
    items := [(1, ⟨.single, 8, 4, 0x02, 0, 0, 0⟩), (2, ⟨.single, 8, 4, 0x08, 0, 0, 0⟩),
      (3, ⟨.multi, 12, 5, 0x0D, 0, 0, 0⟩), (4, ⟨.numeric, 16, 0, 0, 314, 1, 3⟩),
      (5, ⟨.single, 4, 4, 0x01, 0, 0, 0⟩)] }

/-- P's sheet of section 8.8, page 2 read before page 1. -/
def sheetP : Slot :=
  { state := .scoring, script := 80300001, cand := 0, sitting := 3, pageCount := 2, readSeen := true,
    pages := [(2, [.column 3 [column [3], column [1], column [4]], .option 0x00]),
      (1, [.option 0x02, .option 0x01, .option 0x07])] }

/-- Section 8.8: raw 7,424, reported 604, ABOVE. -/
theorem test_sheet : scoreSheet sitting3 sheetP.responses =
    ⟨[.correct, .wrong, .part, .correct, .blank], 7424, 0, 604, false, .above, false, false⟩ := by decide

/-- Section 8.8: B and F on item 1, with 4 options, is still CORRECT. -/
theorem test_masked : scoreItem sitting3 ⟨.single, 8, 4, 0x02, 0, 0, 0⟩ (.option 0x22) = ⟨.correct, 2048⟩ := by decide

/-- R117: the weights of section 7.8 sum to 48. -/
theorem test_weights : sitting3.weightSum 5 = 48 ∧ sitting3.firstMissing 5 = none ∧ sitting3.firstMissing 6 = some 6 := by
  decide

/-- R115: {E} with 4 options and 314 in 2 columns are out of range; R114: 60 items are too many for a page. -/
theorem test_key_ranges : keyedOk ⟨3, 5, 0, 4, 4, 0x10, 0, 0, 0⟩ .single = false
    ∧ keyedOk ⟨3, 4, 2, 16, 0, 0, 314, 1, 2⟩ .numeric = false ∧ layoutInRange 3 2 [60, 60] = false
    ∧ layoutInRange 3 3 [50, 50, 20] = true := by decide

/-! ## The hall (Chapters 1 to 6) -/

/-- Section 1.9: E for a = 15 is 6,245, and for a = 0 is 5,430. -/
theorem test_entitlement : entitlement 5430 15 = 6245 ∧ entitlement 5430 0 = 5430 := by decide

/-- A seat on a grid position. -/
def gridSeat (n row column zone : Nat) (kind : SeatKind := .standard) : Seat :=
  { seat := n, row := row, column := column, zone := zone, kind := kind }

/-- A state in a session state with a hall's tables, after the scan. -/
def hallState (ses : SessionState) (seats : List Seat) (sittings : List Sitting) (cands : List Cand) : State :=
  { State.reset with
    hall := { session := ses, sessionNo := some 4210, time := 28800, seats := seats, sittings := sittings,
              cands := cands, masks := ⟨0x01, 0x03, 0x00, 0x80⟩, chief := .d1 }
    line := {}
    arch := { State.reset.arch with
      scan := none, seqCounter := 5, lastStored := 4
      p0 := { blocks := [⟨.opened, 2, some 2, some 4, none⟩, { state := .erased }] }
      p1 := { blocks := [⟨.opened, 2, some 1, some 3, none⟩, { state := .erased }] } } }

/-- The sixteen seats of section 2.9. -/
def sixteen : List Seat :=
  (List.range 16).map (fun i => gridSeat (i + 1) (i / 4 + 1) (i % 4 + 1) (i / 8))

/-- Section 2.9: the serpentine orders of zones 0 and 1. -/
theorem test_serpentine :
    ((hallState .live sixteen [] []).serpentine 0).map (fun x => x.seat) = [1, 2, 3, 4, 8, 7, 6, 5]
    ∧ ((hallState .live sixteen [] []).serpentine 1).map (fun x => x.seat) = [9, 10, 11, 12, 16, 15, 14, 13] := by
  decide

/-- R10: seats 4 and 8 are adjacent; 4 and 7 are not. -/
theorem test_adjacent : adjacent (gridSeat 4 1 4 0) (gridSeat 8 2 4 0) = true
    ∧ adjacent (gridSeat 4 1 4 0) (gridSeat 7 2 3 0) = false := by decide

/-- A sitting in a state, as section 1.9 defines sitting 3 but numbered 1. -/
def sit (st : SittingState) : Sitting := { sitting3 with number := 1, state := st, items := [], keyState := .empty }

/-- A candidate of sitting 1. -/
def cand (number : Nat) (st : CandState) (seat : Option Nat) : Cand :=
  { number := number, sitting := 1, access := false, allowance := 0, restBudget := 600, state := st, seat := seat,
    entitled := 5430 }

/-- What a state answers to a desk or registry command: the result of the reply in the slot. -/
def answerOf (o : Host.Outcome State Fault Refusal) (p : Port) : Option ResultCode :=
  match o with
  | .next t => (t.port p).replySlot.map (fun r => r.result)
  | _ => none

/-- Section 1.9: seat 9 at the position of seat 4 is refused DUPLICATE. -/
theorem test_seat_duplicate :
    answerOf (exec (.seatDefine .g 1 9 2 3 1 0) (hallState .loading [gridSeat 4 2 3 1] [] [])) .g = some .duplicate := by
  decide

/-- Section 5.9: the card at seat 2 of a candidate placed on seat 3 writes WRONG_SEAT with argument 3. -/
theorem test_wrong_seat :
    (match exec .card { hallState .live [gridSeat 2 1 2 0, { gridSeat 3 1 3 0 with occupant := some 0 }] [sit .opened]
        [cand 204418250 .expected (some 3)] with line := { inbox := [⟨2, .card 204418250, 28800⟩] } } with
     | .next t => (t.seat? 2).map (fun x => (x.display.code, x.display.arg, x.display.codeSeq))
     | _ => none) = some (.cond .wrongSeat, 3, 1) := by decide

/-- Section 10.8: a third frame while one is in service and one waits is discarded with the flag set. -/
theorem test_third_frame :
    (match exec (.portStatus (.desk .d2) 43) ((hallState .live [] [] []).mapPort (.desk .d2) (fun ps =>
        { ps with inService := some ⟨41, .sessionGo⟩, buffer := some ⟨42, .sessionGo⟩ })) with
     | .next t => some ((t.port (.desk .d2)).errorFlag, (t.port (.desk .d2)).replySlot)
     | _ => none) = some (true, none) := by decide

/-- Section 10.8: PORT_STATUS clears the flag that it reports. -/
theorem test_port_status :
    (match exec (.portStatus (.desk .d2) 44) ((hallState .live [] [] []).mapPort (.desk .d2) (fun ps =>
        { ps with errorFlag := true })) with
     | .next t => some ((t.port (.desk .d2)).errorFlag, (t.port (.desk .d2)).replySlot.map (fun r => r.fields.take 3))
     | _ => none) = some (false, some [⟨1, 2⟩, ⟨1, 1⟩, ⟨1, 1⟩]) := by decide

/-- R2: at reset the scan runs, and a command is answered BUSY. -/
theorem test_scan_busy : answerOf (exec (.sessionOpen .g 1 1 0) State.reset) .g = some .busy := by decide

/-- Section 9.10: the failed block is RETIRED with 13 pages used and failed 2,024, and the tail program begins. -/
theorem test_program_fail :
    (match exec (.programFail .p0) { hallState .live [] [] [] with
        arch := { (hallState .live [] [] []).arch with
          queue := [⟨2024, .result, 0, []⟩]
          p0 := { blocks := [⟨.opened, 12, some 2000, some 2022, none⟩, { state := .erased }],
                  progBuf := some ⟨2024, .result, 0, []⟩, run := .record 0 12, prev := .pass, cur := .pass } } } with
     | .next t => some (t.arch.p0.blocks[0]?, t.arch.p0.run, t.arch.p0.prev, t.arch.p0.cur)
     | _ => none) = some (some ⟨.retired, 13, some 2000, some 2022, some 2024⟩, .tail 0, .pass, .fail) := by decide

/-- R66, R68: with nobody admitted, a LAST_ENTRY and a NOTE at offset 0 both fire, and COLLECTING is step 5. -/
theorem test_start_cues :
    (match exec (.start (.desk .d1) 1 1) (hallState .live [] [{ sit .opened with
        reading := 0, admission := true, elapsedCues := [⟨.lastEntry, 0, 0⟩, ⟨.note, 0, 7⟩], enrolled := 2,
        counts := { expected := 1, finished := 1 } }]
        [cand 1 .expected none, cand 2 .finished none]) with
     | .next t => some ((t.sitting? 1).map (fun x => (x.state, x.elapsedPtr, x.admission)),
         (t.port (.desk .d0)).notices.length)
     | _ => none) = some (some (.collecting, 2, false), 2) := by decide +kernel

/-- R1, R8: the LOST alert of a SESSION_DISCARDED that finds the queue full has the hall time of the command. -/
theorem test_discard_stamp :
    (match exec (.sessionDiscard .g 1) { hallState .live [] [] [] with
        arch := { (hallState .live [] [] []).arch with queue := List.replicate 32 ⟨9, .batch, 0, []⟩ } } with
     | .next t => some (t.hall.time, (t.port .g).notices)
     | _ => none) = some (0, [.archiveAlert (.lost .sessionDiscarded 1) 28800]) := by decide +kernel

/-- R176: a byte with a framing error ends the frame it stands in, and the next SYNC starts another. -/
theorem test_framing_error :
    (match exec (.linkByteReceived .k 0x00 false true false) ((hallState .live [] [] []).mapPort .k (fun ps =>
        { ps with asm := .collecting [0x02, 0x01] false })) with
     | .next t => some ((t.port .k).asm, (t.port .k).errorFlag)
     | _ => none) = some (.hunting, true) := by decide +kernel

/-- R153: an erase that ends a stall ends the notice owed from the scan as well. -/
theorem test_stall_ended :
    (match exec (.eraseEnd .p0 true) { hallState .live [] [] [] with
        arch := { (hallState .live [] [] []).arch with
          p0 := { blocks := [⟨.erasing, 31, some 2, some 4, none⟩], stalled := true, stallAlertDue := true } } } with
     | .next t => some (t.arch.p0.stalled, t.arch.p0.stallAlertDue)
     | _ => none) = some (false, false) := by decide +kernel

/-- R42, R51: a unit in group 3 answers to 515, and shows a message once per code sequence. -/
theorem test_unit : (SeatUnit.answersTo { seat := 5, group := some 3 } 515) = true
    ∧ (SeatUnit.answersTo { seat := 5, group := some 3 } 516) = false
    ∧ ((SeatUnit.powerUp 5).display ⟨some 3, .count, 60, 0, .cond .wait, 0, 1, false, false⟩).message
        = some (.cond .wait, 0, 5)
    ∧ timeDigits 6000 = (1, 40) ∧ timeDigits 5999 = (99, 59) := by decide

end Sys2Proof.Tests
end

