-- ==== Sys2Proof/Tests/Witnesses.lean ====
section
/-! SUPPORT. Witnesses: for each statement with hypotheses, concrete states and operands that meet them,
clause by clause, at the ends of the ranges. -/

namespace Sys2Proof.Machine.State
open Sys2Proof.Machine

/-- A state whose inbox holds one report. -/
def said (s : State) (n : Nat) (k : ReportKind) : State :=
  { s with line := { s.line with inbox := [⟨n, k, s.hall.time⟩] } }

/-- A state whose line is in a condition. -/
def lined (s : State) (c : LineCond) : State := { s with line := { s.line with cond := c } }

/-- A state with a custody list. -/
def holding (s : State) (l : List Custody) : State := { s with custody := l }

end Sys2Proof.Machine.State

namespace Sys2Proof.Tests
open Sys2Proof.Machine

/-! ## States -/

/-- Seat 1 of the hall, with an occupant or without. -/
def seat1 (o : Option Nat := none) : Seat := { gridSeat 1 1 1 0 with occupant := o }
/-- Seat 511, at the far corner of the grid, in zone 7. -/
def seat511 (o : Option Nat := none) : Seat := { gridSeat 511 32 32 7 with occupant := o }

/-- One candidate in a state on seat 1, its sitting in a state, the session LIVE. -/
def one (st : SittingState) (cs : CandState) (f : Cand → Cand := id) (g : Sitting → Sitting := id) : State :=
  let x := sit st
  hallState .live [seat1 (some 0), seat511] [g { x with counts := Counts.inc {} cs, enrolled := 1 }]
    [f (cand 1 cs (some 1))]

/-- Only the session state, with no tables. -/
def bare (ses : SessionState) : State := hallState ses [] [] []

/-- A custody entry of candidate 0. -/
def tagged (t : Nat) (k : TagKind) (st : TagState) : Custody := ⟨t, some 0, k, st, some 5, none, 0⟩

/-! ## Every command -/

theorem wit_StepRunsFront : { bare .live with pending := [.hallSecond] }.pending = .hallSecond :: [] := rfl

theorem wit_PowerReset_quiet : (bare .live).arch.p0.run = .none ∧ (bare .live).arch.p1.run = .none
    ∧ (bare .live).arch.p0.eraseBegun = false ∧ (bare .live).arch.p1.eraseBegun = false := by decide +kernel

theorem wit_MemoryFormKept : State.MemOk { bare .live with arch := { (bare .live).arch with mem := [(0, 0x00), (8, 0x12)] } }
    ∧ ∃ t, step (bare .live) = .next t :=
  ⟨(by decide +kernel : Memory.wf [(0, 0x00), (8, 0x12)] = true), _, rfl⟩

theorem wit_BoundsKept : (one .writing .writing).Bounded ∧ ∃ t, step (one .writing .writing) = .next t :=
  ⟨{ inbox := by decide +kernel, groupQueue := by decide +kernel, notices := fun p => by rcases p with d | _ | _ <;> (try cases d) <;> decide +kernel,
     queue := by decide +kernel, results := by decide +kernel, custody := by decide +kernel, cands := by decide +kernel, time := by decide +kernel,
     lost := by decide +kernel }, _, rfl⟩

theorem one_counts : (one .writing .writing).CountsAgree where
  enrolled := by decide +kernel
  counts := by
    intro x hx st
    obtain rfl : x = _ := List.mem_singleton.1 hx
    cases st <;> decide +kernel
  sitting := by decide +kernel

theorem one_ordered : (one .writing .writing).TablesOrdered where
  seats := by decide +kernel
  sittings := by decide +kernel
  numbers := by decide +kernel

theorem one_phases : (one .writing .writing).PhasesAgree := ⟨by decide +kernel⟩

/-- The bounds inside the records, on a seat at the top of its three. -/
theorem wit_BoundsKept_fields :
    (let s := { (one .writing .writing).mapSeat 1 (fun x => { x with quiet := 8, miss := 3, keys := List.replicate 9 0 })
                with arch := {} };
      s.FieldsBounded ∧ s.TablesOrdered ∧ ∃ t, step s = .next t) :=
  ⟨{ quiet := by decide +kernel, miss := by decide +kernel, keys := by decide +kernel, cues := by decide +kernel,
     sel := by decide +kernel, blocks := fun p => by cases p <;> decide +kernel },
   { seats := by decide +kernel, sittings := by decide +kernel, numbers := by decide +kernel }, _, rfl⟩

/-- The bounds of the clocks, on a candidate one second below E with its whole rest used. -/
theorem wit_BoundsKept_clocks :
    (let s := one .writing .writing (fun c => { c with consumed := 5429, restUsed := 600 });
      s.ClocksBounded ∧ s.CountsAgree ∧ s.TablesOrdered ∧ s.PhasesAgree ∧ ∃ t, step s = .next t) :=
  ⟨{ consumed := by decide +kernel, rest := by decide +kernel, writing := by decide +kernel,
     resting := by decide +kernel, fresh := by decide +kernel, early := by decide +kernel,
     base := by decide +kernel, entitled := by decide +kernel },
   { enrolled := by decide +kernel
     counts := fun x hx st => by
       obtain rfl : x = _ := List.mem_singleton.1 hx
       cases st <;> decide +kernel
     sitting := by decide +kernel },
   { seats := by decide +kernel, sittings := by decide +kernel, numbers := by decide +kernel },
   ⟨by decide +kernel⟩, _, rfl⟩

theorem one_occupancy : (one .writing .writing).OccupancyAgrees where
  seats x hx i h := by
    have hx : x = seat1 (some 0) ∨ x = seat511 := by simpa [one, hallState] using hx
    obtain rfl | rfl := hx
    · cases h; exact ⟨_, rfl, by decide +kernel⟩
    · cases h
  cands i c n hc hn := by
    match i with
    | 0 => cases hc; cases hn; exact ⟨seat1 (some 0), by decide +kernel, by decide +kernel⟩
    | i + 1 => simp [State.cand?, one, hallState] at hc
  gone := by decide +kernel

theorem wit_TablesKept : (one .writing .writing).CountsAgree ∧ (one .writing .writing).TablesOrdered
    ∧ (one .writing .writing).PhasesAgree ∧ (one .writing .writing).OccupancyAgrees
    ∧ ∃ t, step { one .writing .writing with pending := [.hallSecond] } = .next t :=
  ⟨one_counts, one_ordered, one_phases, one_occupancy, _, rfl⟩

theorem wit_gates_scan : linkCommand (.sessionGo .g 255) = some (.g, 255, .sessionGo) ∧ (State.reset.port .g).inService = none
    ∧ (State.reset.port .g).buffer = none ∧ (255 : Byte) ≠ 0 ∧ State.reset.arch.scan.isSome = true := by decide +kernel

theorem wit_gates_role : linkCommand (.sessionGo .k 1) = some (.k, 1, .sessionGo) ∧ (bare .live).ready .k 1
    ∧ listedFor .k .sessionGo = false ∧ linkCommand (.sessionGo .g 1) = some (.g, 1, .sessionGo)
    ∧ (bare .live).ready .g 1 ∧ listedFor .g .sessionGo = true ∧ (bare .live).hall.session ∉ markedFor .sessionGo := by
  decide +kernel

/-- The ends of the lengths of PAGE and RETURN_TAGS, and lengths beside them. -/
theorem wit_gates_length : (bare .live).ready .k 1 ∧ listedFor .k .batchClose = true
    ∧ (∀ b, Cmd.batchClose ≠ .unknown b ∧ Cmd.batchClose ≠ .badLength b) ∧ 0 ∈ lengthsOf (Cmd.batchClose).code.toNat
    ∧ 1 ∉ lengthsOf (Cmd.batchClose).code.toNat ∧ listedFor .g .batchClose = false
    ∧ 14 ∈ lengthsOf 0x41 ∧ 238 ∈ lengthsOf 0x41 ∧ 13 ∉ lengthsOf 0x41 ∧ 15 ∉ lengthsOf 0x41
    ∧ 5 ∈ lengthsOf 0x2C ∧ 65 ∈ lengthsOf 0x2C ∧ 1 ∉ lengthsOf 0x2C ∧ 69 ∉ lengthsOf 0x2C :=
  ⟨by decide +kernel, by decide +kernel, fun _ => ⟨nofun, nofun⟩, by decide +kernel⟩

theorem wit_gates_unknown : (bare .live).ready .k 1 ∧ isCommandCode 0x15 = false ∧ isCommandCode 0x00 = false := by decide +kernel

theorem wit_intake : linkCommand (.portStatus .g 1) = some (.g, 1, .portStatus)
    ∧ ((((bare .live).mapPort .g (fun ps => { ps with inService := some ⟨1, .portStatus⟩ })).port .g).inService.isSome = true
      ∧ (((bare .live).mapPort .g (fun ps => { ps with inService := some ⟨1, .portStatus⟩ })).port .g).buffer = none)
    ∧ (((bare .live).mapPort .g (fun ps => { ps with buffer := some ⟨1, .portStatus⟩ })).port .g).buffer.isSome = true := by
  decide +kernel

/-! ## Chapter 1 -/

theorem wit_SessionOpens : (bare .idle).ready .g 1 ∧ (bare .idle).hall.session = .idle ∧ 1 ≤ 65535 ∧ 86399 ≤ 86399 := by decide +kernel

theorem wit_SessionsClose : (bare .loading).ready .g 1 ∧ (bare .loading).hall.session = .loading
    ∧ ({ one .closed .collected with alloc := { running := true } } : State).alloc.running = true
    ∧ (one .opened .expected).hall.session = .live ∧ (one .opened .expected).alloc.running = false
    ∧ (∃ x ∈ (one .opened .expected).hall.sittings, x.state = .opened)
    ∧ (∀ x ∈ (one .final .collected).hall.sittings, x.state = .defined ∨ x.state = .closed ∨ x.state = .final) := by decide +kernel

theorem wit_SessionDiscarded : (one .writing .writing).ready .g 1 ∧ (one .writing .writing).hall.session ≠ .idle := by decide +kernel

/-- A closing session whose drain has come to an index. -/
def closing (d : Drain) : State :=
  { one .closed .finished with hall := { (one .closed .finished).hall with session := .closing, drain := d } }

theorem wit_ClosingDrain_next : (closing (.custody 0)).hall.drain = .custody 0 ∧ (closing (.custody 0)).arch.queue.length < 32
    ∧ 0 ≤ 0 ∧ (∃ c, (closing (.custody 0)).hall.cands[0]? = some c ∧ c.state ≠ .collected)
    ∧ (∀ k c, 0 ≤ k → k < 0 → (closing (.custody 0)).hall.cands[k]? = some c → c.state = .collected) :=
  ⟨rfl, by decide +kernel, by decide +kernel, ⟨_, rfl, by decide +kernel⟩, by omega⟩

theorem wit_ClosingDrain_last : (closing (.custody 1)).hall.drain = .custody 1 ∧ (closing (.custody 1)).arch.queue.length < 32
    ∧ ∀ k c, 1 ≤ k → (closing (.custody 1)).hall.cands[k]? = some c → c.state = .collected :=
  ⟨rfl, by decide +kernel, fun k c h e => by
    have : (closing (.custody 1)).hall.cands.length ≤ k := h
    rw [List.getElem?_eq_none this] at e; cases e⟩

/-- A full archive queue of non-result records. -/
def fullQueue (s : State) : State :=
  { s with arch := { s.arch with queue := (List.range 32).map (fun i => ⟨i + 10, .batch, 0, []⟩) } }

theorem wit_ClosingDrain_end : 32 ≤ (fullQueue (closing (.custody 0))).arch.queue.length
    ∧ (closing .waitEmpty).hall.drain = .waitEmpty ∧ (closing .waitEmpty).arch.queue = []
    ∧ (fullQueue (closing .waitEmpty)).arch.queue ≠ [] := by decide +kernel

theorem wit_SeatsDefined : (hallState .loading [seat1] [] []).ready .g 1 ∧ (hallState .loading [seat1] [] []).hall.session = .loading
    ∧ (2, SeatKind.spare) ∈ [(0, SeatKind.standard), (1, SeatKind.access), (2, SeatKind.spare)]
    ∧ (hallState .loading [seat1] [] []).alloc.running = false
    ∧ (∀ x ∈ (hallState .loading [seat1] [] []).hall.seats, x.seat ≠ 511 → ¬ (x.row = 32 ∧ x.column = 32))
    ∧ (hallState .loading [seat1] [] []).seat? 511 = none
    ∧ (hallState .loading [seat1] [] []).seat? 1 = some seat1 ∧ seat1.occupant = none := by decide +kernel

theorem wit_Grants : (bare .loading).ready .g 1 ∧ (bare .loading).hall.session = .loading
    ∧ (3, Desk.d3) ∈ [(0, Desk.d0), (1, Desk.d1), (2, Desk.d2), (3, Desk.d3)] ∧ 255 ≤ 255 ∧ 1 ≤ 1 := by decide +kernel

/-- A SITTING_DEFINE at the ends of its ranges. -/
def fields12 (n : Nat) : SittingFields :=
  ⟨n, List.replicate 8 0x7E, 28800, 1800, 3600, 8, [0, 1, 2, 3, 4, 5, 6, 7], 10000, 10000, 255, 1, 1⟩

theorem wit_SittingsDefined : (one .defined .expected).ready .g 1 ∧ (one .defined .expected).hall.session = .live
    ∧ (fields12 12).paper.length = 8 ∧ (∀ ch ∈ (fields12 12).paper, 0x20 ≤ ch ∧ ch ≤ 0x7E) ∧ (fields12 12).zones.length = 8
    ∧ (∀ z ∈ (fields12 12).zones, z ≤ 7) ∧ (fields12 12).zones.Nodup ∧ (fields12 12).passMark ≤ (fields12 12).outMax
    ∧ (1, InvalidPolicy.asBlank) ∈ [(0, InvalidPolicy.asWrong), (1, InvalidPolicy.asBlank)]
    ∧ (1, FloorPolicy.signed) ∈ [(0, FloorPolicy.clampZero), (1, FloorPolicy.signed)]
    ∧ (one .defined .expected).sitting? 12 = none
    ∧ (∃ x ∈ (one .defined .expected).hall.sittings, (one .defined .expected).sitting? 1 = some x ∧ x.inFlight = false
        ∧ x.state = .defined ∧ ∀ q ∈ x.elapsedCues ++ x.remainingCues, q.value < (fields12 1).base) := by decide +kernel

theorem wit_CandidateAdded : (one .writing .writing id (fun x => { x with admission := true })).ready .g 1
    ∧ (∃ x ∈ (one .writing .writing id (fun x => { x with admission := true })).hall.sittings,
        (one .writing .writing id (fun x => { x with admission := true })).sitting? 1 = some x ∧ x.inFlight = false
        ∧ x.state = .writing ∧ x.admission = true)
    ∧ (∀ c ∈ (one .writing .writing).hall.cands, c.number ≠ 999999999) ∧ (one .writing .writing).hall.cands.length < 640
    ∧ 1 ≤ 1 ∧ 100 ≤ 100 ∧ 3600 ≤ 3600 := by decide +kernel

/-- A RESTING candidate that has consumed and rested some. -/
def resting (consumed used : Nat) : State := one .writing .resting (fun c => { c with consumed := consumed, restUsed := used })

theorem wit_CandidateAmended : (resting 5430 120).ready .g 1 ∧ (resting 5430 120).findCand 1 = some 0
    ∧ (∃ c ∈ (resting 5430 120).hall.cands, (resting 5430 120).cand? 0 = some c ∧ c.state = .resting
        ∧ entitlement 5430 0 ≤ c.consumed)
    ∧ (∃ c ∈ (resting 5429 120).hall.cands, (resting 5429 120).cand? 0 = some c ∧ c.state = .resting
        ∧ c.consumed < entitlement 5430 0 ∧ 120 ≤ c.restUsed ∧ c.restUsed < 121)
    ∧ (∃ x ∈ (resting 0 0).hall.sittings, (resting 0 0).sitting? 1 = some x ∧ x.inFlight = false ∧ x.base = 5430)
    ∧ (one .opened .admitted).findCand 1 = some 0 := by decide +kernel

/-! ## Chapter 2 -/

/-- An EXPECTED candidate without a seat. -/
def waiting1 : State := hallState .live [seat1, seat511] [sit .opened] [cand 1 .expected none]

theorem wit_Runs : waiting1.ready .g 1 ∧ waiting1.alloc.running = false
    ∧ (∃ x ∈ waiting1.hall.sittings, waiting1.sitting? 1 = some x ∧ x.state = .opened)
    ∧ (∃ c ∈ waiting1.hall.cands, c.sitting = 1 ∧ c.state = .expected ∧ c.seat = none ∧ 0 < c.number)
    ∧ (∀ c ∈ (one .opened .expected).hall.cands, ¬ (c.sitting = 1 ∧ c.state = .expected ∧ c.seat = none))
    ∧ (bare .live).alloc.running = false
    ∧ (let s := { waiting1 with alloc := { running := true, sitting := some 1 } }
       s.alloc.running = true ∧ s.alloc.sitting = some 1) := by decide +kernel

/-- The run of sitting 1 in the STANDARD pass, at zone 0 of its list. -/
def run1 : State :=
  { waiting1 with alloc := { running := true, sitting := some 1, pass := .standard, accessFill := [0, 0],
                             standardFill := [0, 0], dropped := [false, false] } }

theorem wit_TurnsPlace : run1.alloc.running = true ∧ run1.alloc.sitting = some 1
    ∧ (∃ x ∈ run1.hall.sittings, run1.sitting? 1 = some x ∧ run1.alloc.cursor < x.zones.length ∧ x.zones.getD 0 0 = 0)
    ∧ run1.alloc.dropped.getD run1.alloc.cursor false = false ∧ run1.findCand 1 = some 0
    ∧ (∃ c ∈ run1.hall.cands, run1.cand? 0 = some c ∧ c.awaits 1 run1.alloc.pass run1.alloc.lastTurn = true
        ∧ ∀ d ∈ run1.hall.cands, d.awaits 1 run1.alloc.pass run1.alloc.lastTurn = true → d ≠ c → c.number < d.number)
    ∧ run1.alloc.fill run1.alloc.cursor ≤ 0 ∧ (run1.serpentine 0)[0]? = some seat1
    ∧ run1.qualifies 1 run1.alloc.pass seat1 = true
    ∧ (∀ x ∈ run1.hall.seats, 1 ≤ x.column ∧ x.column ≤ 32) := by decide +kernel

/-- The ACCESS pass of the run, and its last turn taken with no seat found. -/
def runAccess : State := { run1 with alloc := { run1.alloc with pass := .access, dropped := [true, true], lastTurn := 9 } }
def runOver : State := { run1 with alloc := { run1.alloc with unplaced := 1, lastTurn := 1 } }

/-- A turn that changes the pass, one past a dropped zone, one with every zone dropped, one with no qualifying
seat left, and the runs that go on and end. -/
theorem wit_TurnsPlace_more :
    (∀ d ∈ runAccess.hall.cands, d.awaits 1 .access runAccess.alloc.lastTurn = false)
    ∧ (∃ c ∈ runAccess.hall.cands, c.awaits 1 .standard 0 = true)
    ∧ ([true, false].getD 0 false = true ∧ [true, false].getD 1 false = false
      ∧ ∀ n, n < 2 → [true, true].getD ((0 + n) % 2) false = true)
    ∧ (∀ z ∈ (runAccess.serpentine 0).drop 0, runAccess.qualifies 1 .access z = false)
    ∧ (∃ d ∈ run1.hall.cands, d.awaits 1 run1.alloc.pass run1.alloc.lastTurn = true)
    ∧ (∀ d ∈ runOver.hall.cands, d.awaits 1 runOver.alloc.pass runOver.alloc.lastTurn = false)
    ∧ (bare .live).alloc.running = false := by decide +kernel

theorem wit_ReleaseAndPlacement : (∃ c ∈ (one .writing .writing).hall.cands, (one .writing .writing).cand? 0 = some c
      ∧ c.seat = some 1)
    ∧ (one .writing .writing).seat? 1 = some (seat1 (some 0)) ∧ (one .writing .writing).seat? 511 = some seat511 := by decide +kernel

/-- Zone 7 is held by D3 and by the chief D1. -/
theorem wit_Moved : (one .writing .writing).ready (.desk .d1) 1 ∧ (one .writing .writing).findCand 1 = some 0
    ∧ (one .writing .writing).seat? 511 = some seat511 ∧ (one .writing .writing).deskPasses .d1 seat511.zone = true
    ∧ (one .writing .writing).inFlight 1 = false ∧ seat511.occupant = none ∧ seat511.service = .inService
    ∧ ((one .writing .writing).neighbourOf seat511 1 (some 1) = true → 0 = 1)
    ∧ (one .writing .writing).seat? 1 = some (seat1 (some 0)) ∧ (1 : Nat) ≠ 511
    ∧ (one .writing .writing).deskPasses .d1 0 = true
    ∧ (∃ c ∈ waiting1.hall.cands, waiting1.cand? 0 = some c ∧ c.seat = none ∧ c.state = .expected)
    ∧ waiting1.seat? 1 = some seat1 := by decide +kernel

theorem wit_Serviced : (bare .live).ready (.desk .d1) 1
    ∧ (1, Service.outOfService) ∈ [(0, Service.inService), (1, Service.outOfService)]
    ∧ (one .writing .writing).seat? 511 = some seat511 ∧ (one .writing .writing).deskPasses .d3 seat511.zone = true
    ∧ (one .writing .writing).alloc.running = false ∧ seat511.occupant = none := by decide +kernel

/-! ## Chapter 3 -/

/-- A CALL from seat 1, its check as received. -/
def call1 : SeatFrame := ⟨1, 3, 0, [], (SeatFrame.mk 1 3 0 [] 0).goodCheck⟩

theorem wit_LineConditions : ((bare .live).lined .idle).line.cond = .idle
    ∧ ((one .writing .writing).lined (.busyReport call1 .started)).line.cond = .busyReport call1 .started
    ∧ 1 ≤ call1.address ∧ call1.address ≤ 511
    ∧ ((one .writing .writing).lined (.busyReport call1 .started)).seat? call1.address ≠ none
    ∧ ((bare .live).lined (.busyReport call1 .started)).seat? call1.address = none
    ∧ ((bare .live).lined (.hold call1)).line.cond = .hold call1 ∧ (bare .live).line.cond = .quiet := by decide +kernel

theorem wit_ReportsEnd : ((one .writing .writing).lined (.busyReport call1 .reserved)).line.cond = .busyReport call1 .reserved
    ∧ reportOf call1 = some .call ∧ reportOf { call1 with check := call1.check + 1 } = none
    ∧ ((one .writing .writing).lined (.busyReport call1 .reserved)).seat? 1 = some (seat1 (some 0))
    ∧ ((bare .live).lined (.busyReport call1 .noEntry)).line.cond = .busyReport call1 .noEntry := by decide +kernel

theorem wit_ArbiterStarts_order : ((one .writing .writing).lined .idle).line.cond = .idle
    ∧ ((one .writing .writing).lined .idle).hall.seats.Pairwise (fun x y => x.seat < y.seat)
    ∧ ({ (one .writing .writing).line with deliver := some ⟨1, {}, true⟩ } : SeatLine).deliver = some ⟨1, {}, true⟩
    ∧ ({ (one .writing .writing).line with groupQueue := [clearFrame] } : SeatLine).groupQueue = clearFrame :: []
    ∧ (∀ y ∈ (one .writing .writing).hall.seats, ¬ (y.owed = true ∧ y.miss < 3))
    ∧ (∀ y ∈ (one .writing .writing).hall.seats, ¬ (y.occupant.isSome = true ∧ 8 ≤ y.quiet)) := by decide +kernel

/-- Seat 1 owed below a miss count of 3, seat 511 owed with a miss count of 3. -/
def owed : List Seat := [{ seat1 (some 0) with owed := true, quiet := 8, miss := 2 }, { seat511 with owed := true, miss := 3 }]

/-- The next owed seat after seat 511, and the next due one after 0, is seat 1. -/
theorem wit_ArbiterStarts_next : ∃ x ∈ owed, x.seat = 1 ∧ (x.owed = true ∧ x.miss < 3)
    ∧ (∀ y ∈ owed, (y.owed = true ∧ y.miss < 3) → y.seat ≤ 511)
    ∧ (∀ y ∈ owed, (y.owed = true ∧ y.miss < 3) → x.seat ≤ y.seat)
    ∧ (x.occupant.isSome = true ∧ 8 ≤ x.quiet) ∧ 0 < x.seat
    ∧ (∀ y ∈ owed, (y.occupant.isSome = true ∧ 8 ≤ y.quiet) → 0 < y.seat → x.seat ≤ y.seat) := by decide +kernel

theorem wit_FrameAcknowledged :
    ((one .writing .writing).lined (.busyController ⟨511, .poll⟩ false)).line.cond = .busyController ⟨511, .poll⟩ false
    ∧ ((one .writing .writing).lined (.busyController clearFrame true)).line.cond = .busyController clearFrame true
    ∧ (clearFrame.address = 0) ∧ 511 < (LineFrame.mk 513 (.announce 1 .show)).address
    ∧ (one .writing .writing).seat? 511 = some seat511
    ∧ (let x := { seat511 with service := Service.faulty, faultMark := some 5 }
       x.service = .faulty ∧ x.faultMark.isSome = true)
    ∧ (let x := { seat511 with miss := 2 }
       x.miss = 2 ∧ x.service = .inService) := by decide +kernel

theorem wit_HelloAndKeyTaken : ((one .writing .writing).said 1 (.hello 15)).line.inbox = ⟨1, .hello 15, 28800⟩ :: []
    ∧ ((one .writing .writing).said 1 (.key 11)).line.inbox = ⟨1, .key 11, 28800⟩ :: []
    ∧ ((one .writing .writing).said 1 (.key 9)).seat? 1 = some (seat1 (some 0)) ∧ (seat1 (some 0)).keys.length < 9
    ∧ ({ seat1 with keys := [2, 0, 4, 4, 1, 8, 2, 5, 0] } : Seat).keys = [2, 0, 4, 4, 1, 8, 2, 5, 0] := by decide +kernel

theorem wit_DisplayRecord : (one .writing .resting).seat? 1 = some (seat1 (some 0))
    ∧ ({ seat1 with display := { codeSeq := 255 } } : Seat).display.codeSeq % 256 = 255
    ∧ (∃ c ∈ (one .writing .resting).hall.cands, (one .writing .resting).cand? 0 = some c ∧ c.seat = some 1
        ∧ c.state = .resting ∧ (one .writing .resting).held c.sitting = false)
    ∧ ((one .writing .absent).cand? 0).map (fun c => c.state) = some .absent
    ∧ (one .writing .writing id (fun x => { x with paused := true })).held 1 = true := by decide +kernel

/-! ## Chapter 4 -/

theorem wit_HallSecondPasses : (one .writing .writing).TablesOrdered ∧ (one .writing .writing).PhasesAgree
    ∧ (one .writing .writing).clock.ahead = [] ∧ (one .writing .writing).clock.restEnded = []
    ∧ (one .writing .writing).held 1 = false
    ∧ (∃ x ∈ (one .writing .writing).hall.sittings, x.number = 1 ∧ x.state = .writing)
    ∧ (∃ c ∈ (one .writing .writing).hall.cands, c.state = .writing ∧ c.consumed + 1 ≠ c.entitled) :=
  ⟨one_ordered, one_phases, by decide +kernel⟩

/-- The premises of a hall second in the states of its other cases. -/
theorem wit_HallSecondPasses_premises (f : Cand → Cand) (g : Sitting → Sitting)
    (hf : ∀ c, (f c).sitting = c.sitting ∧ (f c).state = c.state ∧ (f c).number = c.number)
    (hg : ∀ x, (g x).number = x.number ∧ (g x).state = x.state) :
    (∀ st cs, (one st cs f g).TablesOrdered)
    ∧ (∀ st cs, cs = .admitted ∨ st = .writing → (one st cs f g).PhasesAgree) := by
  refine ⟨fun st cs => ⟨?_, ?_, ?_⟩, fun st cs h => ⟨?_⟩⟩
  · exact (by decide +kernel : [seat1 (some 0), seat511].Pairwise (fun x y => x.seat < y.seat))
  · exact List.pairwise_singleton ..
  · exact List.pairwise_singleton ..
  · intro c hc hs
    obtain rfl : c = f (cand 1 cs (some 1)) := by simpa [one, hallState] using hc
    refine ⟨_, List.mem_singleton.2 rfl, ?_, ?_⟩
    · rw [(hg _).1, (hf _).1]; rfl
    · rw [(hf _).2.1] at hs
      rw [(hg _).2]
      obtain rfl | rfl := h
      · obtain h | h := hs <;> cases h
      · rfl

/-- The second that ends a reading time, reaches a pause limit, expires a candidate, fires its remaining cue,
uses up its rest, and counts a seat's quiet time. -/
theorem wit_HallSecondPasses_ends :
    (let s := one .reading .admitted id (fun x => { x with reading := 600, elapsedReading := 599 })
      ∃ x ∈ s.hall.sittings, x.state = .reading ∧ x.elapsedReading + 1 = x.reading ∧ s.held x.number = false
        ∧ ∃ c ∈ s.hall.cands, c.state = .admitted ∧ s.sitting? c.sitting = some x)
    ∧ (let s := one .writing .writing id (fun x => { x with paused := true, pauseLimit := 900, pauseAcc := 899 })
      ∃ x ∈ s.hall.sittings, s.held x.number = true ∧ 0 < x.pauseLimit ∧ x.pauseAcc + 1 = x.pauseLimit)
    ∧ (∃ c ∈ (one .writing .writing (fun c => { c with consumed := 5429 })).hall.cands,
        c.state = .writing ∧ c.consumed + 1 = c.entitled)
    ∧ (let s := one .writing .writing (fun c => { c with consumed := 5369 }) (fun x =>
        { x with remainingCues := [⟨.warn, 60, 5⟩, ⟨.exitClose, 60, 0⟩] })
      ∃ c ∈ s.hall.cands, ∃ x ∈ s.hall.sittings, s.sitting? c.sitting = some x ∧ c.state = .writing
        ∧ s.held c.sitting = false ∧ (x.remainingCues.drop c.cuePtr).takeWhile
          (fun q => decide (c.entitled - (c.consumed + 1) ≤ q.value)) = [⟨.warn, 60, 5⟩, ⟨.exitClose, 60, 0⟩])
    ∧ (let s := one .reading .admitted id (fun x => { x with reading := 600, elapsedReading := 598 })
      ∃ c ∈ s.hall.cands, c.state = .admitted ∧ ∃ x ∈ s.hall.sittings, s.sitting? c.sitting = some x
        ∧ x.elapsedReading + 1 ≠ x.reading)
    ∧ (∃ c ∈ (one .writing .resting (fun c => { c with restUsed := 599 })).hall.cands,
        c.state = .resting ∧ c.restUsed + 1 = c.restBudget)
    ∧ (one .writing .writing).seat? 1 = some (seat1 (some 0)) ∧ (seat1 (some 0)).quiet < 8
    ∧ TickKey.seat 1 ∉ (one .writing .writing).clock.ahead := by decide +kernel

theorem wit_CueDefined : (one .opened .expected).ready .g 1
    ∧ (4, CueKind.note) ∈ [(0, CueKind.lastEntry), (1, CueKind.exitOpen), (2, CueKind.exitClose), (3, CueKind.warn),
        (4, CueKind.note)]
    ∧ (∃ x ∈ (one .opened .expected).hall.sittings, (one .opened .expected).sitting? 1 = some x ∧ x.state = .opened
        ∧ 5429 < x.base ∧ x.elapsedCues.length + x.remainingCues.length < 8
        ∧ x.elapsedCues.Pairwise (fun a b => a.value ≤ b.value)
        ∧ x.remainingCues.Pairwise (fun a b => b.value ≤ a.value))
    ∧ (∃ x ∈ (one .opened .expected).hall.sittings, ∀ q ∈ x.elapsedCues ++ x.remainingCues, q.kind ≠ .lastEntry)
    ∧ 1 ≤ 255 ∧ 255 ≤ 255 := by decide +kernel

theorem cue_ordered : (one .opened .expected).TablesOrdered := by constructor <;> decide +kernel

theorem wit_PhasesBegin : (one .opened .admitted).ready (.desk .d1) 1 ∧ Desk.d1 = (one .opened .admitted).hall.chief
    ∧ (∃ x ∈ (one .opened .admitted).hall.sittings, x.inFlight = false ∧ x.state = .opened ∧ 0 < x.reading)
    ∧ (∃ x ∈ (one .opened .admitted id (fun x => { x with reading := 0 })).hall.sittings, x.reading = 0)
    ∧ (∃ x ∈ (one .defined .expected).hall.sittings, x.state = .defined)
    ∧ Desk.d0 ≠ (one .opened .admitted).hall.chief
    ∧ (∃ x ∈ (one .reading .admitted id (fun x => { x with elapsedReading := 599 })).hall.sittings,
        x.state = .reading ∧ x.elapsedReading + 1 = x.reading)
    ∧ (one .reading .admitted).held 1 = false ∧ TickKey.sitting 1 ∉ (one .reading .admitted).clock.ahead := by decide +kernel

/-- The hypotheses of the start of writing. -/
theorem wit_WritingBegins : (one .writing .writing).CountsAgree
    ∧ (∃ x ∈ (one .writing .writing).hall.sittings, (∀ q ∈ x.elapsedCues, 0 < q.value) ∧ x.elapsedPtr = 0)
    ∧ (∃ c ∈ (one .writing .writing).hall.cands, c.sitting = 1 ∧ c.state = .writing) :=
  ⟨one_counts, by decide +kernel⟩

/-- Every kind of elapsed cue at offset 0, and one past it. -/
theorem wit_WritingBegins_cues : ∃ x ∈ (one .opened .admitted id (fun x => { x with
      elapsedCues := [⟨.lastEntry, 0, 0⟩, ⟨.note, 0, 7⟩, ⟨.exitOpen, 0, 0⟩, ⟨.note, 1, 8⟩] })).hall.sittings,
    (x.elapsedCues.drop x.elapsedPtr).takeWhile (fun q => q.value == 0)
      = [⟨.lastEntry, 0, 0⟩, ⟨.note, 0, 7⟩, ⟨.exitOpen, 0, 0⟩] := by decide +kernel

/-- A WRITING sitting with one elapsed cue at offset 60, at S_el 59. -/
def cued (k : CueKind) : State :=
  one .writing .writing id (fun x => { x with sel := 59, elapsedCues := [⟨k, 60, 5⟩], admission := true })

theorem wit_ElapsedCuesFire (k : CueKind) : (cued k).held 1 = false ∧ TickKey.sitting 1 ∉ (cued k).clock.ahead
    ∧ ∃ x ∈ (cued k).hall.sittings, (cued k).sitting? 1 = some x ∧ x.state = .writing ∧ x.sel < 57600
      ∧ (x.elapsedCues.drop x.elapsedPtr).takeWhile (fun q => decide (q.value ≤ x.sel + 1)) = [⟨k, 60, 5⟩] := by
  cases k <;> decide +kernel

/-- Two cues of one second, and a WRITING sitting one second before S_el = B with admission OPEN. -/
def lastSecond : State := one .writing .writing id (fun x =>
  { x with sel := 5429, admission := true, elapsedCues := [⟨.exitOpen, 5430, 0⟩, ⟨.note, 5430, 7⟩] })

theorem wit_AdmissionCloses : lastSecond.held 1 = false ∧ TickKey.sitting 1 ∉ lastSecond.clock.ahead
    ∧ ∃ x ∈ lastSecond.hall.sittings, lastSecond.sitting? 1 = some x ∧ x.state = .writing ∧ x.sel + 1 = x.base
      ∧ x.sel < 57600 ∧ (∀ q ∈ x.elapsedCues ++ x.remainingCues, q.kind ≠ .lastEntry) ∧ x.admission = true
      ∧ ((x.elapsedCues.drop x.elapsedPtr).takeWhile (fun q => decide (q.value ≤ x.sel + 1))).length = 2 := by
  decide +kernel

/-- Two WRITING candidates, the first with a tag outstanding. -/
def twoWriting : State :=
  (hallState .live [seat1 (some 0), seat511 (some 1)]
    [{ sit .writing with counts := { writing := 2 }, enrolled := 2 }]
    [cand 1 .writing (some 1), cand 2 .writing (some 511)]).holding [tagged 10000000 .booklet .issued]

theorem wit_FinishEffects : twoWriting.CountsAgree ∧ twoWriting.TablesOrdered
    ∧ (∃ c ∈ twoWriting.hall.cands, twoWriting.cand? 0 = some c ∧ c.state = .writing ∧ c.seat = some 1)
    ∧ twoWriting.seat? 1 = some (seat1 (some 0))
    ∧ (∃ x ∈ twoWriting.hall.sittings, twoWriting.sitting? 1 = some x ∧ x.state = .writing)
    ∧ (∃ e ∈ twoWriting.custody, e.cand = some 0 ∧ e.state = .issued)
    ∧ (∃ j d, j ≠ 0 ∧ twoWriting.cand? j = some d ∧ d.sitting = 1 ∧ d.state = .writing) := by
  refine ⟨⟨by decide +kernel, fun x hx st => ?_, by decide +kernel⟩, by constructor <;> decide +kernel, ?_⟩
  · obtain rfl : x = _ := List.mem_singleton.1 hx
    cases st <;> decide +kernel
  · exact ⟨by decide +kernel, rfl, by decide +kernel, by decide +kernel, 1, cand 2 .writing (some 511), by decide +kernel⟩

/-- The last candidate left, with a tag outstanding, or with its only tag VOID. -/
theorem wit_FinishEffects_last : (one .writing .writing).CountsAgree ∧ (one .writing .writing).TablesOrdered
    ∧ (∃ e ∈ [tagged 10000000 .booklet .issued], e.cand = some 0 ∧ e.state = .issued)
    ∧ ¬ (∃ e ∈ [tagged 10000000 .booklet .void], e.cand = some 0 ∧ e.state = .issued)
    ∧ (∀ j, j ≠ 0 → (one .writing .writing).cand? j = none) :=
  ⟨one_counts, one_ordered, by decide +kernel, by decide +kernel, fun j h => by
    cases j with
    | zero => exact absurd rfl h
    | succ j => rfl⟩

/-- A candidate one second before its time ends, or before a cue at 60 s of remaining time. -/
def late (consumed : Nat) : State :=
  one .writing .writing (fun c => { c with consumed := consumed }) (fun x => { x with remainingCues := [⟨.warn, 60, 5⟩] })

theorem wit_CandidateSeconds : (late 5429).held 1 = false ∧ TickKey.cand 0 ∉ (late 5429).clock.ahead
    ∧ 0 ∉ (late 5429).clock.restEnded
    ∧ (∃ c ∈ (late 5429).hall.cands, (late 5429).cand? 0 = some c ∧ c.state = .writing ∧ c.consumed + 1 = c.entitled)
    ∧ (∃ c ∈ (late 5369).hall.cands, (late 5369).cand? 0 = some c ∧ c.state = .writing ∧ c.consumed + 1 < c.entitled
        ∧ ∃ x ∈ (late 5369).hall.sittings, (late 5369).sitting? c.sitting = some x
          ∧ (x.remainingCues.drop c.cuePtr).takeWhile
            (fun q => decide (c.entitled - (c.consumed + 1) ≤ q.value)) ≠ [])
    ∧ (∃ c ∈ (resting 0 599).hall.cands, (resting 0 599).cand? 0 = some c ∧ c.state = .resting
        ∧ c.restUsed + 1 = c.restBudget) := by decide +kernel

/-- A candidate one second before E whose rest has ended in the second now passing. -/
def rested : State := (late 5429).markRestEnded 0

theorem wit_RestJustEnded : (∃ c ∈ rested.hall.cands, rested.cand? 0 = some c ∧ c.state = .writing)
    ∧ rested.held 1 = false ∧ TickKey.cand 0 ∉ rested.clock.ahead ∧ 0 ∈ rested.clock.restEnded := by decide +kernel

/-- R73: the second in which a rest ends adds nothing to consumed. -/
theorem test_rest_end_second_consumes_nothing :
    (rested.hallSecond.cand? 0).map (fun c => (c.consumed, c.state)) = some (5429, .writing)
    ∧ rested.hallSecond.clock.restEnded = [] := by decide +kernel

theorem wit_RemainingCueEffects : ∃ c ∈ (late 5370).hall.cands, (late 5370).cand? 0 = some c ∧ c.seat = some 1
    ∧ c.state = .writing ∧ ((⟨.warn, 60, 5⟩ : Cue).kind = .warn) ∧ ((⟨.exitClose, 60, 0⟩ : Cue).kind = .exitClose) := by decide +kernel

/-- R69, R71: an EXIT_CLOSE cue between two display points writes the remaining time with its code. -/
theorem test_exit_close_cue_writes_remaining :
    (match exec (.remainingCueFire 0) (one .writing .writing (fun c => { c with consumed := 5368 })
        (fun x => { x with remainingCues := [⟨.exitClose, 61, 0⟩] })) with
      | .next t => (t.seat? 1).map (fun x => (x.display.remaining, x.display.code, x.display.mode))
      | _ => none) = some (61, .cond .exitClosed, .count) := by decide +kernel

/-- R68, R69: an elapsed NOTE writes the remaining time with its code. -/
theorem test_note_cue_writes_remaining :
    (match exec (.elapsedCueFire 1) (one .writing .writing (fun c => { c with consumed := 101 })
        (fun x => { x with sel := 100, elapsedCues := [⟨.note, 101, 7⟩] })) with
      | .next t => (t.seat? 1).map (fun x => (x.display.remaining, x.display.code, x.display.mode))
      | _ => none) = some (5329, .announce 7, .count) := by decide +kernel

/-- A held sitting one second before its pause limit. -/
def heldLong : State := one .writing .writing id (fun x => { x with paused := true, pauseAcc := 899 })

theorem wit_LimitsReached : heldLong.held 1 = true ∧ TickKey.sitting 1 ∉ heldLong.clock.ahead
    ∧ (∃ x ∈ heldLong.hall.sittings, heldLong.sitting? 1 = some x ∧ x.state = .writing ∧ 0 < x.pauseLimit
        ∧ x.disrupted = false ∧ x.pauseAcc + 1 = x.pauseLimit)
    ∧ (let x := { seat1 (some 0) with quiet := 7 }
       x.occupant.isSome = true ∧ x.quiet = 7) ∧ TickKey.seat 1 ∉ heldLong.clock.ahead := by decide +kernel

theorem wit_GroupFramesQueued : (one .writing .writing).ready (.desk (one .writing .writing).hall.chief) 1
    ∧ (one .writing .writing).clock.hallPause = false
    ∧ (∃ x ∈ (one .writing .writing).hall.sittings, (one .writing .writing).sitting? 1 = some x ∧ x.paused = false
        ∧ x.state = .writing)
    ∧ ({ (one .writing .writing).clock with hallPause := true } : Clock).hallPause = true
    ∧ (∃ x ∈ heldLong.hall.sittings, heldLong.sitting? 1 = some x ∧ x.paused = true)
    ∧ (one .writing .writing).ready (.desk .d3) 1 ∧ (one .writing .writing).seat? 511 = some seat511
    ∧ (one .writing .writing).deskPasses .d3 seat511.zone = true
    ∧ ((one .writing .writing).sitting? 1).isSome = true ∧ (one .writing .writing).line.groupQueue.length < 8
    ∧ 8 ≤ (List.replicate 8 clearFrame).length := by decide +kernel

/-! ## Chapter 5 -/

theorem wit_AdmissionEffects : (∃ c ∈ (one .reading .expected).hall.cands, (one .reading .expected).cand? 0 = some c
      ∧ c.state = .expected ∧ c.seat = some 1)
    ∧ (∃ x ∈ (one .reading .expected).hall.sittings, x.state = .reading)
    ∧ TickKey.sitting 1 ∉ (one .reading .expected).clock.ahead
    ∧ (∃ x ∈ (one .writing .expected id (fun x => { x with sel := 5429 })).hall.sittings, x.state = .writing
        ∧ x.sel < 5430) := by decide +kernel

/-- A card of candidate 1 at a seat. -/
def carded (st : SittingState) (cs : CandState) (n sel : Nat) : State :=
  (one st cs id (fun x => { x with sel := sel })).said n (.card 1)

theorem wit_CardJudged : (carded .writing .expected 1 5430).line.inbox = ⟨1, .card 1, 28800⟩ :: []
    ∧ (carded .writing .expected 1 5430).seat? 1 = some (seat1 (some 0))
    ∧ (carded .writing .expected 1 5430).hall.session = .live ∧ (bare .loading).hall.session ≠ .live
    ∧ (∀ c ∈ (bare .live).hall.cands, c.number ≠ 1) ∧ (carded .writing .expected 1 5430).findCand 1 = some 0
    ∧ (∃ c ∈ (carded .writing .expected 1 5430).hall.cands, c.state = .expected ∧ c.seat = some 1 ∧ c.entitled ≤ 5430)
    ∧ (∃ c ∈ (carded .opened .expected 511 0).hall.cands, c.seat = some 1 ∧ (1 : Nat) ≠ 511)
    ∧ (∃ c ∈ waiting1.hall.cands, c.state = .expected ∧ c.seat = none)
    ∧ (∃ c ∈ (carded .writing .resting 511 0).hall.cands, c.state = .resting ∧ c.seat ≠ some 511)
    ∧ (∃ c ∈ (carded .writing .withdrawn 1 0).hall.cands, c.state = .withdrawn)
    ∧ (∃ x ∈ (carded .final .collected 1 0).hall.sittings, x.state = .final)
    ∧ (∃ x ∈ (carded .writing .expected 1 5429).hall.sittings, x.state = .writing ∧ x.sel < 5430) := by decide +kernel

theorem wit_CallAndDone : ((one .writing .writing).said 1 .call).line.inbox = ⟨1, .call, 28800⟩ :: []
    ∧ ((one .writing .writing).said 511 .done).line.inbox = ⟨511, .done, 28800⟩ :: [] ∧ seat511.occupant = none
    ∧ (seat1 (some 0)).occupant = some 0 ∧ ((one .writing .writing).cand? 0).isSome = true
    ∧ ((one .writing .writing).sitting? 1).isSome = true := by decide +kernel

/-- An ABSENT candidate without a seat, in a WRITING sitting. -/
def absent : State := hallState .live [seat1, seat511] [{ sit .writing with sel := 5429 }] [cand 1 .absent none]

theorem wit_AdmittedByDesk : (one .writing .expected).ready (.desk .d0) 1 ∧ (one .writing .expected).findCand 1 = some 0
    ∧ (∃ c ∈ (one .writing .expected).hall.cands, (one .writing .expected).cand? 0 = some c ∧ c.state = .expected
        ∧ c.seat = some 1 ∧ (one .writing .expected).deskPasses .d0 ((one .writing .expected).candZone c) = true)
    ∧ (∃ x ∈ (one .writing .expected).hall.sittings, x.inFlight = false ∧ x.state = .writing ∧ x.sel < 5430)
    ∧ (∃ c ∈ absent.hall.cands, absent.cand? 0 = some c ∧ c.state = .absent) ∧ absent.seat? 511 = some seat511
    ∧ absent.deskPasses .d3 seat511.zone = true ∧ (absent.neighbourOf seat511 1 none = true → 0 = 1)
    ∧ (∃ x ∈ absent.hall.sittings, x.state = .writing ∧ x.sel < 5430) := by decide +kernel

theorem wit_RestsAndEndings : (one .writing .writing).ready (.desk .d0) 1 ∧ (one .writing .writing).findCand 1 = some 0
    ∧ (∃ c ∈ (one .writing .writing).hall.cands, (one .writing .writing).cand? 0 = some c ∧ c.seat = some 1
        ∧ c.state = .writing ∧ c.restUsed < c.restBudget
        ∧ (one .writing .writing).deskPasses .d0 ((one .writing .writing).candZone c) = true)
    ∧ (∃ c ∈ (one .writing .resting).hall.cands, c.state = .resting)
    ∧ (∃ x ∈ (one .writing .writing).hall.sittings, x.state = .writing ∧ x.inFlight = false)
    ∧ (∃ c ∈ (one .collecting .finished).hall.cands, c.state = .finished) := by decide +kernel

/-! ## Chapter 6 -/

theorem wit_IssuesJudged : (∃ c ∈ (one .writing .writing).hall.cands, (one .writing .writing).cand? 0 = some c ∧ c.state = .writing)
    ∧ 9999999 / 10000000 = 0 ∧ 1 ≤ 10000000 / 10000000 ∧ 99999999 / 10000000 = 9 ∧ 80000000 / 10000000 = 8
    ∧ (one .writing .writing).entry? 10000000 = none
    ∧ ((one .writing .writing).holding [tagged 80000000 .sheet .issued]).entry? 80000000 = some (tagged 80000000 .sheet .issued)
    ∧ (∃ e ∈ [tagged 80000000 .sheet .issued], e.cand = some 0 ∧ e.kind = .sheet ∧ e.state ≠ .void)
    ∧ ((one .writing .writing).holding [tagged 80000000 .sheet .void]).entry? 80000000 = some (tagged 80000000 .sheet .void)
    ∧ ((one .writing .writing).holding [tagged 80000000 .sheet .returned]).entry? 80000000
        = some (tagged 80000000 .sheet .returned)
    ∧ 2048 ≤ (List.replicate 2048 (tagged 80000000 .sheet .returned)).length :=
  by decide +kernel

theorem wit_TagsIssued : (one .writing .writing).ready (.desk .d0) 1
    ∧ (∃ c ∈ (one .writing .writing).hall.cands, (one .writing .writing).cand? 0 = some c ∧ c.seat = some 1
        ∧ (one .writing .writing).deskPasses .d0 ((one .writing .writing).candZone c) = true
        ∧ (((one .writing .writing).lampOff (some 1)).issue 0 c 99999999).result = .ok
        ∧ (((one .writing .writing).lampOff (some 1)).issue 0 c 9999999).result ≠ .ok)
    ∧ ((one .writing .writing).said 1 (.tag 99999999)).line.inbox = ⟨1, .tag 99999999, 28800⟩ :: []
    ∧ seat511.occupant = none := by decide +kernel

theorem wit_TagsReturned : (bare .live).ready (.desk .d3) 1 ∧ (List.replicate 16 10000000).length = 16
    ∧ ([] : List Nat).length ≠ 1 ∧ 16 < 17
    ∧ ((one .writing .writing).holding [tagged 80000000 .sheet .issued]).cand? 0 = some (cand 1 .writing (some 1))
    ∧ ((one .writing .writing).holding [tagged 80000000 .sheet .issued]).entry? 80000000 = some (tagged 80000000 .sheet .issued)
    ∧ (tagged 80000000 .sheet .issued).cand = some 0 ∧ (tagged 80000000 .sheet .marked).state = .marked
    ∧ (tagged 80000000 .sheet .void).state = .void ∧ (bare .live).entry? 10000000 = none
    ∧ (bare .live).custody.length < 2048 := by decide +kernel

/-- A stray sheet. -/
def stray : Custody := ⟨80000000, none, .sheet, .returned, none, some 9, 0⟩

theorem wit_TagsVoidedAndClaimed :
    ((one .writing .finished).holding [tagged 80000000 .sheet .issued]).ready (.desk .d0) 1
    ∧ ((one .writing .finished).holding [stray]).entry? 80000000 = some stray ∧ stray.cand = none
    ∧ (∃ c ∈ (one .writing .finished).hall.cands, (one .writing .finished).cand? 0 = some c ∧ c.state ≠ .expected
        ∧ c.state ≠ .absent ∧ c.state ≠ .collected
        ∧ (one .writing .finished).deskPasses .d0 ((one .writing .finished).candZone c) = true)
    ∧ (stray.kind = .sheet → ∀ f ∈ [stray, tagged 10000000 .booklet .issued],
        ¬ (f.cand = some 0 ∧ f.kind = .sheet ∧ f.state ≠ .void))
    ∧ (∃ f ∈ [stray, tagged 10000000 .booklet .issued], f.cand = some 0 ∧ f.state = .issued ∧ f.script ≠ 80000000)
    ∧ (∃ c ∈ (one .closed .collected).hall.cands, c.state = .collected) := by decide +kernel

theorem wit_CollectionTested :
    (∃ c ∈ (one .collecting .finished).hall.cands, (one .collecting .finished).cand? 0 = some c ∧ c.state = .finished)
    ∧ (∀ e ∈ [tagged 10000000 .booklet .returned], e.cand = some 0 → e.state ≠ .issued)
    ∧ (∃ e ∈ [tagged 10000000 .booklet .issued], e.cand = some 0 ∧ e.state = .issued)
    ∧ (∃ x ∈ (one .collecting .finished).hall.sittings, x.state = .collecting ∧ x.counts.finished ≠ 0)
    ∧ (∃ x ∈ (one .collecting .collected).hall.sittings, x.state = .collecting ∧ x.counts.finished = 0)
    ∧ (∃ x ∈ (one .writing .finished).hall.sittings, x.state = .writing ∧ x.counts.nobodyLeft = true
        ∧ x.counts.finished ≠ 0)
    ∧ (∃ x ∈ (one .writing .collected).hall.sittings, x.state = .writing ∧ x.counts.nobodyLeft = true
        ∧ x.counts.finished = 0)
    ∧ (∃ x ∈ (one .writing .resting).hall.sittings, x.state = .writing ∧ x.counts.nobodyLeft = false)
    ∧ (∃ x ∈ (one .closed .collected).hall.sittings, x.state ≠ .writing ∧ x.state ≠ .collecting)
    ∧ ((one .collecting .finished).cand? 0).isSome = true := by decide +kernel

/-! ## Chapters 7 and 8 -/

/-- Sitting 3 with its key in a state, its candidate COLLECTED with sheet 80300001 RETURNED, a batch open. -/
def marking (k : KeyState) (slots : List Slot) (tagState : TagState := .returned) : State :=
  let s := hallState .live [] [{ sitting3 with keyState := k }] [{ cand 204418250 .collected none with sitting := 3 }]
  { s with custody := [tagged 80300001 .sheet tagState]
           marking := { s.marking with batch := { opened := true, number := 17 }, slots := slots } }

/-- P's sheet with page 2 alone. -/
def sheetHalf : Slot := { sheetP with state := .gathering, pages := [(2, [.column 3 [8, 2, 16], .option 0])] }

theorem wit_KeysSealed : (marking .loading []).ready .g 1 ∧ (marking .loading []).hall.session = .live
    ∧ (∃ x ∈ (marking .loading []).hall.sittings, (marking .loading []).sitting? 3 = some x ∧ x.state ≠ .final
        ∧ x.keyState = .loading ∧ x.layout = some [3, 2] ∧ (∀ i ∈ [1, 2, 3, 4, 5], x.item? i ≠ none)
        ∧ 0 < x.weightSum 5)
    ∧ (∃ x ∈ (marking .empty []).hall.sittings, x.keyState = .empty) ∧ [50, 50, 50, 50].sum ≤ 200
    ∧ (∀ k ∈ [50, 50, 50, 50], 1 ≤ k ∧ k ≤ 50)
    ∧ (0 < 255 ∧ 255 < 2 ^ 8) ∧ (7 < 8 ∧ 128 = 2 ^ 7) ∧ 999999 < 10 ^ 6
    ∧ (let x := { sitting3 with keyState := .loading, items := [(1, ⟨.single, 8, 4, 0x02, 0, 0, 0⟩)] }
       x.item? 2 = none ∧ x.item? 1 ≠ none)
    ∧ (let x := { sitting3 with items := [] }
       x.weightSum 0 = 0)
    ∧ (∃ x ∈ (marking .sealed []).hall.sittings, x.keyState = .sealed)
    ∧ (∀ c ∈ (marking .sealed []).hall.cands, ¬ (c.sitting = 3 ∧ 0 < c.version))
    ∧ (∃ y ∈ (marking .sealed [sheetHalf]).marking.slots, y.state ≠ .free ∧ y.sitting = 3) := by decide +kernel

theorem wit_BatchesOpened : (marking .sealed [sheetHalf]).ready .k 1 ∧ (marking .sealed [sheetHalf]).marking.batch.opened = true
    ∧ (bare .idle).ready .k 1 ∧ (bare .idle).hall.session ≠ .live
    ∧ (bare .live).marking.batch.opened = false ∧ 1 ≤ 65535 ∧ 65535 < 65536
    ∧ (∃ y ∈ (marking .sealed [sheetP]).marking.slots, y.state = .scoring ∨ y.state = .waiting)
    ∧ (∀ y ∈ (marking .sealed [sheetHalf, {}]).marking.slots, y.state = .free ∨ y.state = .gathering) := by decide +kernel

/-- Page 1 of P's sheet. -/
def page1 (flags number : Nat) : PageFields :=
  ⟨80300001, flags, number, 1, 2, 3, [.option 0x02, .option 0x01, .option 0x07]⟩

theorem wit_PagesTaken : (marking .sealed [sheetHalf]).ready .k 1 ∧ (marking .sealed [sheetHalf]).marking.batch.opened = true
    ∧ 1 ≤ (page1 1 204418250).script / 10000000 ∧ (page1 1 204418250).script ≤ 99999999
    ∧ (∀ r ∈ (page1 0 0).responses, r.wf = true)
    ∧ (∃ e ∈ (marking .sealed []).custody, (marking .sealed []).entry? 80300001 = some e ∧ e.kind = .sheet
        ∧ e.state = .returned ∧ e.cand = some 0)
    ∧ (∃ c ∈ (marking .sealed []).hall.cands, (marking .sealed []).cand? 0 = some c ∧ c.state = .collected
        ∧ (page1 1 204418250).numberRead = c.number ∧ (page1 1 1).numberRead ≠ c.number)
    ∧ (∃ x ∈ (marking .sealed []).hall.sittings, (marking .sealed []).sitting? 3 = some x ∧ x.keyState = .sealed
        ∧ x.state ≠ .final ∧ x.layout = some [3, 2] ∧ x.pageFits (page1 0 0) = true
        ∧ x.pageFits ⟨80300001, 0, 0, 1, 2, 2, [.option 0, .option 0]⟩ = false)
    ∧ (∃ x ∈ (marking .loading []).hall.sittings, x.keyState ≠ .sealed)
    ∧ (marking .sealed [sheetHalf]).slotOf 80300001 = some 0
    ∧ (marking .sealed [sheetHalf]).marking.slots[0]? = some sheetHalf ∧ (∀ g ∈ sheetHalf.pages, g.1 ≠ 1)
    ∧ (∃ g ∈ sheetP.pages, g.1 = 1)
    ∧ (marking .sealed (List.replicate 8 { sheetP with script := 80000000 })).slotOf 80300001 = none
    ∧ (∀ y ∈ List.replicate 8 { sheetP with script := 80000000 }, y.state ≠ .free)
    ∧ (marking .sealed [{}]).slotOf 80300001 = none ∧ (marking .sealed [{}]).marking.slots[0]? = some ({} : Slot)
    ∧ (bare .live).entry? 80300001 = none
    ∧ (∃ e ∈ (marking .sealed [] .marked).custody, e.state = .marked)
    ∧ (∃ e ∈ (marking .sealed [] .issued).custody, e.state ≠ .marked ∧ e.state ≠ .returned)
    ∧ (stray.kind = .sheet ∧ stray.state = .returned ∧ stray.cand = none) := by decide +kernel

theorem wit_SheetsAsked : (marking .sealed [sheetHalf]).ready .k 1 ∧ (marking .sealed [sheetHalf]).slotOf 80300001 = some 0
    ∧ sheetHalf.state = .gathering ∧ sheetP.state = .scoring ∧ (marking .sealed [sheetP]).marking.order = []
    ∧ ([0] : List Nat)[0]? = some 0 ∧ 0 ∉ ([0] : List Nat).take 0
    ∧ (marking .sealed []).slotOf 80300001 = none ∧ (bare .live).entry? 80300001 = none
    ∧ ((marking .sealed []).entry? 80300001).isSome = true
    ∧ (∃ c ∈ (marking .sealed []).hall.cands, (marking .sealed []).cand? 0 = some c ∧ c.version = 0)
    ∧ (let c := { cand 1 .collected none with version := 1, summary := some ⟨80300001, 1, 4, 17, 604, .above, ⟨false, false, false, false⟩⟩ }
       0 < c.version ∧ c.summary.isSome = true) := by decide +kernel

theorem wit_ItemsScored_single :
    (∀ i, i < 8 → ((0x80 : BitVec 8).getLsbD i = true ↔ i = 7)) ∧ 7 < 8 ∧ (8 : Nat) ≤ 8
    ∧ (0x80 : BitVec 8).getLsbD 7 = true ∧ (∀ i, i < 8 → (0x80 : BitVec 8).getLsbD i = true → i = 7)
    ∧ (∀ i, i < 8 → (0x01 : BitVec 8).getLsbD i = true → i = 0) ∧ (0x01 : BitVec 8).getLsbD 0 = true
    ∧ ((0x81 : BitVec 8).getLsbD 0 = true ∧ (0x81 : BitVec 8).getLsbD 7 = true) := by decide +kernel

theorem wit_ItemsScored_multi : (0x0D : BitVec 8) ≠ 0#8
    ∧ (∀ i, i < 8 → (0x0D : BitVec 8).getLsbD i = true → i < 5) ∧ 255 ≤ 255 := by decide +kernel

theorem wit_ItemsScored_numeric :
    ([ColumnRead.digit 3, .blank, .digit 4] = [] ++ .digit 3 :: [.blank] ++ .digit 4 :: [])
    ∧ ColumnRead.twice ∉ [ColumnRead.digit 3, .blank, .digit 4] ∧ ColumnRead.blank ∈ [ColumnRead.blank]
    ∧ ([column [], column [3], column [1]].map readColumn
        = List.replicate 1 .blank ++ [3, 1].map .digit ++ List.replicate 0 .blank) ∧ [3, 1] ≠ [] := by decide +kernel

theorem wit_MarkReported : sitting3.rawMax = 256 * sitting3.weightSum sheetP.responses.length ∧ 0 < sitting3.rawMax
    ∧ sitting3.penalty ≤ 255 ∧ sitting3.weightSum sheetP.responses.length ≤ 51000 ∧ sitting3.outMax ≤ 10000
    ∧ sheetP.responses[0]? = some (.option 0x02) ∧ (sitting3.item? 1).isSome = true := by decide +kernel

/-- P's sheet in the scoring order, or scored and waiting. -/
def scoring (order waits : List Nat) (job : Option ScoringJob) : State :=
  { marking .sealed [sheetP] with marking := { (marking .sealed [sheetP]).marking with
      order := order, waiting := waits, job := job } }

/-- P's result. -/
def resultP : SheetResult := ⟨[.correct, .wrong, .part, .correct, .blank], 7424, 0, 604, false, .above, true, false⟩

theorem wit_SheetsScored : (scoring [0] [] none).marking.job = none ∧ (scoring [0] [] none).marking.order = 0 :: []
    ∧ (scoring [0] [] none).marking.slots[0]? = some sheetP ∧ ((scoring [0] [] none).sitting? sheetP.sitting).isSome = true
    ∧ (scoring [] [] (some ⟨0, resultP⟩)).marking.job = some ⟨0, resultP⟩
    ∧ (scoring [] [] (some ⟨0, resultP⟩)).marking.waiting = [] ∧ (scoring [] [] none).arch.queue.length < 32
    ∧ (scoring [] [0] none).marking.waiting = 0 :: []
    ∧ ({ sheetP with state := .waiting, result := some resultP } : Slot).result = some resultP
    ∧ ¬ ((fullQueue (scoring [] [0] none)).arch.queue.length < 32) := by decide +kernel

/-- The pages of P's sheet by page number. -/
theorem wit_SheetsScored_pages : [[Response.option 0x02, .option 0x01, .option 0x07],
      [.column 3 [column [3], column [1], column [4]], .option 0x00]].length = sheetP.pageCount
    ∧ sheetP.pages.Pairwise (fun a b => a.1 ≠ b.1)
    ∧ (1, [Response.option 0x02, .option 0x01, .option 0x07]) ∈ sheetP.pages
    ∧ (2, [Response.column 3 [column [3], column [1], column [4]], .option 0x00]) ∈ sheetP.pages := by decide +kernel

theorem wit_ResultQueued : (marking .sealed [sheetP]).marking.slots[0]? = some sheetP
    ∧ ((marking .sealed [sheetP]).cand? sheetP.cand).isSome = true
    ∧ (let pl : Plane := { stalled := true, stallAlertDue := true }
       pl.stallAlertDue = true ∧ pl.stalled = true) := by decide +kernel

/-- P's sheet MARKED, with its summary's record in the queue or stored. -/
def marked (queue : List ArchRecord) : State :=
  let s := hallState .live [] [sitting3]
    [{ cand 204418250 .collected none with
        sitting := 3, version := 1, summary := some ⟨80300001, 1, 4, 17, 604, .above, ⟨false, false, false, false⟩⟩ }]
  { s with custody := [{ tagged 80300001 .sheet .marked with remarks := 255 }], arch := { s.arch with queue := queue } }

theorem wit_RemarkedAndFinalised : (marked []).ready .g 1 ∧ ((marked []).entry? 80300001).isSome = true
    ∧ (∃ e ∈ (marked []).custody, e.state = .marked ∧ e.cand = some 0 ∧ ¬ e.remarks < 255)
    ∧ (∃ c ∈ (marked []).hall.cands, (marked []).cand? 0 = some c ∧ c.summary.isSome = true)
    ∧ (∃ x ∈ (marked []).hall.sittings, (marked []).sitting? 3 = some x ∧ x.state ≠ .final ∧ x.state = .closed)
    ∧ (∃ r ∈ (marked [⟨4, .result, 0, []⟩]).arch.queue, r.kind = .result ∧ r.seq = 4)
    ∧ ¬ (∃ r ∈ (marked []).arch.queue, r.kind = .result ∧ r.seq = 4)
    ∧ (∃ y ∈ [sheetP], y.state ≠ .free ∧ y.sitting = 3)
    ∧ (∀ y ∈ (marked []).marking.slots, y.state = .free ∨ y.sitting ≠ 3) := by decide +kernel

/-! ## Chapter 9 -/

theorem wit_RecordsOffered : 32 ≤ (fullQueue (bare .live)).arch.queue.length ∧ (bare .live).arch.queue.length < 32
    ∧ (∀ q ∈ (bare .live).arch.queue, planeOf q.seq ≠ .p1) ∧ (bare .live).arch.p1.staging = none
    ∧ (bare .live).arch.p1.progBuf = none ∧ (bare .live).arch.p1.run = .none
    ∧ (bare .live).arch.p1.findBlock .opened = some 0
    ∧ (bare .live).arch.p1.blocks[0]? = some ⟨.opened, 2, some 1, some 3, none⟩
    ∧ (bare .live).arch.p1.findBlock .erasing = none ∧ 3 < (bare .live).arch.seqCounter
    ∧ (let pl : Plane := { progBuf := some ⟨3, .batch, 0, []⟩, stalled := true, stallAlertDue := true }
       pl.staging = none ∧ pl.progBuf = some ⟨3, .batch, 0, []⟩ ∧ pl.stallAlertDue = true ∧ pl.stalled = true) := by decide +kernel

/-- Plane 0 with blocks, a run and its buffers. -/
def planed (blocks : List Block) (run : Run) (prog stage : Option ArchRecord) (stalled : Bool := false) : State :=
  { bare .live with arch := { (bare .live).arch with
      queue := prog.toList ++ stage.toList, seqCounter := 9
      p0 := { blocks := blocks, run := run, progBuf := prog, staging := stage, stalled := stalled } } }

/-- Two records of plane 0. -/
def rec4 : ArchRecord := ⟨4, .batch, 0, [⟨2, 7⟩]⟩
def rec6 : ArchRecord := ⟨6, .batch, 0, [⟨2, 7⟩]⟩
/-- An OPEN block with pages used, and an ERASED one. -/
def openAt (n : Nat) : Block := ⟨.opened, n, some 2, some 2, none⟩
def erased : Block := { state := .erased }

theorem wit_ProgramsPass_start : (planed [openAt 30, erased] .none (some rec4) (some rec6)).arch.p0.findBlock .opened = some 0
    ∧ (planed [openAt 30, erased] .none (some rec4) (some rec6)).arch.p0.findBlock .erasing = none
    ∧ (planed [openAt 30, erased] .none (some rec4) (some rec6)).arch.p0.staging.isSome = true
    ∧ (planed [erased] .none (some rec4) (some rec6)).arch.p0.findBlock .opened = none
    ∧ [rec4, rec6].filter (fun q => decide (planeOf q.seq = .p0)) = rec4 :: rec6 :: [] ∧ rec6.seq ≠ rec4.seq
    ∧ (planed [openAt 30] .none none none).arch.p0.run = .none := by decide +kernel

theorem wit_ProgramsPass : State.MemOk (planed [openAt 30, erased] (.record 0 30) (some rec4) (some rec6))
    ∧ (planed [openAt 30, erased] (.record 0 30) (some rec4) (some rec6)).arch.p0.run = .record 0 30
    ∧ (planed [openAt 30, erased] (.record 0 30) (some rec4) (some rec6)).arch.p0.blocks[0]? = some (openAt 30)
    ∧ (openAt 30).state = .opened ∧ rec4.page.length ≤ 128
    ∧ (planed [openAt 30, erased] (.record 0 30) (some rec4) (some rec6)).arch.p0.findBlock .erased = some 1
    ∧ (planed [openAt 30] (.record 0 30) (some rec4) (some rec6)).arch.p0.findBlock .erased = none :=
  ⟨(by decide +kernel : Memory.wf [] = true), by decide +kernel⟩

/-- A hall whose plane 0 programs page 30 of its last block and whose plane 1 erases its last block. -/
def cutting : State :=
  { bare .live with arch := { (bare .live).arch with
      p0 := { blocks := List.replicate 127 {} ++ [openAt 30], run := .record 127 30, progBuf := some rec4 }
      p1 := { blocks := List.replicate 127 {} ++ [{ state := .erasing }], eraseBegun := true } } }

/-- The hypotheses of a program and of an erase cut off by a POWER reset. -/
theorem wit_PowerReset : cutting.MemOk ∧ (∀ p, (cutting.arch.plane p).blocks.length = 128)
    ∧ (cutting.arch.plane .p0).run = .record 127 30 ∧ (cutting.arch.plane .p0).eraseBegun = false
    ∧ (cutting.arch.plane .p1).eraseBegun = true ∧ (cutting.arch.plane .p1).findBlock .erasing = some 127 :=
  ⟨(by decide +kernel : Memory.wf [] = true), fun p => by cases p <;> decide +kernel, by decide +kernel⟩

/-- A RETIRED block that failed with record 4. -/
def failed4 : Block := ⟨.retired, 13, some 2, some 2, some 4⟩

theorem wit_ProgramsFail : State.MemOk (planed [failed4, erased] (.tail 0) (some rec4) (some rec6))
    ∧ (planed [failed4, erased] (.tail 0) (some rec4) (some rec6)).arch.p0.run = .tail 0
    ∧ (planed [failed4, erased] (.tail 0) (some rec4) (some rec6)).arch.p0.findBlock .opened = none
    ∧ (planed [failed4, erased] (.tail 0) (some rec4) (some rec6)).arch.p0.findBlock .erasing = none
    ∧ (planed [failed4, erased] (.tail 0) (some rec4) (some rec6)).arch.p0.blocks[0]? = some failed4
    ∧ failed4.failed = some 4 ∧ 4 < 2 ^ 32
    ∧ (planed [failed4, erased] (.tail 0) (some rec4) (some rec6)).arch.p0.findBlock .erased = some 1
    ∧ (planed [failed4] (.tail 0) (some rec4) (some rec6)).arch.p0.findBlock .erased = none
    ∧ (planed [openAt 12] (.record 0 12) (some rec4) (some rec6)).arch.p0.run = .record 0 12 :=
  ⟨(by decide +kernel : Memory.wf [] = true), by decide +kernel⟩

/-- A block whose erase is accepted. -/
def erasing : Block := ⟨.erasing, 31, some 2, some 2, none⟩

theorem wit_Erases : (planed [openAt 3, erasing] .none none none).arch.p0.findBlock .erasing = some 1
    ∧ State.MemOk (planed [openAt 3, erasing] .none none none)
    ∧ (planed [openAt 3, erasing] .none none none).arch.p0.run = .none
    ∧ (planed [openAt 3, erasing] (.tailDue 0) none none).arch.p0.run = .tailDue 0
    ∧ (planed [openAt 3, erasing] (.record 0 3) (some rec4) none).arch.p0.run = .record 0 3
    ∧ (planed [failed4, erasing] .none (some rec4) none true).arch.p0.stalled = true
    ∧ (planed [failed4, erasing] .none (some rec4) none true).arch.p0.findBlock .erased = none
    ∧ (planed [failed4, erasing] .none (some rec4) none true).arch.p0.findBlock .opened = none
    ∧ (planed [failed4, erasing] .none (some rec4) none true).arch.p0.blocks.countP (fun y => decide (y.state = .erasing)) = 1 :=
  ⟨by decide +kernel, (by decide +kernel : Memory.wf [] = true), by decide +kernel⟩

theorem wit_ScanRuns_classify : State.reset.arch.scan = some {} ∧ State.reset.arch.p1.blocks[127]? = some ({} : Block)
    ∧ ({} : Block).state = .unread := by decide +kernel

/-- A blank block, a block with a valid retire mark, one with page 0 alone, and pages of the kinds the scan
reads more of. -/
theorem wit_ScanRuns_lines : (∀ r ∈ [RecordKind.exportMark, .sessionOpen, .sessionClosed, .sessionDiscarded, .sessionLost],
      let bs := pageBytes 4 r.code [0, 0, 0, 0, 0, 3] ++ List.replicate 114 0xFF
      pageValid bs = true ∧ pageKind bs = r.code ∧ pageSeq bs = 4) ∧ pageBlank (List.replicate 128 0xFF) = true
    ∧ retireValid (retireMark 4 ++ List.replicate 120 0xFF) = true
    ∧ pageBlank (rec4.page ++ List.replicate 108 0xFF) = false ∧ pageValid (rec4.page ++ List.replicate 108 0xFF) = true := by
  decide +kernel

/-- A scan that has read two blocks in each plane. -/
def scanned (c : Scan) (b0 b1 : Block) : State :=
  { bare .idle with arch := { (bare .idle).arch with
      scan := some c, p0 := { blocks := [b0, b1] }, p1 := { blocks := [b1, erased] } } }

/-- A candidate OPEN block with a highest number. -/
def candidate (h : Nat) : Block := ⟨.candidate, 3, some 2, some h, none⟩

theorem wit_ScanRuns_end : (scanned { sessionSeen := some (2, 1, 4210) } (candidate 6) erased).arch.scan
      = some { sessionSeen := some (2, 1, 4210) }
    ∧ (∀ x ∈ (scanned {} (candidate 6) erased).arch.p0.blocks, x.state ≠ .unread)
    ∧ (∀ x ∈ (scanned {} (candidate 6) erased).arch.p1.blocks, x.state ≠ .unread)
    ∧ (∃ x, (scanned {} (candidate 6) (candidate 4)).arch.p0.blocks[0]? = some x ∧ x.state = .candidate ∧ x.highest = some 6)
    ∧ (∀ z ∈ (scanned {} (candidate 6) (candidate 4)).arch.p0.blocks, ∀ g ∈ z.highest, g ≤ 6)
    ∧ (scanned {} failed4 erased).arch.p0.findBlock .erased = some 1
    ∧ (scanned {} failed4 failed4).arch.p0.findBlock .erased = none ∧ (scanned {} failed4 erased).arch.queue.length < 32 :=
  ⟨by decide +kernel, by decide +kernel, by decide +kernel, ⟨_, rfl, by decide +kernel⟩, by decide +kernel⟩

/-- Record 4 in page 0 of plane 0's block 0. -/
def stored4 : State :=
  { planed [⟨.opened, 1, some 4, some 4, none⟩, erased] .none none none with
    arch := { (planed [⟨.opened, 1, some 4, some 4, none⟩, erased] .none none none).arch with
      mem := programPage [] .p0 0 0 rec4.page } }

theorem wit_ArchiveCommands_read : stored4.ready (.desk .d0) 1 ∧ planeOf 4 = .p0 ∧ (∀ r ∈ stored4.arch.queue, r.seq ≠ 4)
    ∧ (∀ x ∈ stored4.arch.p0.blocks, x.state ≠ .erasing) ∧ 4 < stored4.arch.seqCounter
    ∧ stored4.arch.p0.blocks[0]? = some ⟨.opened, 1, some 4, some 4, none⟩
    ∧ pageBlank (Machine.readPage stored4.arch.mem .p0 0 0) = false ∧ pageSeq (Machine.readPage stored4.arch.mem .p0 0 0) = 4
    ∧ pageValid (Machine.readPage stored4.arch.mem .p0 0 0) = true ∧ stored4.arch.seqCounter ≤ 9
    ∧ (∃ r ∈ (planed [] .none (some rec4) none).arch.queue, r.seq = 4) := by decide +kernel

theorem wit_ArchiveCommands : (bare .idle).ready .g 1 ∧ (bare .idle).hall.session ≠ .closing ∧ (bare .idle).arch.exported ≤ 0
    ∧ 4 ≤ (bare .idle).arch.lastStored ∧ (bare .idle).arch.lastStored < 5 ∧ (bare .idle).arch.queue.length < 32
    ∧ 32 ≤ (fullQueue (bare .idle)).arch.queue.length ∧ (∀ r ∈ (fullQueue (bare .idle)).arch.queue, 4 < r.seq)
    ∧ (1, PlaneId.p1) ∈ [(0, PlaneId.p0), (1, PlaneId.p1)]
    ∧ (let x : Block := ⟨.full, 31, some 2, some 2, none⟩
       x.state = .full ∧ x.highest = some 2 ∧ 2 < 3 ∧ 2 ≤ 2) := by decide +kernel

/-! ## Chapters 10 and 11 -/

/-- A PAGE whose responses fill a frame: 16 NUMERIC responses of 6 columns and one option response. -/
def longPage : Cmd :=
  .page ⟨99999999, 1, 999999999, 4, 4, 17, .option 0xFF :: List.replicate 16 (.column 6 (List.replicate 6 0x3FF))⟩

theorem wit_CommandFrames : longPage.wf = true ∧ (Cmd.returnTags 255 (List.replicate 16 0xFFFFFFFF)).wf = true
    ∧ (Cmd.portStatus).wf = true ∧ ((bare .live).port .k).asm = .hunting ∧ (1 : Byte) ≠ 0 := by decide +kernel

/-- The first two bytes of a frame have been taken. -/
theorem wit_PortsReceiveAndSend : ((bare .live).port .g).asm = .hunting ∧ (0x00 : Byte) ≠ 0xA5
    ∧ (((bare .live).mapPort .g (fun ps => { ps with asm := .collecting [] false })).port .g).asm = .collecting [] false
    ∧ ((0x01 : Byte).toNat < 2) ∧ 240 < (0xF1 : Byte).toNat ∧ 2 ≤ (0x02 : Byte).toNat ∧ (0xF0 : Byte).toNat ≤ 240
    ∧ [0x01, 0x70, 0x00].length + 1 = (0x02 : Byte).toNat + 2
    ∧ ([0x01, 0x70, 0x00] : List Byte) = 0x01 :: 0x70 :: [] ++ [0x00]
    ∧ (let ps : PortState := { replySlot := some ⟨1, 0xF0, .ok, []⟩ }
       ps.sending = .none ∧ ps.replySlot.isSome = true)
    ∧ (let ps : PortState := { sending := .reply, buffer := some ⟨1, .portStatus⟩ }
       ps.sending = .reply ∧ ps.buffer = some ⟨1, .portStatus⟩ ∧ linkCommand (.portStatus .g 1) = some (.g, 1, .portStatus))
    ∧ (let ps : PortState := { notices := [.archiveAlert (.stalled 0 1) 5] }
       ps.sending = .none ∧ ps.replySlot = none ∧ ps.notices ≠ [] ∧ ps.notices.length < 32)
    ∧ 32 ≤ (List.replicate 32 (Notice.archiveAlert (.stalled 0 1) 5)).length
    ∧ (let ps : PortState := { sending := .reply, replySlot := some ⟨1, 0xF0, .layout, []⟩ }
       ps.sending = .reply ∧ ps.replySlot = some ⟨1, 0xF0, .layout, []⟩)
    ∧ (0x7F : Byte).toNat < 0x80
    ∧ (let ps : PortState := { sending := .notice (.archiveAlert (.stalled 0 1) 5) }
       ps.sending = .notice (.archiveAlert (.stalled 0 1) 5)) := by decide +kernel

theorem wit_RecordsRead : (one .writing .writing).ready (.desk .d3) 255 ∧ Port.desk .d3 ≠ .k
    ∧ ((one .writing .writing).cand? 0).isSome = true ∧ 0 ≤ 639 ∧ (one .writing .writing).findCand 1 = some 0
    ∧ (one .writing .writing).seat? 511 = some seat511 ∧ ((one .writing .writing).sitting? 1).isSome = true := by decide +kernel

end Sys2Proof.Tests
end

section
/-! SUPPORT. Candidate conduct (Chapter 5): the tests of a seat admission, row by row (R81 to R85), and the
CALL and DONE reports (R91, R92). -/

namespace Sys2Proof.Machine

/-! ## The report that leaves the inbox (R47)

Taking a report changes the seat line alone.  The records are read as before by definition, so a fact of the
hall before the report is one after it. -/

@[simp] theorem State.leaveInbox_hall (s : State) : s.leaveInbox.hall = s.hall := rfl

@[simp] theorem State.leaveInbox_held (s : State) (m : Nat) : s.leaveInbox.held m = s.held m := rfl

section Reports
variable {s : State} {n time : Nat} {rest : List Report}

/-- A CARD at the head of the inbox is taken and judged as an admission (R80, R81). -/
theorem exec_card_eq {number : Nat} (h : s.line.inbox = ⟨n, .card number, time⟩ :: rest) :
    exec .card s = .next (s.leaveInbox.admitAtSeat n number) := by
  have harm : exec .card s = execCard s := rfl
  rw [harm, execCard, h]

/-- A CALL at the head of the inbox is taken and does what R92 gives at its seat. -/
theorem exec_callReport_eq (h : s.line.inbox = ⟨n, .call, time⟩ :: rest) :
    exec .callReport s = .next (s.leaveInbox.callAt n) := by
  have harm : exec .callReport s = execCallReport s := rfl
  rw [harm, execCallReport, h]

/-- A DONE at the head of the inbox is taken and judged at its seat by R91. -/
theorem exec_doneReport_eq (h : s.line.inbox = ⟨n, .done, time⟩ :: rest) :
    exec .doneReport s = .next (s.leaveInbox.doneAt n) := by
  have harm : exec .doneReport s = execDoneReport s := rfl
  rw [harm, execDoneReport, h]

end Reports

/-! ## Candidate numbers found (section 1.7) -/

theorem State.findCand_eq_none {s : State} {number : Nat} (h : ∀ c ∈ s.hall.cands, c.number ≠ number) :
    s.findCand number = none := by
  simpa [State.findCand, List.findIdx?_eq_none_iff] using h

/-- The record at the index found holds the number sought. -/
theorem State.number_of_findCand {s : State} {number i : Nat} {c : Cand} (hi : s.findCand number = some i)
    (hc : s.cand? i = some c) : c.number = number := by
  obtain ⟨hlt, hnum, -⟩ := List.findIdx?_eq_some_iff_getElem.mp hi
  obtain ⟨-, rfl⟩ := List.getElem?_eq_some_iff.mp hc
  simpa using hnum

theorem State.candByNumber_eq_none {s : State} {number : Nat} (h : s.findCand number = none) :
    s.candByNumber number = none := by
  simp [State.candByNumber, h]

theorem State.candByNumber_eq_some {s : State} {number i : Nat} {c : Cand} (hi : s.findCand number = some i)
    (hc : s.cand? i = some c) : s.candByNumber number = some (i, c) := by
  simp [State.candByNumber, hi, hc]

/-! ## Codes and notices at a seat (R84, R85) -/

theorem State.writeDisplay_seat? (s : State) (n m : Nat) (f : Display → Display) :
    (s.writeDisplay n f).seat? m =
      if n = m then (s.seat? m).map (fun x => { x with display := f x.display, owed := true }) else s.seat? m :=
  State.mapSeat_seat? s n m _ (fun _ => rfl)

/-- A code written at a seat leaves the seat's zone, which routes the WRONG_SEAT notice. -/
theorem State.writeCode_notifyWrongSeat {s : State} {n : Nat} {z : Seat} (hz : s.seat? n = some z)
    (k : DispCode) (arg number : Nat) (right : Option Nat) :
    (s.writeCode n k arg).notifyWrongSeat n number right =
      (s.writeCode n k arg).notifyZone z.zone (.wrongSeat n number right s.hall.time) := by
  have hseat : (s.writeCode n k arg).seat? n =
      some { z with display := z.display.withCode k arg, owed := true } := by
    rw [State.writeCode, State.writeDisplay_seat?, if_pos rfl, hz, Option.map_some]
  rw [State.notifyWrongSeat, hseat]
  rfl

/-! ## Tests 1 to 4 of a seat admission (R81) -/

theorem Sitting.admits_iff (x : Sitting) :
    x.admits = true ↔ x.state = .opened ∨ x.state = .reading ∨ x.state = .writing := by
  unfold Sitting.admits
  cases x.state <;> simp

/-- The states and the run that make a candidate wait are those tests 3 and 4 refuse (R81). -/
theorem Sitting.refused_of_wait {x : Sitting}
    (h : x.state = .defined ∨ x.state = .collecting ∨ x.state = .closed ∨ x.state = .final
      ∨ x.inFlight = true) : ¬ x.admits = true ∨ x.inFlight = true := by
  rw [Sitting.admits_iff]
  obtain h | h | h | h | h := h <;> simp [h]

theorem Sitting.not_refused {x : Sitting} (h : x.state = .opened ∨ x.state = .reading ∨ x.state = .writing)
    (hflight : x.inFlight = false) : ¬ (¬ x.admits = true ∨ x.inFlight = true) := by
  simp [x.admits_iff.mpr h, hflight]

section Admission
variable {s : State} {n number i : Nat} {c : Cand} {x : Sitting}

theorem State.admitAtSeat_of_not_live (h : s.hall.session ≠ .live) :
    s.admitAtSeat n number = s.writeCode n (.cond .wait) 0 := by
  rw [State.admitAtSeat, if_pos h, State.failAt]

theorem State.admitAtSeat_of_unknown (hlive : s.hall.session = .live) (h : s.findCand number = none) :
    s.admitAtSeat n number = s.writeCode n (.cond .unknown) 0 := by
  rw [State.admitAtSeat, if_neg (not_not_intro hlive), State.candByNumber_eq_none h]
  rfl

/-- In LIVE, a number that is found is judged by its sitting first, and at the seat only when the sitting
admits and no run is in flight for it. -/
theorem State.admitAtSeat_of_found (hlive : s.hall.session = .live) (hi : s.findCand number = some i)
    (hc : s.cand? i = some c) (hx : s.sitting? c.sitting = some x) :
    s.admitAtSeat n number =
      if ¬ x.admits ∨ x.inFlight then s.writeCode n (.cond .wait) 0 else s.judgeAtSeat n i c x := by
  rw [State.admitAtSeat, if_neg (not_not_intro hlive), State.candByNumber_eq_some hi hc]
  simp only [hx, State.failAt]

/-! ## Tests 5 to 8, by the candidate's state and seat (R82, R83) -/

theorem State.judgeAtSeat_of_gone
    (h : c.state = .finished ∨ c.state = .collected ∨ c.state = .absent ∨ c.state = .withdrawn) :
    s.judgeAtSeat n i c x = s.writeCode n (.cond .already) 0 := by
  obtain h | h | h | h := h <;> simp only [State.judgeAtSeat, h, State.failAt]

/-- A candidate already in is shown again at its own seat, and refused at every other (R82). -/
theorem State.judgeAtSeat_of_in (h : c.state = .admitted ∨ c.state = .writing ∨ c.state = .resting) :
    s.judgeAtSeat n i c x =
      if c.seat = some n then (s.showCand i).clearKeys n else s.writeCode n (.cond .already) 0 := by
  obtain h | h | h := h <;> simp only [State.judgeAtSeat, h, State.failAt]

theorem State.judgeAtSeat_of_unplaced {z : Seat} (h : c.state = .expected) (hseat : c.seat = none)
    (hz : s.seat? n = some z) :
    s.judgeAtSeat n i c x = (s.writeCode n (.cond .unplaced) 0).notifyZone z.zone
      (.wrongSeat n c.number none s.hall.time) := by
  simp only [State.judgeAtSeat, h, hseat, State.failAt]
  exact State.writeCode_notifyWrongSeat hz ..

theorem State.judgeAtSeat_of_wrongSeat {z : Seat} {m : Nat} (h : c.state = .expected)
    (hseat : c.seat = some m) (hm : m ≠ n) (hz : s.seat? n = some z) :
    s.judgeAtSeat n i c x = (s.writeCode n (.cond .wrongSeat) m).notifyZone z.zone
      (.wrongSeat n c.number (some m) s.hall.time) := by
  simp only [State.judgeAtSeat, h, hseat, if_pos hm, State.failAt]
  exact State.writeCode_notifyWrongSeat hz ..

/-- At its own seat an EXPECTED candidate is refused by the late test alone (R74, R83), and else admitted. -/
theorem State.judgeAtSeat_of_ownSeat (h : c.state = .expected) (hseat : c.seat = some n) :
    s.judgeAtSeat n i c x =
      if x.state = .writing ∧ c.entitled ≤ x.sel then s.writeCode n (.cond .tooLate) 0
      else (s.admitCand i c x).clearKeys n := by
  simp [State.judgeAtSeat, h, hseat, State.failAt, tooLate]

end Admission

/-- Settles O35: the tests in the order of R81 to R83, each by its lemma on the state the report has left. -/
theorem cardJudged : Obligations.CardJudged := by
  unfold Obligations.CardJudged
  intro s n number time rest z hbox hz
  rw [exec_card_eq hbox]
  refine ⟨fun hlive => ?_, fun hlive hnone => ?_, fun i c x hlive hi hc hx => ?_⟩
  · rw [State.admitAtSeat_of_not_live (s := s.leaveInbox) hlive]
  · rw [State.admitAtSeat_of_unknown (s := s.leaveInbox) hlive (State.findCand_eq_none hnone)]
  rw [State.admitAtSeat_of_found (s := s.leaveInbox) hlive hi hc hx]
  obtain rfl : c.number = number := State.number_of_findCand hi hc
  refine ⟨fun hwait => ?wait, fun hstate hflight => ?judged⟩
  case wait => rw [if_pos (Sitting.refused_of_wait hwait)]
  case judged =>
    rw [if_neg (Sitting.not_refused hstate hflight)]
    refine ⟨fun hgone => ?_, fun hin helse => ?_, fun hin hown => ?_, fun hexp hnone => ?_,
      fun m hexp hm hne => ?_, fun hexp hown hw hlate => ?_, fun hexp hown hearly => ?_⟩
    · rw [State.judgeAtSeat_of_gone hgone]
    · rw [State.judgeAtSeat_of_in hin, if_neg helse]
    · rw [State.judgeAtSeat_of_in hin, if_pos hown, State.clearKeys]
    · rw [State.judgeAtSeat_of_unplaced (s := s.leaveInbox) hexp hnone hz, State.leaveInbox_hall]
    · rw [State.judgeAtSeat_of_wrongSeat (s := s.leaveInbox) hexp hm hne hz, State.leaveInbox_hall]
    · rw [State.judgeAtSeat_of_ownSeat hexp hown, if_pos ⟨hw, hlate⟩]
    · have hintime : ¬ (x.state = .writing ∧ c.entitled ≤ x.sel) :=
        fun ⟨hw, hlate⟩ => absurd (hearly hw) (Nat.not_lt.mpr hlate)
      rw [State.judgeAtSeat_of_ownSeat hexp hown, if_neg hintime, State.clearKeys]

/-! ## CALL and DONE at a seat (R80, R91, R92) -/

section Occupant
variable {s : State} {n i : Nat} {x : Seat} {c : Cand}

theorem State.occupantOf_of_empty (hx : s.seat? n = some x) (ho : x.occupant = none) :
    s.occupantOf n = none := by
  simp [State.occupantOf, hx, ho]

theorem State.occupantOf_of_occupied (hx : s.seat? n = some x) (ho : x.occupant = some i)
    (hc : s.cand? i = some c) : s.occupantOf n = some (x, i, c) := by
  simp [State.occupantOf, hx, ho, hc]

theorem State.callAt_of_empty (h : s.occupantOf n = none) : s.callAt n = s := by
  rw [State.callAt, h]

theorem State.callAt_of_occupied (h : s.occupantOf n = some (x, i, c)) :
    s.callAt n = (s.writeDisplay n (fun d => { d with lamp := true })).notifyZone x.zone
      (.call n c.number c.state s.hall.time) := by
  rw [State.callAt, h]

theorem State.doneAt_of_empty (h : s.occupantOf n = none) : s.doneAt n = s := by
  rw [State.doneAt, h]

theorem State.exitOpen_eq {y : Sitting} (hy : s.sitting? c.sitting = some y) : s.exitOpen c = y.exitOpen := by
  simp [State.exitOpen, hy]

/-- The rows of R91 on the occupant, in order. -/
theorem State.doneAt_of_occupied {y : Sitting} (h : s.occupantOf n = some (x, i, c))
    (hy : s.sitting? c.sitting = some y) :
    s.doneAt n =
      if c.state = .writing ∧ s.held c.sitting = false ∧ y.exitOpen = true ∧ c.exitClosed = false then
        s.finishCand i .early
      else if c.state = .writing ∧ c.exitClosed = true then s.writeCode n (.cond .exitClosed) 0
      else s.writeCode n (.cond .wait) 0 := by
  rw [State.doneAt, h]
  simp only [State.exitOpen_eq hy, State.failAt, Bool.not_eq_true]

end Occupant

/-- Settles O36: a CALL and a DONE each dropped at an empty seat, and else done on the occupant. -/
theorem callAndDone : Obligations.CallAndDone := by
  unfold Obligations.CallAndDone
  intro s n time rest x hx
  refine ⟨fun hcall => ?call, fun hdone => ?done⟩
  case call =>
    rw [exec_callReport_eq hcall]
    refine ⟨fun hempty => ?_, fun i c ho hc => ?_⟩
    · rw [State.callAt_of_empty (State.occupantOf_of_empty (s := s.leaveInbox) hx hempty)]
    · have hocc := State.occupantOf_of_occupied (s := s.leaveInbox) hx ho hc
      rw [State.callAt_of_occupied hocc, State.leaveInbox_hall]
  case done =>
    rw [exec_doneReport_eq hdone]
    refine ⟨fun hempty => ?_, fun i c y ho hc hy => ?_⟩
    · rw [State.doneAt_of_empty (State.occupantOf_of_empty (s := s.leaveInbox) hx hempty)]
    · have hocc := State.occupantOf_of_occupied (s := s.leaveInbox) hx ho hc
      rw [State.doneAt_of_occupied hocc hy, State.leaveInbox_held]

end Sys2Proof.Machine
end

section
/-! SUPPORT. The batch (Chapter 7): what BATCH_OPEN and BATCH_CLOSE answer, test by test (R120, R121). -/

namespace Sys2Proof.Machine

/-! ## A command's answer on a port that is ready (R165, R166) -/

section Intake
variable {s t : State} {p : Port} {tag : Byte} {c : Cmd}

/-- A command that passes the gates before the session's is judged by its own rule in a session state that
R3 marks for it, and refused with STATE in every other (R166). -/
theorem State.judge_at_session (hs : s.arch.scan = none) (hu : Cmd.isUnknown c = false)
    (hr : roleTakes p c.code = true) (hl : Cmd.isBadLength c = false) :
    s.judge p c = if sessionTakes c s.hall.session then judgeCmd p c s else refuse s .state := by
  cases hst : sessionTakes c s.hall.session with
  | true => rw [State.judge, State.gate_none hs hu hr hl hst, if_pos rfl]
  | false => simp [State.judge, State.gate, State.scanning, hs, hu, hr, hl, hst]

theorem State.arrive_refused {r : ResultCode} (h : s.ready p tag) (hjudge : s.judge p c = refuse s r) :
    s.arrive p tag c = s.replied p tag c r [] := by
  rw [State.arrive_ready c h, hjudge, refuse]

theorem State.arrive_okay {fields : List Field} (h : s.ready p tag) (hjudge : s.judge p c = okay t fields) :
    s.arrive p tag c = t.replied p tag c .ok fields := by
  rw [State.arrive_ready c h, hjudge, okay]

end Intake

/-! ## The two commands at port K (R3, R167) -/

section Events
variable {s : State} {tag : Byte} {n : Nat}

theorem exec_batchOpen_eq : exec (.batchOpen .k tag n) s = .next (s.arrive .k tag (.batchOpen n)) := rfl

theorem exec_batchClose_eq : exec (.batchClose .k tag) s = .next (s.arrive .k tag .batchClose) := rfl

theorem State.judge_batchOpen (hs : s.arch.scan = none) :
    s.judge .k (.batchOpen n) = if s.hall.session = .live then cmdBatchOpen n s else refuse s .state := by
  rw [State.judge_at_session hs rfl rfl rfl]
  simp only [sessionTakes, decide_eq_true_eq, judgeCmd]

theorem State.judge_batchClose (hs : s.arch.scan = none) :
    s.judge .k .batchClose = if s.hall.session = .live then cmdBatchClose s else refuse s .state := by
  rw [State.judge_at_session hs rfl rfl rfl]
  simp only [sessionTakes, decide_eq_true_eq, judgeCmd]

end Events

/-! ## The tests of BATCH_OPEN (R120) -/

section BatchOpen
variable {s : State} {n : Nat}

theorem cmdBatchOpen_of_range (h : n = 0 ∨ 65535 < n) : cmdBatchOpen n s = refuse s .range := by
  rw [cmdBatchOpen, if_pos h]

/-- A number in range is judged by the batch state alone (R120). -/
theorem cmdBatchOpen_of_inRange (hlo : 1 ≤ n) (hhi : n ≤ 65535) :
    cmdBatchOpen n s =
      if s.marking.batch.opened then refuse s .state
      else okay (s.mapBatch (fun _ => { opened := true, number := n, openedAt := s.hall.time })) := by
  have hrange : ¬ (n = 0 ∨ 65535 < n) := by omega
  rw [cmdBatchOpen, if_neg hrange]

end BatchOpen

/-! ## The tests of BATCH_CLOSE (R121) -/

theorem Slot.holdsBatch_iff (y : Slot) : y.holdsBatch = true ↔ y.state = .scoring ∨ y.state = .waiting := by
  unfold Slot.holdsBatch
  cases y.state <;> simp

theorem Slot.holdsBatch_eq_false {y : Slot} (h : y.state = .free ∨ y.state = .gathering) :
    y.holdsBatch = false := by
  rw [Slot.holdsBatch]
  obtain h | h := h <;> rw [h]

/-- A slot after a close: freed if it was GATHERING, as its sheet is abandoned (R121). -/
def Slot.abandon (y : Slot) : Slot := if y.state = .gathering then {} else y

/-- The number of sheets a close abandons (R121). -/
def State.abandoned (s : State) : Nat := s.marking.slots.countP (fun y => decide (y.state = .gathering))

/-- Every GATHERING slot freed (R121). -/
def State.abandonSheets (s : State) : State :=
  { s with marking := { s.marking with slots := s.marking.slots.map Slot.abandon } }

/-- The body of the BATCH record (R121). -/
def State.batchBody (s : State) : List Field :=
  [s.sessionField, ⟨2, s.marking.batch.number⟩, ⟨4, s.marking.batch.openedAt⟩]
    ++ s.marking.batch.closeFields s.abandoned ++ [s.timeField]

section BatchClose
variable {s : State}

theorem cmdBatchClose_of_none (h : s.marking.batch.opened = false) : cmdBatchClose s = refuse s .state := by
  have hclosed : ¬ s.marking.batch.opened = true := by simp [h]
  rw [cmdBatchClose, if_pos hclosed]

theorem cmdBatchClose_of_held (hopen : s.marking.batch.opened = true)
    (h : ∃ y ∈ s.marking.slots, y.state = .scoring ∨ y.state = .waiting) :
    cmdBatchClose s = refuse s .busy := by
  have hany : s.marking.slots.any Slot.holdsBatch = true := by
    simpa only [List.any_eq_true, Slot.holdsBatch_iff] using h
  rw [cmdBatchClose, if_neg (not_not_intro hopen), if_pos hany]

/-- With no slot in SCORING or WAITING an open batch closes (R121). -/
theorem cmdBatchClose_of_unheld (hopen : s.marking.batch.opened = true)
    (h : ∀ y ∈ s.marking.slots, y.state = .free ∨ y.state = .gathering) :
    cmdBatchClose s =
      okay ((s.abandonSheets.offer .batch s.batchBody).mapBatch (fun b => { b with opened := false }))
        (s.marking.batch.closeFields s.abandoned) := by
  have hany : ¬ s.marking.slots.any Slot.holdsBatch = true := by
    simpa using fun y hy => Slot.holdsBatch_eq_false (h y hy)
  rw [cmdBatchClose, if_neg (not_not_intro hopen), if_neg hany, ← List.countP_eq_length_filter]
  rfl

end BatchClose

/-- Settles O44: outside LIVE the session gate answers, and in LIVE the command's own tests in order. -/
theorem batchesOpened : Obligations.BatchesOpened := by
  unfold Obligations.BatchesOpened
  intro tag s hready
  have ⟨hscan, _⟩ := hready
  have hopens := fun n => State.judge_batchOpen (n := n) hscan
  have hcloses := State.judge_batchClose hscan
  simp only [exec_batchOpen_eq, exec_batchClose_eq]
  refine ⟨fun hlive => ⟨fun n => ?_, ?_⟩, fun hlive => ?live⟩
  · rw [State.arrive_refused hready ((hopens n).trans (if_neg hlive))]
  · rw [State.arrive_refused hready (hcloses.trans (if_neg hlive))]
  case live =>
    simp only [if_pos hlive] at hopens hcloses
    refine ⟨fun n => ⟨fun hrange => ?_, fun hlo hhi hopen => ?_, fun hlo hhi hnone => ?_⟩,
      fun hnone => ?_, fun hopen hheld => ?_, fun hopen hunheld => ?_⟩
    · rw [State.arrive_refused hready ((hopens n).trans (cmdBatchOpen_of_range hrange))]
    · have hjudge := (hopens n).trans (cmdBatchOpen_of_inRange hlo hhi)
      rw [State.arrive_refused hready (hjudge.trans (if_pos hopen))]
    · have hjudge := (hopens n).trans (cmdBatchOpen_of_inRange hlo hhi)
      rw [State.arrive_okay hready (hjudge.trans (if_neg (by simp [hnone]))), State.mapBatch]
    · rw [State.arrive_refused hready (hcloses.trans (cmdBatchClose_of_none hnone))]
    · rw [State.arrive_refused hready (hcloses.trans (cmdBatchClose_of_held hopen hheld))]
    · rw [State.arrive_okay hready (hcloses.trans (cmdBatchClose_of_unheld hopen hunheld))]
      rfl

end Sys2Proof.Machine
end

section
/-! SUPPORT. Scoring (Chapter 8): the marks of an item counted, and the outcome and the credit of each item
kind, test by test (R131 to R134). -/

namespace Sys2Proof.Machine

/-! ## The marked places of a word

A byte of option marks and a column are both read by listing the places below a bound that are marked. -/

section Places
variable {q : Nat → Bool} {n d : Nat}

theorem filter_range_eq_singleton_iff :
    (List.range n).filter q = [d] ↔ d < n ∧ ∀ i, i < n → (q i = true ↔ i = d) := by
  rw [← List.perm_singleton,
    List.perm_ext_iff_of_nodup (List.nodup_range.filter q) (List.nodup_singleton d)]
  simp only [List.mem_filter, List.mem_range, List.mem_singleton]
  constructor
  · intro h
    exact ⟨((h d).2 rfl).1, fun i hi => ⟨fun hq => (h i).1 ⟨hi, hq⟩, fun hd => ((h i).2 hd).2⟩⟩
  · rintro ⟨hd, h⟩ i
    exact ⟨fun ⟨hi, hq⟩ => (h i hi).1 hq, fun hi => ⟨hi ▸ hd, (h i (hi ▸ hd)).2 hi⟩⟩

theorem two_le_length_filter_range_iff :
    2 ≤ ((List.range n).filter q).length ↔ ∃ a b, a < b ∧ b < n ∧ q a = true ∧ q b = true := by
  constructor
  · intro h
    have hsorted : ((List.range n).filter q).Pairwise (· < ·) := List.pairwise_lt_range.filter q
    have hmem : ∀ i ∈ (List.range n).filter q, i < n ∧ q i = true := fun i hi => by simpa using hi
    match hl : (List.range n).filter q with
    | [] | [_] => simp [hl] at h
    | a :: b :: t =>
      rw [hl] at hsorted hmem
      have hab : a < b := List.rel_of_pairwise_cons hsorted (by simp)
      exact ⟨a, b, hab, (hmem b (by simp)).1, (hmem a (by simp)).2, (hmem b (by simp)).2⟩
  · rintro ⟨a, b, hab, hb, hqa, hqb⟩
    have hsub : [a, b] ⊆ (List.range n).filter q := by
      simp [hqa, hqb, hb, hab.trans hb]
    simpa using (List.subperm_of_subset (by simp [hab.ne]) hsub).length_le

end Places

/-! ## Marks counted (R131, R133) -/

section Marks
variable {m k : BitVec 8} {a b n : Nat}

theorem markCount_eq_zero_iff : markCount m = 0 ↔ ∀ i, i < 8 → m.getLsbD i = false := by
  simp [markCount]

theorem markCount_eq_one (ha : a < 8) (h : ∀ i, i < 8 → (m.getLsbD i = true ↔ i = a)) : markCount m = 1 := by
  rw [markCount, filter_range_eq_singleton_iff.2 ⟨ha, h⟩, List.length_singleton]

theorem two_le_markCount (hab : a ≠ b) (ha : m.getLsbD a = true) (hb : m.getLsbD b = true) :
    2 ≤ markCount m := by
  have ha8 := BitVec.lt_of_getLsbD ha
  have hb8 := BitVec.lt_of_getLsbD hb
  rcases Nat.lt_or_gt_of_ne hab with hlt | hgt
  · exact two_le_length_filter_range_iff.2 ⟨a, b, hlt, hb8, ha, hb⟩
  · exact two_le_length_filter_range_iff.2 ⟨b, a, hgt, ha8, hb, ha⟩

/-- Marks inside and outside a keyed set are all the marks. -/
theorem markCount_and_add_markCount_and_not (m k : BitVec 8) :
    markCount (m &&& k) + markCount (m &&& ~~~k) = markCount m := by
  simp only [markCount, ← List.countP_eq_length_filter]
  rw [List.countP_eq_countP_filter_add (List.range 8) (fun i => m.getLsbD i) (fun i => k.getLsbD i),
    List.countP_filter, List.countP_filter]
  congr 1
  · simp only [BitVec.getLsbD_and]
  · refine List.countP_congr fun i hi => ?_
    simp [List.mem_range.1 hi]

theorem markCount_and_le (m k : BitVec 8) : markCount (m &&& k) ≤ markCount k := by
  have hsplit := markCount_and_add_markCount_and_not k m
  rw [BitVec.and_comm k m] at hsplit
  omega

theorem markCount_not (k : BitVec 8) : markCount (~~~k) = 8 - markCount k := by
  have hsplit := markCount_and_add_markCount_and_not (BitVec.allOnes 8) k
  have hall : markCount (BitVec.allOnes 8) = 8 := by decide
  rw [BitVec.allOnes_and, BitVec.allOnes_and, hall] at hsplit
  omega

theorem markCount_le (k : BitVec 8) : markCount k ≤ 8 := by
  have hrange := List.length_filter_le (fun i => k.getLsbD i) (List.range 8)
  rwa [List.length_range] at hrange

theorem markCount_pos (h : k ≠ 0#8) : 0 < markCount k := by
  refine Nat.pos_of_ne_zero fun hzero => h (BitVec.eq_of_getLsbD_eq fun i hi => ?_)
  rw [markCount_eq_zero_iff.1 hzero i hi, BitVec.getLsbD_zero]

/-- Masking keeps the marks of the option count's options (R131). -/
theorem getLsbD_and_optionMask (hn : n ≤ 8) (i : Nat) :
    (m &&& optionMask n).getLsbD i = (decide (i < n) && m.getLsbD i) := by
  rw [BitVec.getLsbD_and, optionMask, BitVec.getLsbD_ofNat, Nat.testBit_two_pow_sub_one]
  by_cases hi : i < n
  · simp [hi, show i < 8 by omega]
  · simp [hi]

end Marks

/-! ## An item is judged by its kind's tests (R131) -/

section Kinds
variable {x : Sitting} {e : ItemEntry}

theorem scoreItem_single (h : e.kind = .single) (m : BitVec 8) :
    scoreItem x e (.option m) =
      scoreSingle x.invalidPolicy x.penalty e.weight e.keyed (m &&& optionMask e.optionCount) := by
  simp only [scoreItem, h]

theorem scoreItem_multi (h : e.kind = .multi) (m : BitVec 8) :
    scoreItem x e (.option m) =
      scoreMulti x.penalty e.weight e.keyed (m &&& optionMask e.optionCount) := by
  simp only [scoreItem, h]

theorem scoreItem_numeric (h : e.kind = .numeric) (n : Nat) (cols : List (BitVec 16)) :
    scoreItem x e (.column n cols) =
      scoreNumeric x.invalidPolicy x.penalty e.weight e.numericKey e.tolerance (cols.map readColumn) := by
  simp only [scoreItem, h]

theorem invalidCredit_eq (pol : InvalidPolicy) (p w : Nat) :
    invalidCredit pol p w = if pol = .asWrong then -((p : Int) * (w : Int)) else 0 := by
  cases pol <;> rfl

end Kinds

/-! ## A SINGLE item (R132) -/

section Single
variable {pol : InvalidPolicy} {p w a b key : Nat} {keyed marks : BitVec 8}

theorem scoreSingle_of_none (h : ∀ i, i < 8 → marks.getLsbD i = false) :
    scoreSingle pol p w keyed marks = ⟨.blank, 0⟩ := by
  rw [scoreSingle, if_pos (markCount_eq_zero_iff.2 h)]

theorem scoreSingle_of_two (hab : a ≠ b) (ha : marks.getLsbD a = true) (hb : marks.getLsbD b = true) :
    scoreSingle pol p w keyed marks = ⟨.invalid, invalidCredit pol p w⟩ := by
  have htwo := two_le_markCount hab ha hb
  rw [scoreSingle, if_neg (by omega), if_pos htwo]

/-- One mark is judged by whether it is the keyed option. -/
theorem scoreSingle_of_one (ha : a < 8) (hmarks : ∀ i, i < 8 → (marks.getLsbD i = true ↔ i = a))
    (hkeyed : ∀ i, i < 8 → (keyed.getLsbD i = true ↔ i = key)) :
    scoreSingle pol p w keyed marks =
      if a = key then ⟨.correct, fullCredit w⟩ else ⟨.wrong, wrongCredit p w⟩ := by
  have hone := markCount_eq_one ha hmarks
  have hiff : marks = keyed ↔ a = key := by
    constructor
    · intro heq
      exact (hkeyed a ha).1 (heq ▸ (hmarks a ha).2 rfl)
    · intro heq
      exact BitVec.eq_of_getLsbD_eq fun i hi =>
        Bool.eq_iff_iff.2 ((hmarks i hi).trans (heq ▸ (hkeyed i hi).symm))
  rw [scoreSingle, if_neg (by omega), if_neg (by omega)]
  simp only [hiff]

end Single

/-! ## A MULTI item (R133) -/

section Multi
variable {p w k hits extras : Nat} {keyed marks : BitVec 8}

/-- The numerator of a MULTI credit, w × (256 × hits - p × extras). -/
def multiNumerator (p w hits extras : Nat) : Int :=
  (w : Int) * (256 * (hits : Int) - (p : Int) * (extras : Int))

/-- The numerator over k, rounded toward zero. -/
def multiQuotient (p w k hits extras : Nat) : Int := (multiNumerator p w hits extras).tdiv (k : Int)

theorem multiCredit_eq (p w k hits extras : Nat) :
    multiCredit p w k hits extras =
      if multiQuotient p w k hits extras < -((p : Int) * (w : Int)) then -((p : Int) * (w : Int))
      else multiQuotient p w k hits extras := by
  change max (-((p : Int) * (w : Int))) (multiQuotient p w k hits extras) = _
  rcases lt_or_ge (multiQuotient p w k hits extras) (-((p : Int) * (w : Int))) with hlt | hge
  · rw [if_pos hlt, max_eq_left hlt.le]
  · rw [if_neg hge.not_gt, max_eq_right hge]

theorem natAbs_multiNumerator_le (hp : p ≤ 255) (hw : w ≤ 255) (hh : hits ≤ 8) (he : extras ≤ 8) :
    (multiNumerator p w hits extras).natAbs ≤ 522240 := by
  have hpen : p * extras ≤ 255 * 8 := Nat.mul_le_mul hp he
  have hfactor : (256 * (hits : Int) - (p : Int) * (extras : Int)).natAbs ≤ 2048 := by
    rw [← Nat.cast_mul]
    omega
  calc (multiNumerator p w hits extras).natAbs
      = w * (256 * (hits : Int) - (p : Int) * (extras : Int)).natAbs := by
        rw [multiNumerator, Int.natAbs_mul, Int.natAbs_natCast]
    _ ≤ 255 * 2048 := Nat.mul_le_mul hw hfactor

/-- The quotient loses its fraction toward zero. -/
theorem multiQuotient_truncates (p w hits extras : Nat) (hk : 0 < k) :
    let num := multiNumerator p w hits extras
    let q := multiQuotient p w k hits extras
    q.natAbs * k ≤ num.natAbs ∧ num.natAbs < (q.natAbs + 1) * k ∧ (0 ≤ num → 0 ≤ q) ∧ (num ≤ 0 → q ≤ 0) := by
  intro num q
  have hquot : q.natAbs = num.natAbs / k := Int.natAbs_tdiv num k
  have hzero : num ≤ 0 → q ≤ (0 : Int).tdiv k := Int.tdiv_le_tdiv (Int.natCast_pos.2 hk)
  rw [Int.zero_tdiv] at hzero
  rw [hquot]
  exact ⟨Nat.div_mul_le_self _ _, Nat.mul_comm _ k ▸ Nat.lt_mul_div_succ _ hk,
    fun h => Int.tdiv_nonneg h (Int.natCast_nonneg k), hzero⟩

/-- With at most k hits the quotient does not exceed the full credit. -/
theorem multiQuotient_le (hhits : hits ≤ k) : multiQuotient p w k hits extras ≤ fullCredit w := by
  rcases Nat.eq_zero_or_pos k with hk | hk
  · rw [multiQuotient, hk, Nat.cast_zero, Int.tdiv_zero, fullCredit]
    omega
  · have hkz : (0 : Int) < k := Int.natCast_pos.2 hk
    have hfactor : 256 * (hits : Int) - (p : Int) * (extras : Int) ≤ 256 * (k : Int) := by
      have hpen : (0 : Int) ≤ (p : Int) * (extras : Int) := by positivity
      omega
    have hnum : multiNumerator p w hits extras ≤ fullCredit w * k :=
      calc multiNumerator p w hits extras
          ≤ (w : Int) * (256 * (k : Int)) := Int.mul_le_mul_of_nonneg_left hfactor (Int.natCast_nonneg w)
        _ = fullCredit w * k := by rw [fullCredit]; ring
    calc multiQuotient p w k hits extras
        ≤ (fullCredit w * k).tdiv k := Int.tdiv_le_tdiv hkz hnum
      _ = fullCredit w := Int.mul_tdiv_cancel _ hkz.ne'

theorem wrongCredit_nonpos (p w : Nat) : wrongCredit p w ≤ 0 := by
  have hpen : (0 : Int) ≤ (p : Int) * (w : Int) := by positivity
  rw [wrongCredit]
  omega

theorem fullCredit_nonneg (w : Nat) : 0 ≤ fullCredit w := by
  rw [fullCredit]
  omega

theorem multiCredit_le (hhits : hits ≤ k) : multiCredit p w k hits extras ≤ fullCredit w :=
  max_le ((wrongCredit_nonpos p w).trans (fullCredit_nonneg w)) (multiQuotient_le hhits)

theorem scoreMulti_of_none (h : markCount marks = 0) : scoreMulti p w keyed marks = ⟨.blank, 0⟩ := by
  rw [scoreMulti, if_pos h]

theorem scoreMulti_of_exact (hpos : 0 < markCount marks) (hhits : markCount (marks &&& keyed) = markCount keyed)
    (hextras : markCount (marks &&& ~~~keyed) = 0) :
    scoreMulti p w keyed marks = ⟨.correct, fullCredit w⟩ := by
  rw [scoreMulti, if_neg hpos.ne', if_pos ⟨hhits, hextras⟩]

/-- A marked item that is not CORRECT takes its outcome from the sign of its credit. -/
theorem scoreMulti_of_inexact (hpos : 0 < markCount marks)
    (h : ¬ (markCount (marks &&& keyed) = markCount keyed ∧ markCount (marks &&& ~~~keyed) = 0)) :
    let credit := multiCredit p w (markCount keyed) (markCount (marks &&& keyed)) (markCount (marks &&& ~~~keyed))
    scoreMulti p w keyed marks = ⟨if credit ≤ 0 then .wrong else .part, credit⟩ := by
  intro credit
  rw [scoreMulti, if_neg hpos.ne', if_neg h]
  exact (apply_ite (fun o => (⟨o, credit⟩ : Scored)) (credit ≤ 0) .wrong .part).symm

end Multi

/-! ## A NUMERIC item (R134) -/

section Column
variable {m : BitVec 16} {d : Nat}

theorem readColumn_eq_blank_iff : readColumn m = .blank ↔ ∀ d, d < 10 → m.getLsbD d = false := by
  have hnil : readColumn m = .blank ↔ (List.range 10).filter (fun i => m.getLsbD i) = [] := by
    rw [readColumn]
    split
    case h_1 hl => simp [hl]
    case h_2 hl => simp [hl]
    case h_3 hnil _ => simpa using hnil
  rw [hnil, List.filter_eq_nil_iff]
  simp

theorem readColumn_eq_digit_iff :
    readColumn m = .digit d ↔ d < 10 ∧ ∀ i, i < 10 → (m.getLsbD i = true ↔ i = d) := by
  rw [← filter_range_eq_singleton_iff (q := fun i => m.getLsbD i), readColumn]
  split
  case h_1 hl => simp [hl]
  case h_2 hl => simp [hl]
  case h_3 _ hone => simpa using hone d

theorem readColumn_eq_twice_iff :
    readColumn m = .twice ↔ ∃ a b, a < b ∧ b < 10 ∧ m.getLsbD a = true ∧ m.getLsbD b = true := by
  rw [← two_le_length_filter_range_iff (q := fun i => m.getLsbD i), readColumn]
  split
  case h_1 hl => simp [hl]
  case h_2 hl => simp [hl]
  case h_3 hnil hone =>
    match hl : (List.range 10).filter (fun i => m.getLsbD i) with
    | [] => exact absurd hl hnil
    | [a] => exact absurd hl (hone a)
    | _ :: _ :: _ => simp

end Column

section Numeric
variable {pol : InvalidPolicy} {p w key tolerance l k : Nat} {cols pre core post : List ColumnRead}
  {ds : List Nat}

/-- Blank columns before a column that is not blank are set aside, and nothing from that column on. -/
theorem dropWhile_blank_append (hne : core ≠ []) (hhead : core.head hne ≠ .blank) :
    (pre ++ core).dropWhile (fun c => decide (c = .blank)) =
      pre.dropWhile (fun c => decide (c = .blank)) ++ core := by
  have hcore : core.dropWhile (fun c => decide (c = .blank)) = core := by
    obtain ⟨c, t, rfl⟩ := List.exists_cons_of_ne_nil hne
    exact List.dropWhile_cons_of_neg (by simpa using hhead)
  rw [List.dropWhile_append, hcore]
  split
  case isTrue hpre => rw [List.isEmpty_iff.1 hpre, List.nil_append]
  case isFalse => rfl

/-- The columns from the first that is not blank to the last are kept. -/
theorem trimBlanks_append (hne : core ≠ []) (hhead : core.head hne ≠ .blank)
    (hlast : core.getLast hne ≠ .blank) :
    trimBlanks (pre ++ core ++ post) = pre.dropWhile (fun c => decide (c = .blank)) ++ core
      ++ (post.reverse.dropWhile (fun c => decide (c = .blank))).reverse := by
  have hfront : (core ++ post).head (by simp [hne]) ≠ .blank := by
    rwa [List.head_append_of_ne_nil hne]
  have hback : ∀ t : List ColumnRead, (core.reverse ++ t).head (by simp [hne]) ≠ .blank := fun t => by
    rwa [List.head_append_of_ne_nil (by simp [hne]), List.head_reverse]
  rw [trimBlanks, List.append_assoc, dropWhile_blank_append (by simp [hne]) hfront]
  simp only [List.reverse_append, List.append_assoc]
  rw [dropWhile_blank_append (by simp [hne]) (hback _)]
  simp

theorem trimBlanks_of_blank (h : ∀ c ∈ cols, c = .blank) : trimBlanks cols = [] := by
  have hnil : cols.dropWhile (fun c => decide (c = .blank)) = [] :=
    List.dropWhile_eq_nil_iff.2 fun c hc => decide_eq_true (h c hc)
  rw [trimBlanks, hnil]
  rfl

/-- A blank column between two digits is not set aside. -/
theorem blank_mem_trimBlanks {a b : Nat} {mid : List ColumnRead} (h : .blank ∈ mid) :
    .blank ∈ trimBlanks (pre ++ .digit a :: mid ++ .digit b :: post) := by
  have hcut : pre ++ .digit a :: mid ++ .digit b :: post
      = pre ++ (.digit a :: mid ++ [.digit b]) ++ post := by simp
  rw [hcut, trimBlanks_append (by simp) (by simp) (by simp)]
  simp [h]

theorem trimBlanks_blanks_append (hne : core ≠ []) (h : ∀ c ∈ core, c ≠ .blank) :
    trimBlanks (List.replicate l .blank ++ core ++ List.replicate k .blank) = core := by
  have hblank : ∀ n : Nat, (List.replicate n ColumnRead.blank).dropWhile (fun c => decide (c = .blank)) = [] :=
    fun n => List.dropWhile_eq_nil_iff.2 (by simp)
  rw [trimBlanks_append hne (h _ (List.head_mem hne)) (h _ (List.getLast_mem hne)), List.reverse_replicate,
    hblank, hblank]
  simp

theorem columnsValue_digits (ds : List Nat) :
    columnsValue (ds.map .digit) = ds.foldl (fun n d => 10 * n + d) 0 := by
  simp only [columnsValue, List.foldl_map, Nat.mul_comm]

theorem scoreNumeric_of_twice (h : .twice ∈ cols) :
    scoreNumeric pol p w key tolerance cols = ⟨.invalid, invalidCredit pol p w⟩ := by
  rw [scoreNumeric, if_pos (List.contains_iff_mem.2 h)]

theorem scoreNumeric_of_blank (h : ∀ c ∈ cols, c = .blank) :
    scoreNumeric pol p w key tolerance cols = ⟨.blank, 0⟩ := by
  have htwice : ¬ cols.contains .twice = true := fun hc => by
    cases h _ (List.contains_iff_mem.1 hc)
  rw [scoreNumeric, if_neg htwice, if_pos (trimBlanks_of_blank h)]

theorem scoreNumeric_of_gap (htwice : .twice ∉ cols) (h : .blank ∈ trimBlanks cols) :
    scoreNumeric pol p w key tolerance cols = ⟨.invalid, invalidCredit pol p w⟩ := by
  rw [scoreNumeric, if_neg (mt List.contains_iff_mem.1 htwice), if_neg (List.ne_nil_of_mem h),
    if_pos (List.contains_iff_mem.2 h)]

/-- Digits between blank columns are judged by their value. -/
theorem scoreNumeric_of_digits (hne : ds ≠ [])
    (hcols : cols = List.replicate l .blank ++ ds.map .digit ++ List.replicate k .blank) :
    scoreNumeric pol p w key tolerance cols =
      if ds.foldl (fun n d => 10 * n + d) 0 ≤ key + tolerance
          ∧ key ≤ ds.foldl (fun n d => 10 * n + d) 0 + tolerance
      then ⟨.correct, fullCredit w⟩ else ⟨.wrong, wrongCredit p w⟩ := by
  have hdigits : ds.map ColumnRead.digit ≠ [] := by simpa using hne
  have hkept : trimBlanks cols = ds.map .digit :=
    hcols ▸ trimBlanks_blanks_append hdigits (by simp)
  have htwice : ¬ cols.contains .twice = true := by simp [hcols]
  have hblank : ¬ (ds.map ColumnRead.digit).contains .blank = true := by simp
  rw [scoreNumeric, hkept, if_neg htwice, if_neg hdigits, if_neg hblank, columnsValue_digits]

end Numeric

/-! ## Hits and extras among the options in play (R133) -/

section Counts
variable {e : ItemEntry} {m : BitVec 8}

theorem hits_eq_markCount (hn : e.optionCount ≤ 8) :
    ((List.range 8).filter (fun i => (decide (i < e.optionCount) && m.getLsbD i) && e.keyed.getLsbD i)).length
      = markCount (m &&& optionMask e.optionCount &&& e.keyed) := by
  simp only [markCount, BitVec.getLsbD_and (x := m &&& _), getLsbD_and_optionMask hn]

theorem extras_eq_markCount (hn : e.optionCount ≤ 8) :
    ((List.range 8).filter (fun i => (decide (i < e.optionCount) && m.getLsbD i) && !e.keyed.getLsbD i)).length
      = markCount (m &&& optionMask e.optionCount &&& ~~~e.keyed) := by
  rw [markCount]
  congr 1
  refine List.filter_congr fun i hi => ?_
  rw [BitVec.getLsbD_and (x := m &&& _), getLsbD_and_optionMask hn]
  simp [List.mem_range.1 hi]

end Counts

/-- Settles O47: each kind by its own tests, a SINGLE and a MULTI on the marks left after masking. -/
theorem itemsScored : Obligations.ItemsScored := by
  unfold Obligations.ItemsScored
  intro x e w p invalid
  have hinvalid : (⟨.invalid, invalidCredit x.invalidPolicy x.penalty e.weight⟩ : Scored) = invalid :=
    congrArg _ (invalidCredit_eq _ _ _)
  refine ⟨fun key m hkind hn hkey hkeyed => ?single, fun m hkind hn hkeyed hin hw hp => ?multi,
    fun n cols hkind => ?numeric⟩
  case single =>
    intro marked
    have hmark : ∀ i, (m &&& optionMask e.optionCount).getLsbD i = true ↔ marked i := fun i => by
      simp [getLsbD_and_optionMask hn, marked]
    have hone : ∀ a, marked a → (∀ i, marked i → i = a) → ∀ i, i < 8 →
        ((m &&& optionMask e.optionCount).getLsbD i = true ↔ i = a) := fun a ha honly i _ =>
      (hmark i).trans ⟨honly i, fun hi => hi ▸ ha⟩
    rw [scoreItem_single hkind]
    refine ⟨fun hnone => ?_, fun hk honly => ?_, fun a hak ha honly => ?_, fun a b hab ha hb => ?_⟩
    · exact scoreSingle_of_none fun i _ => Bool.eq_false_iff.2 (mt (hmark i).1 (hnone i))
    · exact (scoreSingle_of_one (hkey.trans_le hn) (hone key hk honly) hkeyed).trans (if_pos rfl)
    · exact (scoreSingle_of_one (ha.1.trans_le hn) (hone a ha honly) hkeyed).trans (if_neg hak)
    · exact (scoreSingle_of_two hab ((hmark a).2 ha) ((hmark b).2 hb)).trans hinvalid
  case multi =>
    intro count marked k hits extras num r
    have hhits : hits = markCount (m &&& optionMask e.optionCount &&& e.keyed) := hits_eq_markCount hn
    have hextras : extras = markCount (m &&& optionMask e.optionCount &&& ~~~e.keyed) := extras_eq_markCount hn
    have hmarks : hits + extras = markCount (m &&& optionMask e.optionCount) := by
      rw [hhits, hextras, markCount_and_add_markCount_and_not]
    have hk : 0 < k := markCount_pos hkeyed
    have hk8 : k ≤ 8 := markCount_le e.keyed
    have hhitsLe : hits ≤ k := hhits ▸ markCount_and_le _ _
    have hextrasLe : extras ≤ 8 - k := hextras ▸ (markCount_and_le _ _).trans_eq (markCount_not _)
    have hr : r = scoreMulti x.penalty e.weight e.keyed (m &&& optionMask e.optionCount) :=
      scoreItem_multi hkind m
    refine ⟨hhitsLe, hextrasLe, natAbs_multiNumerator_le hp hw (by omega) (by omega), fun hnone => ?_,
      fun hsome hall hclean => ?_, fun hsome hinexact => ?_⟩
    · exact hr.trans (scoreMulti_of_none (hmarks ▸ hnone))
    · exact hr.trans (scoreMulti_of_exact (hmarks ▸ hsome) (hhits ▸ hall) (hextras ▸ hclean))
    · have hscore : r = ⟨if multiCredit x.penalty e.weight k hits extras ≤ 0 then .wrong else .part,
          multiCredit x.penalty e.weight k hits extras⟩ := by
        rw [hr, scoreMulti_of_inexact (hmarks ▸ hsome) (by rwa [← hhits, ← hextras]), ← hhits, ← hextras]
        rfl
      obtain ⟨hlow, hhigh, hpos, hneg⟩ := multiQuotient_truncates x.penalty e.weight hits extras hk
      rw [hscore]
      exact ⟨multiQuotient x.penalty e.weight k hits extras, hlow, hhigh, hpos, hneg, multiCredit_eq _ _ _ _ _,
        multiCredit_le hhitsLe, rfl⟩
  case numeric =>
    intro reads r
    have hr : r = scoreNumeric x.invalidPolicy x.penalty e.weight e.numericKey e.tolerance reads :=
      scoreItem_numeric hkind n cols
    rw [hr]
    refine ⟨fun m => ⟨readColumn_eq_blank_iff, fun d => readColumn_eq_digit_iff, readColumn_eq_twice_iff⟩,
      fun htwice => (scoreNumeric_of_twice htwice).trans hinvalid, scoreNumeric_of_blank,
      fun l a b mid k htwice hreads hblank => ?_, fun l k ds hne hreads => ?_⟩
    · have hkept : .blank ∈ trimBlanks reads := hreads ▸ blank_mem_trimBlanks hblank
      exact (scoreNumeric_of_gap htwice hkept).trans hinvalid
    · intro value
      rw [scoreNumeric_of_digits hne hreads]
      refine ⟨fun hwithin => if_pos ?_, fun houtside => if_neg ?_⟩
      · omega
      · omega

end Sys2Proof.Machine
end

section
/-! SUPPORT. The mark of a sheet (Chapter 8): the bounds of the credits and of their sum, the scaling of the raw
score, the floor policy and the standing (R135 to R138). -/

namespace Sys2Proof.Machine

/-! ## The range of an item's credit (R135) -/

/-- A credit not below -p w and not above 256w. -/
def Scored.InRange (r : Scored) (p w : Nat) : Prop := wrongCredit p w ≤ r.credit ∧ r.credit ≤ fullCredit w

section Credits
variable {p w : Nat} {o : ItemOutcome}

theorem wrongCredit_le_fullCredit (p w : Nat) : wrongCredit p w ≤ fullCredit w :=
  (wrongCredit_nonpos p w).trans (fullCredit_nonneg w)

theorem Scored.inRange_zero : (⟨o, 0⟩ : Scored).InRange p w := ⟨wrongCredit_nonpos p w, fullCredit_nonneg w⟩

theorem Scored.inRange_fullCredit : (⟨o, fullCredit w⟩ : Scored).InRange p w :=
  ⟨wrongCredit_le_fullCredit p w, le_rfl⟩

theorem Scored.inRange_wrongCredit : (⟨o, wrongCredit p w⟩ : Scored).InRange p w :=
  ⟨le_rfl, wrongCredit_le_fullCredit p w⟩

theorem Scored.inRange_invalidCredit (pol : InvalidPolicy) : (⟨o, invalidCredit pol p w⟩ : Scored).InRange p w := by
  cases pol with
  | asWrong => exact inRange_wrongCredit
  | asBlank => exact inRange_zero

theorem Scored.inRange_multiCredit {k hits extras : Nat} (h : hits ≤ k) :
    (⟨o, multiCredit p w k hits extras⟩ : Scored).InRange p w :=
  ⟨le_max_left _ _, multiCredit_le h⟩

theorem scoreSingle_inRange (pol : InvalidPolicy) (keyed marks : BitVec 8) :
    (scoreSingle pol p w keyed marks).InRange p w := by
  rw [scoreSingle]
  split_ifs
  · exact Scored.inRange_zero
  · exact Scored.inRange_invalidCredit pol
  · exact Scored.inRange_fullCredit
  · exact Scored.inRange_wrongCredit

theorem scoreMulti_inRange (keyed marks : BitVec 8) : (scoreMulti p w keyed marks).InRange p w := by
  rw [scoreMulti]
  extract_lets
  split_ifs
  · exact Scored.inRange_zero
  · exact Scored.inRange_fullCredit
  · exact Scored.inRange_multiCredit (markCount_and_le marks keyed)
  · exact Scored.inRange_multiCredit (markCount_and_le marks keyed)

theorem scoreNumeric_inRange (pol : InvalidPolicy) (key tolerance : Nat) (cols : List ColumnRead) :
    (scoreNumeric pol p w key tolerance cols).InRange p w := by
  rw [scoreNumeric]
  split_ifs
  · exact Scored.inRange_invalidCredit pol
  · exact Scored.inRange_zero
  · exact Scored.inRange_invalidCredit pol
  · exact Scored.inRange_fullCredit
  · exact Scored.inRange_wrongCredit

theorem scoreItem_inRange (x : Sitting) (e : ItemEntry) (a : Response) :
    (scoreItem x e a).InRange x.penalty e.weight := by
  unfold scoreItem
  split
  · exact scoreSingle_inRange _ _ _
  · exact scoreMulti_inRange _ _
  · exact scoreNumeric_inRange _ _ _ _
  · exact Scored.inRange_zero

end Credits

/-! ## The items in order and the raw score (R131, R135) -/

/-- The weight item i adds to the weight sum. -/
def Sitting.weightOf (x : Sitting) (i : Nat) : Nat := ((x.item? i).map (fun e => e.weight)).getD 0

/-- What item i scores for a response. -/
def scoreAt (x : Sitting) (i : Nat) (a : Response) : Scored :=
  (x.item? i).elim ⟨.blank, 0⟩ (fun e => scoreItem x e a)

section Sheet
variable {x : Sitting} {rs : List Response} {n i : Nat} {a : Response} {e : ItemEntry}

theorem scoreAt_of_item (h : x.item? i = some e) : scoreAt x i a = scoreItem x e a := by
  rw [scoreAt, h, Option.elim_some]

theorem scoreAt_inRange (x : Sitting) (i : Nat) (a : Response) :
    (scoreAt x i a).InRange x.penalty (x.weightOf i) := by
  rw [scoreAt, Sitting.weightOf]
  cases x.item? i with
  | none => exact Scored.inRange_zero
  | some e => exact scoreItem_inRange x e a

theorem scoreItems_eq (x : Sitting) (rs : List Response) :
    scoreItems x rs = rs.zipIdx.map (fun p => scoreAt x (p.2 + 1) p.1) := by
  refine List.map_congr_left fun p _ => ?_
  rw [scoreAt]
  cases x.item? (p.2 + 1) <;> rfl

theorem scoreItems_getElem? (h : rs[n]? = some a) : (scoreItems x rs)[n]? = some (scoreAt x (n + 1) a) := by
  simp [scoreItems_eq, h]

theorem scoreItems_length : (scoreItems x rs).length = rs.length := by
  simp [scoreItems]

theorem scoreItems_concat :
    scoreItems x (rs ++ [a]) = scoreItems x rs ++ [scoreAt x (rs.length + 1) a] := by
  simp [scoreItems_eq, List.zipIdx_append]

theorem Sitting.weightSum_succ (x : Sitting) (n : Nat) : x.weightSum (n + 1) = x.weightSum n + x.weightOf (n + 1) := by
  simp [weightSum, weightOf, List.range_succ]

/-- The sum of the credits of items 1..N lies between -p and 256 times their weights. -/
theorem scoreItems_sum_bounds (x : Sitting) (rs : List Response) :
    -((x.penalty : Int) * (x.weightSum rs.length : Int)) ≤ ((scoreItems x rs).map (fun i => i.credit)).sum
    ∧ ((scoreItems x rs).map (fun i => i.credit)).sum ≤ 256 * (x.weightSum rs.length : Int) := by
  induction rs using List.reverseRecOn with
  | nil => simp [scoreItems, Sitting.weightSum]
  | append_singleton rs a ih =>
    obtain ⟨hlow, hhigh⟩ := scoreAt_inRange x (rs.length + 1) a
    rw [wrongCredit] at hlow
    rw [fullCredit] at hhigh
    rw [scoreItems_concat, List.length_append, List.length_singleton, x.weightSum_succ]
    simp only [List.map_append, List.map_singleton, List.sum_append, List.sum_singleton, Nat.cast_add, mul_add]
    omega

theorem scoreSheet_outcomes (x : Sitting) (rs : List Response) :
    (scoreSheet x rs).outcomes = (scoreItems x rs).map (fun i => i.outcome) := rfl

theorem scoreSheet_invalid (x : Sitting) (rs : List Response) :
    (scoreSheet x rs).invalid = (scoreSheet x rs).outcomes.countP (fun o => decide (o = .invalid)) := by
  rw [scoreSheet_outcomes, List.countP_map, List.countP_eq_length_filter]
  rfl

end Sheet

/-! ## The raw score scaled (R136) -/

section Scale
variable {raw : Int} {outMax rawMax : Nat}

/-- Half of the divisor added before the division rounds to the nearest quotient. -/
theorem two_mul_rounded_bounds (n : Nat) {r : Nat} (hr : 0 < r) :
    2 * ((2 * n + r) / (2 * r) * r) ≤ 2 * n + r ∧ 2 * n < 2 * ((2 * n + r) / (2 * r) * r) + r := by
  have hlow := Nat.div_mul_le_self (2 * n + r) (2 * r)
  have hhigh := Nat.lt_mul_div_succ (2 * n + r) (b := 2 * r) (by omega)
  rw [Nat.mul_left_comm] at hlow
  rw [Nat.mul_add, Nat.mul_comm (2 * r), Nat.mul_left_comm] at hhigh
  omega

theorem scaleMark_of_neg (h : raw * (outMax : Int) < 0) :
    scaleMark raw outMax rawMax = -(((2 * (raw * (outMax : Int)).natAbs + rawMax) / (2 * rawMax) : Nat) : Int) :=
  if_pos h

theorem scaleMark_of_nonneg (h : 0 ≤ raw * (outMax : Int)) :
    scaleMark raw outMax rawMax = (((2 * (raw * (outMax : Int)).natAbs + rawMax) / (2 * rawMax) : Nat) : Int) :=
  if_neg h.not_gt

theorem natAbs_scaleMark (raw : Int) (outMax rawMax : Nat) :
    (scaleMark raw outMax rawMax).natAbs = (2 * (raw * (outMax : Int)).natAbs + rawMax) / (2 * rawMax) := by
  rcases lt_or_ge (raw * (outMax : Int)) 0 with hneg | hpos
  · rw [scaleMark_of_neg hneg, Int.natAbs_neg, Int.natAbs_natCast]
  · rw [scaleMark_of_nonneg hpos, Int.natAbs_natCast]

theorem scaleMark_nonneg (h : 0 ≤ raw * (outMax : Int)) : 0 ≤ scaleMark raw outMax rawMax := by
  rw [scaleMark_of_nonneg h]
  exact Int.natCast_nonneg _

theorem scaleMark_nonpos (hR : 0 < rawMax) (h : raw * (outMax : Int) ≤ 0) : scaleMark raw outMax rawMax ≤ 0 := by
  rcases h.lt_or_eq with hneg | hzero
  · rw [scaleMark_of_neg hneg]
    exact neg_nonpos.2 (Int.natCast_nonneg _)
  · have hmark : (scaleMark raw outMax rawMax).natAbs = 0 := by
      rw [natAbs_scaleMark, hzero, Int.natAbs_zero]
      exact Nat.div_eq_of_lt (by omega)
    omega

/-- The scaled mark is within half of a tenth of the product over R. -/
theorem scaleMark_nearest (hR : 0 < rawMax) :
    2 * (scaleMark raw outMax rawMax * rawMax - raw * (outMax : Int)).natAbs ≤ rawMax := by
  obtain ⟨hlow, hhigh⟩ := two_mul_rounded_bounds (raw * (outMax : Int)).natAbs hR
  rcases lt_or_ge (raw * (outMax : Int)) 0 with hneg | hpos
  · rw [scaleMark_of_neg hneg, neg_mul, ← Nat.cast_mul]
    omega
  · rw [scaleMark_of_nonneg hpos, ← Nat.cast_mul]
    omega

/-- A raw score of magnitude at most R gives a mark of magnitude at most out_max. -/
theorem natAbs_scaleMark_le (hR : 0 < rawMax) (h : raw.natAbs ≤ rawMax) :
    (scaleMark raw outMax rawMax).natAbs ≤ outMax := by
  have hprod : (raw * (outMax : Int)).natAbs ≤ rawMax * outMax := by
    rw [Int.natAbs_mul, Int.natAbs_natCast]
    exact Nat.mul_le_mul_right outMax h
  have hlt : 2 * (raw * (outMax : Int)).natAbs + rawMax < 2 * rawMax * (outMax + 1) := by
    have hexpand : 2 * rawMax * (outMax + 1) = 2 * (rawMax * outMax) + 2 * rawMax := by ring
    omega
  rw [natAbs_scaleMark]
  exact Nat.le_of_lt_succ (Nat.div_lt_of_lt_mul hlt)

end Scale

/-! ## The floor policy and the standing (R137, R138) -/

section Floor
variable {v : Int} {pass : Nat}

theorem floorMark_clampZero_of_neg (h : v < 0) : floorMark .clampZero v = (0, true) := if_pos h

theorem floorMark_of_kept {pol : FloorPolicy} (h : pol = .signed ∨ 0 ≤ v) : floorMark pol v = (v, false) := by
  cases pol with
  | signed => rfl
  | clampZero => exact if_neg (h.resolve_left (by simp)).not_gt

theorem floorMark_clampZero (v : Int) : (floorMark .clampZero v).1 = max v 0 := by
  rcases lt_or_ge v 0 with hneg | hpos
  · rw [floorMark_clampZero_of_neg hneg, max_eq_right hneg.le]
  · rw [floorMark_of_kept (.inr hpos), max_eq_left hpos]

theorem standingOf_of_lt (h : v < (pass : Int)) : standingOf v pass = .below := if_pos h

theorem standingOf_self (pass : Nat) : standingOf pass pass = .at := by
  rw [standingOf, if_neg (lt_irrefl _), if_pos rfl]

theorem standingOf_of_gt (h : (pass : Int) < v) : standingOf v pass = .above := by
  rw [standingOf, if_neg h.not_gt, if_neg h.ne']

theorem standingOf_iff (v : Int) (pass : Nat) :
    (standingOf v pass = .below ↔ v < (pass : Int)) ∧ (standingOf v pass = .at ↔ v = (pass : Int))
    ∧ (standingOf v pass = .above ↔ (pass : Int) < v) := by
  rcases lt_trichotomy v (pass : Int) with hlt | rfl | hgt
  · simp [standingOf_of_lt hlt, hlt, hlt.ne, hlt.le]
  · simp [standingOf_self]
  · simp [standingOf_of_gt hgt, hgt, hgt.ne', hgt.le]

end Floor

/-- Settles O48: the raw score by its items' ranges, the mark by its rounding, the standing by trichotomy. -/
theorem markReported : Obligations.MarkReported := by
  unfold Obligations.MarkReported
  intro x rs hmax hR hp r product
  obtain ⟨hlow, hhigh⟩ : -((x.penalty : Int) * (x.weightSum rs.length : Int)) ≤ r.raw
      ∧ r.raw ≤ 256 * (x.weightSum rs.length : Int) := scoreItems_sum_bounds x rs
  have hpen : (x.penalty : Int) * (x.weightSum rs.length : Int) ≤ 255 * (x.weightSum rs.length : Int) :=
    Int.mul_le_mul_of_nonneg_right (by omega) (Int.natCast_nonneg _)
  have hraw : r.raw.natAbs ≤ x.rawMax := by omega
  have hfloor : (r.reported, r.clamped) = floorMark x.floorPolicy (scaleMark r.raw x.outMax x.rawMax) := rfl
  have hmark : (scaleMark r.raw x.outMax x.rawMax).natAbs ≤ x.outMax := natAbs_scaleMark_le hR hraw
  obtain ⟨hbelow, hat, habove⟩ := standingOf_iff r.reported x.passMark
  refine ⟨by omega, hlow, ?length, scoreSheet_invalid x rs, rfl, fun n a e ha he => ?item, fun hsum => ?limits,
    scaleMark r.raw x.outMax x.rawMax, natAbs_scaleMark _ _ _, scaleMark_nonneg, scaleMark_nonpos hR,
    scaleMark_nearest hR, hmark, fun hpol hneg => ?clamped, fun hkept => ?kept, fun hpol => ?floor,
    hbelow, hat, habove⟩
  case length => rw [scoreSheet_outcomes, List.length_map, scoreItems_length]
  case item =>
    have hscored : (scoreItems x rs)[n]? = some (scoreItem x e a) :=
      scoreAt_of_item he ▸ scoreItems_getElem? ha
    refine ⟨hscored, ?_, scoreItem_inRange x e a⟩
    rw [scoreSheet_outcomes, List.getElem?_map, hscored, Option.map_some]
  case limits =>
    refine ⟨by omega, by omega, fun hout => ?_⟩
    have hproduct : product.natAbs ≤ 13056000 * 10000 := by
      rw [Int.natAbs_mul, Int.natAbs_natCast]
      exact Nat.mul_le_mul (by omega) hout
    omega
  case clamped =>
    rw [hpol, floorMark_clampZero_of_neg hneg] at hfloor
    exact Prod.mk.inj hfloor
  case kept =>
    rw [floorMark_of_kept hkept] at hfloor
    exact Prod.mk.inj hfloor
  case floor =>
    have hreported : r.reported = max (scaleMark r.raw x.outMax x.rawMax) 0 := by
      rw [← floorMark_clampZero, ← hpol, ← hfloor]
    omega

end Sys2Proof.Machine
end

section
/-! SUPPORT. What every event keeps, first part: the queue of waiting commands, the canonical form of the
archive's memory, and the bounds of the queues and tables.  Each operation that changes no byte of the archive
is `Calm` (Laws/Ops); a program, an erase and a POWER reset keep the memory's form alone. -/

namespace Sys2Proof.Machine

/-! ## The seat line and the custody list (R44, R45, R53, R58, R99) -/

/-- A change of the seat line is calm when its queues stay within their bounds. -/
theorem Calm.ofLine (s : State) (l : SeatLine)
    (hinbox : s.line.inbox.length + s.line.reserved ≤ 16 → l.inbox.length + l.reserved ≤ 16)
    (hgroup : s.line.groupQueue.length ≤ 8 → l.groupQueue.length ≤ 8) : Calm s { s with line := l } :=
  ⟨rfl, rfl, fun b => ⟨hinbox b.inbox, hgroup b.groupQueue, b.notices, b.queue, b.results, b.custody, b.cands,
    b.time, b.lost⟩⟩

/-- At most one inbox entry is reserved, since at most one report is on the line (R44). -/
theorem SeatLine.reserved_le_one (l : SeatLine) : l.reserved ≤ 1 := by
  unfold SeatLine.reserved
  split <;> omega

/-- A condition of the line with no entry reserved keeps the bounds. -/
theorem State.setLine_calm (s : State) (c : LineCond) (h : (s.setLine c).line.reserved = 0) :
    Calm s (s.setLine c) := by
  refine Calm.ofLine s (s.setLine c).line (fun hb => ?_) id
  rw [h, State.setLine_line_inbox]
  omega

theorem State.queueFrame_calm (s : State) (f : LineFrame) : Calm s (s.queueFrame f) := by
  unfold State.queueFrame Config.groupQueueSize
  split
  · next h => exact Calm.ofLine s _ id (fun _ => by simp; omega)
  · exact Calm.refl _

theorem State.leaveInbox_calm (s : State) : Calm s s.leaveInbox := by
  refine Calm.ofLine s s.leaveInbox.line (fun hb => ?_) id
  have hone := s.leaveInbox.line.reserved_le_one
  have hlen : s.leaveInbox.line.inbox.length = s.line.inbox.length - 1 := List.length_tail
  omega

/-- A custody entry added to a list that has room is calm (R99). -/
theorem Calm.ofCustody (s : State) (e : Custody) (h : s.custody.length < 2048) :
    Calm s { s with custody := s.custody ++ [e] } :=
  ⟨rfl, rfl, fun b => ⟨b.inbox, b.groupQueue, b.notices, b.queue, b.results, by simp; omega, b.cands, b.time,
    b.lost⟩⟩

/-! ## The hall record (Chapters 1 and 2) -/

/-- A change of the hall record is calm when the candidate table and hall time stay within their bounds. -/
theorem Calm.ofHall (s : State) (h : Hall) (hcands : s.hall.cands.length ≤ 640 → h.cands.length ≤ 640)
    (htime : s.hall.time ≤ 86399 → h.time ≤ 86399) : Calm s { s with hall := h } :=
  ⟨rfl, rfl, fun b => ⟨b.inbox, b.groupQueue, b.notices, b.queue, b.results, b.custody, hcands b.cands,
    htime b.time, b.lost⟩⟩

/-- A change of the run state, of the clock unit's own state or of the marking is calm. -/
theorem Calm.ofAlloc (s : State) (a : Alloc) : Calm s { s with alloc := a } := Calm.records rfl rfl rfl rfl rfl rfl rfl

theorem Calm.ofClock (s : State) (c : Clock) : Calm s { s with clock := c } := Calm.records rfl rfl rfl rfl rfl rfl rfl

theorem Calm.ofMarking (s : State) (m : Marking) : Calm s { s with marking := m } :=
  Calm.records rfl rfl rfl rfl rfl rfl rfl

theorem SeatLine.reset_reserved (l : SeatLine) : l.reset.reserved = 0 := by
  unfold SeatLine.reset SeatLine.reserved
  cases l.cond <;> rfl

theorem State.closeReset_calm (s : State) : Calm s s.closeReset := by
  have hline : Calm s { s with line := s.line.reset } :=
    Calm.ofLine s _ (fun _ => by rw [SeatLine.reset_reserved]; exact Nat.zero_le _) (fun _ => Nat.le_of_ble_eq_true rfl)
  have hhall : Calm s { s with line := s.line.reset, hall := {} } :=
    hline.trans (Calm.ofHall _ _ (fun _ => Nat.zero_le _) (fun _ => Nat.zero_le _))
  exact ((hhall.trans (Calm.ofClock _ {})).trans (Calm.ofMarking _ {})).trans
    ⟨rfl, rfl, fun b => ⟨b.inbox, b.groupQueue, b.notices, b.queue, b.results, Nat.zero_le _, b.cands, b.time,
      b.lost⟩⟩

theorem State.discardReset_calm (s : State) : Calm s s.discardReset :=
  s.closeReset_calm.trans (Calm.ofAlloc ..)

theorem State.drainOffer_calm (s : State) : Calm s s.drainOffer := by
  have hdrain : ∀ d, Calm s { s with hall := { s.hall with drain := d } } := fun _ => Calm.ofHall s _ id id
  unfold State.drainOffer
  repeat' split
  all_goals try exact Calm.refl _
  · exact (hdrain _).trans (State.offerCustodyClose_calm ..)
  · exact (hdrain _).trans
      (State.offer_calm _ .sessionClosed _ _ (by decide))

theorem State.endRun_calm (s : State) (n : Nat) (aborted : Bool) : Calm s (s.endRun n aborted) :=
  ((State.mapSitting_calm s n _).trans (Calm.ofAlloc ..)).trans (State.notify_calm ..)

theorem State.endIfDone_calm (s : State) (n : Nat) : Calm s (s.endIfDone n) := by
  unfold State.endIfDone
  split
  · exact State.endRun_calm ..
  · exact Calm.refl _

theorem State.giveTurn_calm (s : State) (x : Sitting) (c : Cand) (a : Alloc) : Calm s (s.giveTurn x c a) := by
  simp only [State.giveTurn]
  split
  · unfold State.placeTurn
    split
    · exact (State.place_calm ..).trans (Calm.ofAlloc ..)
    · exact Calm.ofAlloc ..
  · exact Calm.ofAlloc ..

theorem State.allocationTurn_calm (s : State) : Calm s s.allocationTurn := by
  simp only [State.allocationTurn]
  repeat' split
  · exact (State.giveTurn_calm ..).trans (State.endIfDone_calm ..)
  · exact State.endRun_calm ..
  · exact Calm.refl _

theorem State.moveCand_calm (s : State) (i : Nat) (c : Cand) (t : Nat) (breach : Bool) :
    Calm s (s.moveCand i c t breach) := by
  have hplace : ∀ r : State, Calm s r → Calm s (if breach then r.mapSeat t (fun x => { x with waiver := true }) else r) := by
    intro r hr
    split
    · exact hr.trans (State.mapSeat_calm ..)
    · exact hr
  simp only [State.moveCand]
  refine hplace _ ?_
  split
  · exact (State.mapSeat_calm ..).trans (State.place_calm ..)
  · exact State.place_calm ..

/-! ## The clock unit (Chapter 4) -/

theorem State.joinSecond_calm (s : State) (i n : Nat) : Calm s (s.joinSecond i n) := by
  unfold State.joinSecond
  split
  · exact Calm.ofClock ..
  · exact Calm.refl _

theorem State.closeDoors_calm (s : State) (n : Nat) : Calm s (s.closeDoors n) :=
  (State.mapSitting_calm s n _).trans
    (Calm.foldl (fun t i => (State.setCandState_calm t i .absent).trans (State.releaseCand_calm ..)) _ _)

theorem State.closeAdmission_calm (s : State) (n : Nat) : Calm s (s.closeAdmission n) :=
  (s.closeDoors_calm n).trans (State.sittingTests_calm ..)

theorem State.writeGroupCode_calm (s : State) (n : Nat) (c : DispCode) : Calm s (s.writeGroupCode n c) := by
  refine Calm.foldl (fun t x => ?_) _ s
  unfold State.showSeatCode
  split
  · exact Calm.refl _
  · exact State.showAt_calm ..

theorem State.elapsedEffect_calm {close : State → Nat → State} (hclose : ∀ s n, Calm s (close s n)) (s : State)
    (n : Nat) (q : Cue) : Calm s (State.elapsedEffect close s n q) := by
  unfold State.elapsedEffect
  refine Calm.trans ?_ (State.notifyDesks_calm ..)
  split
  · exact hclose ..
  · exact State.mapSitting_calm ..
  · exact (State.writeGroupCode_calm ..).trans (State.queueFrame_calm ..)
  · exact Calm.refl _
  · exact Calm.refl _

theorem State.fireElapsed_calm (n : Nat) (s : State) (q : Cue) : Calm s (State.fireElapsed n s q) := by
  unfold State.fireElapsed
  repeat' split
  · exact (State.mapSitting_calm s n _).trans (State.elapsedEffect_calm State.closeAdmission_calm ..)
  · exact Calm.refl _
  · exact Calm.refl _

theorem State.fireAtStart_calm (n : Nat) (s : State) (q : Cue) : Calm s (State.fireAtStart n s q) :=
  (State.mapSitting_calm s n _).trans (State.elapsedEffect_calm State.closeDoors_calm ..)

theorem State.fireDueElapsed_calm {fire : Nat → State → Cue → State} (hfire : ∀ n s q, Calm s (fire n s q))
    (s : State) (n : Nat) : Calm s (State.fireDueElapsed fire s n) := by
  unfold State.fireDueElapsed
  split
  · exact Calm.foldl (hfire n) _ s
  · exact Calm.refl _

theorem State.beginWriting_calm (n : Nat) (s : State) (i : Nat) : Calm s (State.beginWriting n s i) :=
  (((State.setCandState_calm s i _).trans (State.mapCand_calm ..)).trans (State.joinSecond_calm ..)).trans
    (State.showCand_calm ..)

theorem State.startOfWriting_calm (s : State) (n : Nat) : Calm s (s.startOfWriting n) :=
  ((((State.mapSitting_calm s n _).trans (Calm.foldl (State.beginWriting_calm n) _ _)).trans
    (State.mapSitting_calm ..)).trans (State.fireDueElapsed_calm State.fireAtStart_calm ..)).trans
      (State.sittingTests_calm ..)

theorem State.heldSecond_calm (s : State) (x : Sitting) : Calm s (s.heldSecond x) := by
  simp only [State.heldSecond]
  split
  · exact (((State.mapSitting_calm s _ _).trans (State.mapSitting_calm ..)).trans
      (State.offer_calm _ _ _ _ (by decide))).trans (State.notify_calm ..)
  · exact State.mapSitting_calm ..

theorem State.readingSecond_calm (s : State) (x : Sitting) : Calm s (s.readingSecond x) := by
  simp only [State.readingSecond]
  split
  · exact (State.mapSitting_calm s _ _).trans (State.startOfWriting_calm ..)
  · exact State.mapSitting_calm ..

theorem State.defaultClose_calm (s : State) (n : Nat) : Calm s (s.defaultClose n) := by
  unfold State.defaultClose
  repeat' split
  · exact State.closeAdmission_calm ..
  · exact Calm.refl _
  · exact Calm.refl _

theorem State.writingSecond_calm (s : State) (x : Sitting) : Calm s (s.writingSecond x) := by
  unfold State.writingSecond
  split
  · exact ((State.mapSitting_calm s _ _).trans (State.fireDueElapsed_calm State.fireElapsed_calm ..)).trans
      (State.defaultClose_calm ..)
  · exact Calm.refl _

theorem State.tickSitting_calm (s : State) (n : Nat) : Calm s (s.tickSitting n) := by
  unfold State.tickSitting
  repeat' split
  · exact Calm.refl _
  · exact State.readingSecond_calm ..
  · exact State.writingSecond_calm ..
  · exact State.heldSecond_calm ..
  · exact State.heldSecond_calm ..
  · exact Calm.refl _

theorem State.fireRemaining_calm (i : Nat) (s : State) (q : Cue) : Calm s (State.fireRemaining i s q) := by
  refine (State.mapCand_calm s i (fun c => { c with cuePtr := c.cuePtr + 1 })).trans ?_
  unfold State.fireRemaining
  split
  · exact State.showCand_calm ..
  · exact State.showCand_calm ..
  · exact (State.mapCand_calm ..).trans (State.showCand_calm ..)
  · exact Calm.refl _
  · exact Calm.refl _

theorem State.consume_calm (s : State) (i : Nat) (c : Cand) : Calm s (s.consume i c) := by
  simp only [State.consume]
  repeat' split
  · exact (State.mapCand_calm ..).trans (State.finishCand_calm ..)
  · exact ((State.mapCand_calm ..).trans (Calm.foldl (State.fireRemaining_calm i) _ _)).trans
      (State.showCand_calm ..)
  · exact (State.mapCand_calm ..).trans (Calm.foldl (State.fireRemaining_calm i) _ _)

theorem State.restSecond_calm (s : State) (i : Nat) (c : Cand) : Calm s (s.restSecond i c) := by
  simp only [State.restSecond]
  split
  · exact (State.mapCand_calm ..).trans (State.leaveRest_calm ..)
  · exact State.mapCand_calm ..

theorem State.tickCand_calm (s : State) (i : Nat) : Calm s (s.tickCand i) := by
  unfold State.tickCand
  repeat' split
  · exact Calm.refl _
  · exact Calm.refl _
  · exact State.consume_calm ..
  · exact State.restSecond_calm ..
  · exact Calm.refl _

theorem State.second_calm (s : State) (k : TickKey) : Calm s (s.second k) := by
  unfold State.second
  split
  · exact Calm.refl _
  · refine (Calm.ofClock s _ : Calm s (s.markAhead k)).trans ?_
    cases k with
    | sitting n => exact State.tickSitting_calm ..
    | cand i => exact State.tickCand_calm ..
    | seat n => exact State.mapSeat_calm ..

theorem nextTime_le {t : Nat} (h : t ≤ 86399) : nextTime t ≤ 86399 := by
  unfold nextTime
  split <;> omega

theorem State.hallSecond_calm (s : State) : Calm s s.hallSecond :=
  (((Calm.ofHall s { s.hall with time := nextTime s.hall.time } id nextTime_le).trans
    (Calm.foldl (fun t n => State.second_calm t (.sitting n)) _ _)).trans
      (Calm.foldl (fun t i => State.second_calm t (.cand i)) _ _)).trans
        ((Calm.foldl (fun t n => State.second_calm t (.seat n)) _ _).trans (Calm.ofClock ..))

theorem State.early_calm (s : State) (k : TickKey) (arises : Bool) : Calm s (s.early k arises) := by
  unfold State.early
  split
  · exact State.second_calm ..
  · exact Calm.refl _

/-! ## Reports at a seat (Chapters 3, 5 and 6) -/

theorem State.seatPresent_calm (s : State) (n : Nat) : Calm s (s.seatPresent n) := by
  unfold State.seatPresent
  repeat' split
  · exact Calm.refl _
  · exact (State.mapSeat_calm ..).trans (State.notifyZone_calm ..)
  · exact State.mapSeat_calm ..

theorem State.seatMiss_calm (s : State) (n : Nat) : Calm s (s.seatMiss n) := by
  unfold State.seatMiss
  repeat' split
  · exact Calm.refl _
  · exact (State.mapSeat_calm ..).trans (State.notifyZone_calm ..)
  · exact State.mapSeat_calm ..

theorem State.helloAt_calm (s : State) (n bits : Nat) : Calm s (s.helloAt n bits) := by
  simp only [State.helloAt]
  repeat' split
  · exact Calm.refl _
  · exact State.mapSeat_calm ..
  · exact (State.mapSeat_calm ..).trans (State.notifyZone_calm ..)

theorem State.notifyWrongSeat_calm (s : State) (n number : Nat) (right : Option Nat) :
    Calm s (s.notifyWrongSeat n number right) := by
  unfold State.notifyWrongSeat
  split
  · exact Calm.refl _
  · exact State.notifyZone_calm ..

theorem State.failAt_calm (s : State) (n : Nat) (c : CondCode) (arg : Nat) : Calm s (s.failAt n c arg) :=
  State.writeCode_calm ..

theorem State.clearKeys_calm (s : State) (n : Nat) : Calm s (s.clearKeys n) := State.mapSeat_calm ..

theorem State.enterLate_calm (s : State) (i : Nat) (c : Cand) (x : Sitting) (o : Bool) :
    Calm s (s.enterLate i c x o) :=
  ((((State.setCandState_calm s i _).trans (State.mapCand_calm ..)).trans (State.joinSecond_calm ..)).trans
    (State.showCand_calm ..)).trans (State.sittingTests_calm ..)

theorem State.admitCand_calm (s : State) (i : Nat) (c : Cand) (x : Sitting) : Calm s (s.admitCand i c x) := by
  unfold State.admitCand
  split
  · exact State.enterLate_calm ..
  · exact ((State.setCandState_calm s i _).trans (State.mapCand_calm ..)).trans (State.showCand_calm ..)

theorem State.judgeAtSeat_calm (s : State) (n i : Nat) (c : Cand) (x : Sitting) :
    Calm s (s.judgeAtSeat n i c x) := by
  unfold State.judgeAtSeat
  repeat' split
  all_goals try exact State.failAt_calm ..
  · exact (State.failAt_calm ..).trans (State.notifyWrongSeat_calm ..)
  · exact (State.failAt_calm ..).trans (State.notifyWrongSeat_calm ..)
  · exact (State.admitCand_calm ..).trans (State.clearKeys_calm ..)
  all_goals exact (State.showCand_calm ..).trans (State.clearKeys_calm ..)

theorem State.admitAtSeat_calm (s : State) (n number : Nat) : Calm s (s.admitAtSeat n number) := by
  unfold State.admitAtSeat
  repeat' split
  all_goals try exact State.failAt_calm ..
  exact State.judgeAtSeat_calm ..

theorem State.keyAt_calm (s : State) (n code : Nat) : Calm s (s.keyAt n code) := by
  unfold State.keyAt
  repeat' split
  · exact Calm.refl _
  · exact State.clearKeys_calm ..
  · exact State.writeCode_calm ..
  · exact State.admitAtSeat_calm ..
  · exact State.mapSeat_calm ..

theorem State.callAt_calm (s : State) (n : Nat) : Calm s (s.callAt n) := by
  unfold State.callAt
  split
  · exact Calm.refl _
  · exact (State.writeDisplay_calm ..).trans (State.notifyZone_calm ..)

theorem State.doneAt_calm (s : State) (n : Nat) : Calm s (s.doneAt n) := by
  unfold State.doneAt
  repeat' split
  · exact Calm.refl _
  · exact State.finishCand_calm ..
  · exact State.failAt_calm ..
  · exact State.failAt_calm ..

theorem State.createEntry_calm (s : State) (i t : Nat) (h : s.custody.length < 2048) :
    Calm s (s.createEntry i t) := (Calm.ofCustody s _ h).trans (State.mapCand_calm ..)

theorem State.issue_calm (s : State) (i : Nat) (c : Cand) (t : Nat) : Calm s (s.issue i c t).state := by
  simp only [State.issue]
  repeat' split
  all_goals try exact Calm.refl _
  next h => exact State.createEntry_calm _ _ _ (Nat.not_le.mp h)

theorem State.tagAt_calm (s : State) (n t : Nat) : Calm s (s.tagAt n t) := by
  unfold State.tagAt
  split
  · exact State.writeCode_calm ..
  · exact (State.issue_calm ..).trans (State.writeCode_calm ..)

/-! ## Tags and sheets (Chapters 6 to 8) -/

theorem State.returnIssued_calm (s : State) (t : Nat) (o : Option Nat) : Calm s (s.returnIssued t o).1 := by
  unfold State.returnIssued
  split
  · exact State.mapEntry_calm ..
  · exact ((State.mapEntry_calm ..).trans (State.mapCand_calm ..)).trans (State.collectionTest_calm ..)

theorem State.returnTag_calm (s : State) (p : Port) (t : Nat) : Calm s (s.returnTag p t).1 := by
  unfold State.returnTag
  repeat' split
  all_goals try exact Calm.refl _
  · next h => exact (Calm.ofCustody s _ (Nat.not_le.mp h)).trans (State.notifyDesks_calm ..)
  · exact State.returnIssued_calm ..

theorem returnAll_calm (p : Port) (ts : List Nat) : ∀ s, Calm s (returnAll p ts s).1 := by
  induction ts with
  | nil => exact Calm.refl
  | cons t ts ih => exact fun s => (State.returnTag_calm s p t).trans (ih _)

theorem State.claim_calm (s : State) (i : Nat) (c : Cand) (t : Nat) : Calm s (s.claim i c t) := by
  have hcounts := (State.mapEntry_calm s t (fun e => { e with cand := some i })).trans
    (State.mapCand_calm _ i (fun y => { y with issued := y.issued + 1, returned := y.returned + 1 }))
  simp only [State.claim]
  split
  · exact (hcounts.trans (State.mapCand_calm ..)).trans (State.offerCustodyClose_calm ..)
  · exact hcounts.trans (State.collectionTest_calm ..)

theorem State.mismatch_calm (s : State) (t : Nat) : Calm s (s.mismatch t) := by
  simp only [State.mismatch]
  split
  · exact State.mapBatch_calm ..
  · exact (State.mapBatch_calm ..).trans (State.mapSlot_calm ..)

theorem State.placePage_calm (s : State) (k : Nat) (x : Slot) (f : PageFields) :
    Calm s (s.placePage k x f).state := by
  simp only [State.placePage]
  split
  · exact (State.mapSlot_calm ..).trans (Calm.ofMarking ..)
  · exact State.mapSlot_calm ..

theorem State.queueResult_calm (s : State) (k : Nat) (r : SheetResult) (h : s.arch.canTakeResult = true) :
    Calm s (s.queueResult k r) := by
  have hroom : s.arch.canTake = true := (Bool.and_eq_true_iff.mp h).1
  unfold State.queueResult
  split
  · exact Calm.refl _
  · split
    · exact Calm.refl _
    · exact (((((State.enqueue_calm s .result _ _ hroom (fun _ => h)).trans (State.mapCand_calm ..)).trans
        (State.mapEntry_calm ..)).trans (State.mapBatch_calm ..)).trans (State.notify_calm ..)).trans
          (State.mapSlot_calm ..)

theorem State.takeSlot_calm (s : State) : Calm s s.takeSlot := by
  unfold State.takeSlot
  repeat' split
  all_goals try exact Calm.refl _
  exact Calm.ofMarking ..

theorem State.releaseSlot_calm (s : State) (k : Nat) (r : SheetResult) : Calm s (s.releaseSlot k r) := by
  simp only [State.releaseSlot]
  split
  · next h => exact State.queueResult_calm s k r h.2
  · exact (State.mapSlot_calm ..).trans (Calm.ofMarking ..)

theorem State.serveWaiting_calm (s : State) : Calm s s.serveWaiting := by
  unfold State.serveWaiting
  repeat' split
  all_goals try exact Calm.refl _
  next hroom _ _ _ =>
    exact (Calm.ofMarking s _).trans (State.queueResult_calm { s with marking := _ } _ _ hroom)

end Sys2Proof.Machine
end

section
/-! SUPPORT. What every event keeps, second part: every command judged is calm, and so is every event of the
ports; a program, an erase and a POWER reset keep the memory's canonical form.  With that the events are gone
through once (`exec_keeps`). -/

namespace Sys2Proof.Machine

/-! ## Commands judged (R166) -/

section Commands
variable (s : State)

theorem cmdSessionOpen_calm (n time : Nat) : Calm s (cmdSessionOpen n time s).state := by
  simp only [cmdSessionOpen]
  split
  · exact Calm.refl _
  · next h =>
    have htime : time ≤ 86399 := by omega
    refine Calm.trans ?_ (State.offer_calm _ .sessionOpen _ _ (by decide))
    exact (Calm.ofHall s _ (by exact id) (fun _ => htime)).trans (Calm.ofClock ..)

theorem cmdSessionClose_calm : Calm s (cmdSessionClose s).state := by
  unfold cmdSessionClose
  repeat' split
  all_goals try exact Calm.refl _
  exact Calm.ofHall s _ id id

theorem cmdSessionDiscard_calm : Calm s (cmdSessionDiscard s).state :=
  s.discardReset_calm.trans (State.offer_calm _ .sessionDiscarded _ _ (by decide))

theorem cmdSeatDefine_calm (n row column zone kind : Nat) : Calm s (cmdSeatDefine n row column zone kind s).state := by
  unfold cmdSeatDefine
  repeat' split
  all_goals try exact Calm.refl _
  · exact State.mapSeat_calm ..
  · exact Calm.ofHall s _ id id

theorem cmdZoneGrant_calm (d mask chief : Nat) : Calm s (cmdZoneGrant d mask chief s).state := by
  unfold cmdZoneGrant
  repeat' split
  all_goals try exact Calm.refl _
  all_goals exact Calm.ofHall s _ id id

theorem State.recomputeE_calm (n base : Nat) : Calm s (s.recomputeE n base) :=
  Calm.ofHall s _ (fun h => by simpa using h) id

theorem redefineSitting_calm (f : SittingFields) (ip : InvalidPolicy) (fp : FloorPolicy) (x : Sitting) :
    Calm s (redefineSitting f ip fp x s).state := by
  simp only [redefineSitting, okay]
  repeat' split
  all_goals try exact Calm.refl _
  · exact State.mapSitting_calm ..
  · exact (State.mapSitting_calm ..).trans (State.recomputeE_calm ..)

theorem cmdSittingDefine_calm (f : SittingFields) : Calm s (cmdSittingDefine f s).state := by
  unfold cmdSittingDefine
  repeat' split
  all_goals try exact Calm.refl _
  · exact redefineSitting_calm ..
  · exact Calm.ofHall s _ id id

theorem cmdCueDefine_calm (n kind base value code : Nat) : Calm s (cmdCueDefine n kind base value code s).state := by
  simp only [cmdCueDefine]
  repeat' split
  all_goals try exact Calm.refl _
  all_goals exact State.mapSitting_calm ..

theorem cmdLayoutDefine_calm (n pages : Nat) (counts : List Nat) : Calm s (cmdLayoutDefine n pages counts s).state := by
  unfold cmdLayoutDefine
  repeat' split
  all_goals try exact Calm.refl _
  exact State.mapSitting_calm ..

theorem cmdCandidateAdd_calm (number n access allowance rest : Nat) :
    Calm s (cmdCandidateAdd number n access allowance rest s).state := by
  unfold cmdCandidateAdd
  repeat' split
  all_goals try exact Calm.refl _
  next h =>
    have hroom : s.hall.cands.length < 640 := Nat.not_le.mp h
    exact (Calm.ofHall s { s.hall with cands := s.hall.cands ++ [_] } (fun _ => by simp; omega) id).trans
      (State.mapSitting_calm ..)

theorem amendEffects_calm (i : Nat) (c : Cand) (e budget : Nat) : Calm s (amendEffects i c e budget s) := by
  unfold amendEffects
  repeat' split
  · exact (State.mapCand_calm ..).trans (State.finishCand_calm ..)
  · exact State.leaveRest_calm ..
  · exact Calm.refl _

theorem cmdCandidateAmend_calm (number allowance rest access : Nat) :
    Calm s (cmdCandidateAmend number allowance rest access s).state := by
  unfold cmdCandidateAmend
  repeat' split
  all_goals try exact Calm.refl _
  exact ((State.mapCand_calm ..).trans (State.showCand_calm ..)).trans (amendEffects_calm ..)

theorem cmdAllocate_calm (n : Nat) : Calm s (cmdAllocate n s).state := by
  unfold cmdAllocate
  repeat' split
  all_goals try exact Calm.refl _
  exact ((State.mapSitting_calm ..).trans (Calm.ofAlloc ..)).trans (State.endIfDone_calm ..)

theorem cmdAllocAbort_calm : Calm s (cmdAllocAbort s).state := by
  unfold cmdAllocAbort
  split
  · exact (Calm.ofAlloc s _).trans (State.endRun_calm ..)
  · exact Calm.refl _

theorem cmdKeyItem_calm (f : KeyItemFields) : Calm s (cmdKeyItem f s).state := by
  simp only [cmdKeyItem]
  repeat' split
  all_goals try exact Calm.refl _
  exact State.mapSitting_calm ..

theorem cmdKeySeal_calm (n : Nat) : Calm s (cmdKeySeal n s).state := by
  simp only [cmdKeySeal]
  repeat' split
  all_goals try exact Calm.refl _
  exact State.mapSitting_calm ..

theorem cmdKeyUnseal_calm (n : Nat) : Calm s (cmdKeyUnseal n s).state := by
  unfold cmdKeyUnseal
  repeat' split
  all_goals try exact Calm.refl _
  exact State.mapSitting_calm ..

theorem cmdRemark_calm (t : Nat) : Calm s (cmdRemark t s).state := by
  unfold cmdRemark
  repeat' split
  all_goals try exact Calm.refl _
  exact State.mapEntry_calm ..

theorem cmdFinalise_calm (n : Nat) : Calm s (cmdFinalise n s).state := by
  unfold cmdFinalise
  repeat' split
  all_goals try exact Calm.refl _
  exact (State.mapSitting_calm ..).trans (State.offer_calm _ .sittingFinal _ _ (by decide))

theorem cmdArchiveExported_calm (q : Nat) : Calm s (cmdArchiveExported q s).state := by
  unfold cmdArchiveExported
  repeat' split
  all_goals try exact Calm.refl _
  next h =>
    have hmark : Calm s (s.mapArch (fun a => { a with exported := q })) :=
      State.arch_calm s _ rfl (fun b => ⟨b.queue, b.results, b.lost⟩)
    exact hmark.trans (State.enqueue_calm _ .exportMark _ _ (not_not.mp h) (fun e => absurd e (by decide)))

theorem cmdArchiveErase_calm (plane block : Nat) : Calm s (cmdArchiveErase plane block s).state := by
  unfold cmdArchiveErase
  repeat' split
  all_goals try exact Calm.refl _
  exact State.plane_calm s _ (PlaneOnly.set ..)

theorem cmdOpenDoors_calm (p : Port) (n : Nat) : Calm s (cmdOpenDoors p n s).state := by
  unfold cmdOpenDoors
  repeat' split
  all_goals try exact Calm.refl _
  exact State.mapSitting_calm ..

theorem cmdStart_calm (p : Port) (n : Nat) : Calm s (cmdStart p n s).state := by
  unfold cmdStart
  repeat' split
  all_goals try exact Calm.refl _
  · exact State.mapSitting_calm ..
  · exact State.startOfWriting_calm ..

theorem State.setPause_calm (scope : Nat) (v : Bool) : Calm s (s.setPause scope v) := by
  unfold State.setPause
  split
  · exact Calm.ofClock ..
  · exact State.mapSitting_calm ..

theorem cmdPause_calm (p : Port) (scope : Nat) : Calm s (cmdPause p scope s).state := by
  unfold cmdPause
  repeat' split
  all_goals try exact Calm.refl _
  exact ((State.setPause_calm ..).trans (Calm.foldl (fun t i => State.showCand_calm t i none) _ _)).trans
    (State.queueFrame_calm ..)

theorem cmdResume_calm (p : Port) (scope : Nat) : Calm s (cmdResume p scope s).state := by
  unfold cmdResume
  repeat' split
  all_goals try exact Calm.refl _
  exact ((State.setPause_calm ..).trans (Calm.foldl (fun t i => State.showCand_calm t i none) _ _)).trans
    (Calm.foldl (fun t n => State.queueFrame_calm t _) _ _)

/-- A command on a candidate is calm when its own tests and effects are (R86). -/
theorem screenCand_calm (p : Port) (number : Nat) {own : Nat → Cand → State → Answer}
    (h : ∀ i c t, Calm t (own i c t).state) : Calm s (screenCand p number s own).state := by
  unfold screenCand
  repeat' split
  all_goals try exact Calm.refl _
  exact (State.lampOff_calm ..).trans (h ..)

theorem admitOwn_calm (i : Nat) (c : Cand) : Calm s (admitOwn i c s).state := by
  simp only [admitOwn, okay]
  repeat' split
  all_goals try exact Calm.refl _
  · exact (State.admitCand_calm ..).trans (State.clearKeys_calm ..)
  · exact State.admitCand_calm ..

theorem State.readmit_calm (i : Nat) (c : Cand) (x : Sitting) (seat : Nat) (breach : Bool) :
    Calm s (s.readmit i c x seat breach) := by
  simp only [State.readmit]
  refine Calm.trans ?_ (State.enterLate_calm ..)
  split
  · exact (State.place_calm ..).trans (State.mapSeat_calm ..)
  · exact State.place_calm ..

theorem admitOverride_calm (p : Port) (i : Nat) (c : Cand) (seat waiver : Nat) :
    Calm s (admitOverride p i c seat waiver s).state := by
  simp only [admitOverride]
  repeat' split
  all_goals try exact Calm.refl _
  exact State.readmit_calm ..

theorem cmdAdmit_calm (p : Port) (number o seat waiver : Nat) : Calm s (cmdAdmit p number o seat waiver s).state := by
  unfold cmdAdmit
  repeat' split
  all_goals try exact Calm.refl _
  · exact admitOverride_calm ..
  · exact screenCand_calm s _ _ (fun i c t => admitOwn_calm t i c)
  · exact screenCand_calm s _ _ (fun i c t => admitOwn_calm t i c)

theorem moveScreened_calm (i : Nat) (c : Cand) (x : Seat) (waiver : Nat) : Calm s (moveScreened i c x waiver s).state := by
  simp only [moveScreened]
  repeat' split
  all_goals try exact Calm.refl _
  exact State.moveCand_calm ..

theorem cmdMove_calm (p : Port) (number seat waiver : Nat) : Calm s (cmdMove p number seat waiver s).state := by
  unfold cmdMove
  repeat' split
  all_goals try exact Calm.refl _
  exact (State.lampOff_calm ..).trans (moveScreened_calm ..)

theorem cmdSeatService_calm (p : Port) (seat direction : Nat) : Calm s (cmdSeatService p seat direction s).state := by
  unfold cmdSeatService
  repeat' split
  all_goals try exact Calm.refl _
  all_goals exact State.mapSeat_calm ..

theorem restStartOwn_calm (i : Nat) (c : Cand) : Calm s (restStartOwn i c s).state := by
  unfold restStartOwn
  repeat' split
  all_goals try exact Calm.refl _
  exact (State.setCandState_calm ..).trans (State.showCand_calm ..)

theorem restEndOwn_calm (i : Nat) (c : Cand) : Calm s (restEndOwn i c s).state := by
  unfold restEndOwn
  split
  · exact Calm.refl _
  · exact State.leaveRest_calm ..

theorem finishOwn_calm (i : Nat) (c : Cand) : Calm s (finishOwn i c s).state := by
  unfold finishOwn
  split
  · exact Calm.refl _
  · exact State.finishCand_calm ..

theorem withdrawOwn_calm (i : Nat) (c : Cand) : Calm s (withdrawOwn i c s).state := by
  unfold withdrawOwn
  repeat' split
  all_goals try exact Calm.refl _
  exact (((State.setCandState_calm ..).trans (State.releaseCand_calm ..)).trans
    (State.offer_calm _ .incident _ _ (by decide))).trans (State.sittingTests_calm ..)

theorem issueTagOwn_calm (t i : Nat) (c : Cand) : Calm s (issueTagOwn t i c s).state := by
  simp only [issueTagOwn, State.writeCandCode]
  repeat' split
  · exact State.issue_calm ..
  · exact (State.issue_calm ..).trans (State.writeCode_calm ..)
  · exact State.issue_calm ..

theorem cmdIssueTag_calm (p : Port) (number t : Nat) : Calm s (cmdIssueTag p number t s).state := by
  unfold cmdIssueTag
  split
  · exact Calm.refl _
  · exact screenCand_calm s _ _ (fun i c r => issueTagOwn_calm r t i c)

theorem cmdReturnTags_calm (p : Port) (count : Nat) (ts : List Nat) : Calm s (cmdReturnTags p count ts s).state := by
  unfold cmdReturnTags
  split
  · exact Calm.refl _
  · exact returnAll_calm ..

theorem cmdVoidTag_calm (p : Port) (t : Nat) : Calm s (cmdVoidTag p t s).state := by
  simp only [cmdVoidTag]
  repeat' split
  all_goals try exact Calm.refl _
  · exact (State.mapEntry_calm ..).trans (State.collectionTest_calm ..)
  · exact State.mapEntry_calm ..

theorem claimOwn_calm (t : Nat) (e : Custody) (i : Nat) (c : Cand) : Calm s (claimOwn t e i c s).state := by
  unfold claimOwn
  repeat' split
  all_goals try exact Calm.refl _
  exact State.claim_calm ..

theorem cmdClaimTag_calm (p : Port) (t number : Nat) : Calm s (cmdClaimTag p t number s).state := by
  unfold cmdClaimTag
  repeat' split
  all_goals try exact Calm.refl _
  exact screenCand_calm s _ _ (fun i c r => claimOwn_calm r t _ i c)

theorem cmdAnnounce_calm (p : Port) (form value code : Nat) : Calm s (cmdAnnounce p form value code s).state := by
  unfold cmdAnnounce
  repeat' split
  all_goals try exact Calm.refl _
  all_goals exact State.queueFrame_calm ..

theorem cmdBatchOpen_calm (n : Nat) : Calm s (cmdBatchOpen n s).state := by
  unfold cmdBatchOpen
  repeat' split
  all_goals try exact Calm.refl _
  exact Calm.ofMarking ..

theorem cmdBatchClose_calm : Calm s (cmdBatchClose s).state := by
  simp only [cmdBatchClose]
  repeat' split
  all_goals try exact Calm.refl _
  refine Calm.trans ?_ (Calm.ofMarking ..)
  exact (Calm.ofMarking s _).trans (State.offer_calm _ .batch _ _ (by decide))

theorem cmdPage_calm (f : PageFields) : Calm s (cmdPage f s).state := by
  unfold cmdPage pageCustody pageChecked pagePlace
  repeat' split
  all_goals try exact Calm.refl _
  · exact State.mismatch_calm ..
  · exact State.placePage_calm ..
  · exact State.placePage_calm ..

theorem cmdSheetDiscard_calm (t : Nat) : Calm s (cmdSheetDiscard t s).state := by
  unfold cmdSheetDiscard
  repeat' split
  all_goals try exact Calm.refl _
  exact (State.mapSlot_calm s _ _).trans (Calm.ofMarking ..)

end Commands

/-- The read commands leave the state as it is. -/
theorem judgeCmd_reads (s : State) :
    (∀ t, (cmdSheetQuery t s).state = s) ∧ (∀ q, (cmdArchiveRead q s).state = s)
    ∧ (∀ sel v, (cmdReadCandidate sel v s).state = s) ∧ (∀ n, (cmdReadSeat n s).state = s)
    ∧ (∀ n, (cmdReadSitting n s).state = s) := by
  refine ⟨fun t => ?_, fun q => ?_, fun sel v => ?_, fun n => ?_, fun n => ?_⟩
  · unfold cmdSheetQuery; repeat' split
    all_goals rfl
  · simp only [cmdArchiveRead, State.findRecord]; repeat' split
    all_goals rfl
  · unfold cmdReadCandidate; repeat' split
    all_goals rfl
  · unfold cmdReadSeat; repeat' split
    all_goals rfl
  · unfold cmdReadSitting; repeat' split
    all_goals rfl

theorem Calm.ofEq {s t : State} (h : t = s) : Calm s t := h ▸ Calm.refl s

/-- Every command judged by its own rule is calm (R166). -/
theorem judgeCmd_calm (p : Port) (c : Cmd) (s : State) : Calm s (judgeCmd p c s).state := by
  obtain ⟨hquery, hread, hcand, hseat, hsitting⟩ := judgeCmd_reads s
  cases c with
  | sessionOpen n t => exact cmdSessionOpen_calm ..
  | sessionGo => exact Calm.ofHall s _ id id
  | sessionClose => exact cmdSessionClose_calm ..
  | sessionDiscard => exact cmdSessionDiscard_calm ..
  | seatDefine => exact cmdSeatDefine_calm ..
  | zoneGrant => exact cmdZoneGrant_calm ..
  | sittingDefine => exact cmdSittingDefine_calm ..
  | cueDefine => exact cmdCueDefine_calm ..
  | layoutDefine => exact cmdLayoutDefine_calm ..
  | candidateAdd => exact cmdCandidateAdd_calm ..
  | candidateAmend => exact cmdCandidateAmend_calm ..
  | allocate => exact cmdAllocate_calm ..
  | allocAbort => exact cmdAllocAbort_calm ..
  | keyItem => exact cmdKeyItem_calm ..
  | keySeal => exact cmdKeySeal_calm ..
  | keyUnseal => exact cmdKeyUnseal_calm ..
  | remark => exact cmdRemark_calm ..
  | finalise => exact cmdFinalise_calm ..
  | archiveExported => exact cmdArchiveExported_calm ..
  | archiveErase => exact cmdArchiveErase_calm ..
  | openDoors => exact cmdOpenDoors_calm ..
  | start => exact cmdStart_calm ..
  | pause => exact cmdPause_calm ..
  | resume => exact cmdResume_calm ..
  | admitDesk => exact cmdAdmit_calm ..
  | move => exact cmdMove_calm ..
  | seatService => exact cmdSeatService_calm ..
  | restStart => exact screenCand_calm s _ _ (fun i c t => restStartOwn_calm t i c)
  | restEnd => exact screenCand_calm s _ _ (fun i c t => restEndOwn_calm t i c)
  | finish => exact screenCand_calm s _ _ (fun i c t => finishOwn_calm t i c)
  | withdraw => exact screenCand_calm s _ _ (fun i c t => withdrawOwn_calm t i c)
  | issueTag => exact cmdIssueTag_calm ..
  | returnTags => exact cmdReturnTags_calm ..
  | voidTag => exact cmdVoidTag_calm ..
  | claimTag => exact cmdClaimTag_calm ..
  | announce => exact cmdAnnounce_calm ..
  | batchOpen => exact cmdBatchOpen_calm ..
  | page => exact cmdPage_calm ..
  | sheetQuery t => exact Calm.ofEq (hquery t)
  | sheetDiscard => exact cmdSheetDiscard_calm ..
  | batchClose => exact cmdBatchClose_calm ..
  | archiveRead q => exact Calm.ofEq (hread q)
  | readCandidate sel v => exact Calm.ofEq (hcand sel v)
  | readSeat n => exact Calm.ofEq (hseat n)
  | readSitting n => exact Calm.ofEq (hsitting n)
  | portStatus => exact State.mapPort_calm s p (fun ps => { ps with errorFlag := false, lostFlag := false }) (fun _ h => h)
  | archiveStatus => exact Calm.refl _
  | unknown => exact Calm.refl _
  | badLength => exact Calm.refl _

/-! ## The ports (R163 to R166, R169, R176) -/

theorem State.takeCommand_calm (s : State) (p : Port) (f : LinkFrame) : Calm s (s.takeCommand p f) := by
  have hjudge : Calm s (s.judge p f.cmd).state := by
    unfold State.judge
    split
    · exact Calm.refl _
    · exact judgeCmd_calm ..
  exact hjudge.trans (State.mapPort_calm _ p
    (fun ps => { ps with inService := some f, replySlot := some ((s.judge p f.cmd).reply f) }) (fun _ h => h))

theorem State.flagError_calm (s : State) (p : Port) : Calm s (s.flagError p) :=
  State.mapPort_calm s p _ (fun _ h => h)

theorem State.intake_calm (s : State) (p : Port) (f : LinkFrame) : Calm s (s.intake p f) := by
  unfold State.intake
  split
  · exact State.takeCommand_calm ..
  · exact State.mapPort_calm s p _ (fun _ h => h)
  · exact State.flagError_calm ..

theorem State.arrive_calm (s : State) (p : Port) (tag : Byte) (c : Cmd) : Calm s (s.arrive p tag c) := by
  unfold State.arrive
  split
  · exact State.flagError_calm ..
  · exact State.intake_calm ..

theorem State.assemble_calm (s : State) (p : Port) (a : Assembly) : Calm s (s.assemble p a) :=
  State.mapPort_calm s p _ (fun _ h => h)

theorem State.badFrame_calm (s : State) (p : Port) : Calm s (s.badFrame p) :=
  (State.assemble_calm ..).trans (State.flagError_calm ..)

theorem State.completeFrame_calm (s : State) (p : Port) (got : List Byte) (bad : Bool) :
    Calm s (s.completeFrame p got bad) := by
  unfold State.completeFrame
  repeat' split
  all_goals try exact State.badFrame_calm ..
  exact (State.assemble_calm ..).trans (State.intake_calm ..)

theorem State.collectByte_calm (s : State) (p : Port) (got : List Byte) (bad : Bool) :
    Calm s (s.collectByte p got bad) := by
  unfold State.collectByte
  repeat' split
  · exact Calm.refl _
  · exact State.badFrame_calm ..
  · exact State.completeFrame_calm ..
  · exact State.assemble_calm ..

theorem State.receiveByte_calm (s : State) (p : Port) (b : Byte) (framing bad : Bool) :
    Calm s (s.receiveByte p b framing bad) := by
  have hflag : Calm s (if bad then s.flagError p else s) := by
    split
    · exact State.flagError_calm ..
    · exact Calm.refl _
  unfold State.receiveByte
  split
  · exact State.badFrame_calm ..
  · exact State.collectByte_calm ..
  · exact State.flagError_calm ..
  · dsimp only
    split
    · exact hflag.trans (State.assemble_calm ..)
    · exact hflag

/-- A frame that begins to go out leaves the notice queue no longer. -/
theorem PortState.startSending_notices (ps : PortState) : ps.startSending.notices.length ≤ ps.notices.length := by
  unfold PortState.startSending
  split
  · exact Nat.le_refl _
  · next n ns h => rw [h, List.length_cons]; exact Nat.le_succ _
  · exact Nat.le_refl _

theorem State.endReply_calm (s : State) (p : Port) : Calm s (s.endReply p) := by
  have hfree := State.mapPort_calm s p
    (fun ps => { ps with sending := .none, replySlot := none, inService := none }) (fun _ h => h)
  unfold State.endReply
  split
  · exact hfree
  · exact (hfree.trans (State.mapPort_calm _ p _ (by exact fun _ h => h))).trans (State.takeCommand_calm ..)

/-! ## The seat line's events (Chapter 3) -/

theorem State.startFrame_calm (s : State) (f : LineFrame) : Calm s (s.startFrame f) := State.setLine_calm s _ rfl

theorem State.serveSeats_calm (s : State) : Calm s s.serveSeats := by
  unfold State.serveSeats
  repeat' split
  · refine Calm.trans ?_ (State.startFrame_calm ..)
    exact (State.mapSeat_calm s _ _).trans (Calm.ofLine _ _ (by exact id) (by exact id))
  · refine Calm.trans ?_ (State.startFrame_calm ..)
    exact Calm.ofLine s _ id id
  · exact Calm.refl _

theorem State.arbiterStart_calm (s : State) : Calm s s.arbiterStart := by
  unfold State.arbiterStart
  repeat' split
  · exact (Calm.ofLine s { s.line with deliver := none } id id).trans (State.startFrame_calm ..)
  · next f fs h =>
    exact (Calm.ofLine s { s.line with groupQueue := fs } id (fun hb => by simp only [h, List.length_cons] at hb ⊢; omega)).trans
      (State.startFrame_calm ..)
  · exact State.serveSeats_calm ..

theorem State.frameAcked_calm (s : State) (n : Nat) (k : FrameKind) : Calm s (s.frameAcked n k) := by
  refine (State.seatPresent_calm s n).trans ?_
  unfold State.frameAcked
  split
  · exact (State.mapSeat_calm ..).trans (Calm.ofLine _ _ id id)
  · exact Calm.refl _

theorem State.frameNacked_calm (s : State) (n : Nat) (k : FrameKind) : Calm s (s.frameNacked n k) := by
  refine (State.seatMiss_calm s n).trans ?_
  unfold State.frameNacked
  split
  · exact (State.mapSeat_calm ..).trans (Calm.ofLine _ _ id id)
  · exact State.mapSeat_calm ..
  · exact Calm.refl _

/-- A report that ends unacknowledged frees the entry reserved for it. -/
theorem State.endReport_calm (s : State) (ack : Bool) : Calm s (s.endReport ack) :=
  Calm.ofLine s (s.endReport ack).line (fun hb => (Nat.le_add_right ..).trans hb) id

/-- A report that ends in its reserved entry joins the inbox there (R44). -/
theorem State.endReport_pushReport_calm {s : State} {r : SeatFrame} (h : s.line.cond = .busyReport r .reserved)
    (k : ReportKind) : Calm s ((s.endReport true).pushReport r.address k) := by
  have hres : s.line.reserved = 1 := by rw [SeatLine.reserved, h]
  refine Calm.ofLine s ((s.endReport true).pushReport r.address k).line (fun hb => ?_) id
  rw [hres] at hb
  simpa [State.pushReport, State.endReport, SeatLine.reserved] using hb

/-! ## Programs and erases (Chapter 9) -/

/-- From one state to another nothing waits anew, and the memory's canonical form and the bounds are kept. -/
structure Keeps (s t : State) : Prop where
  pending : t.pending = s.pending
  mem : s.MemOk → t.MemOk
  bounded : s.Bounded → t.Bounded

theorem Calm.keeps {s t : State} (h : Calm s t) : Keeps s t :=
  ⟨h.pending, fun hm => by rw [State.MemOk, h.mem]; exact hm, h.bounded⟩

theorem Keeps.trans {s t u : State} (h : Keeps s t) (g : Keeps t u) : Keeps s u :=
  ⟨g.pending.trans h.pending, fun hm => g.mem (h.mem hm), fun hb => g.bounded (h.bounded hb)⟩

theorem State.mapMem_keeps (s : State) {f : List Host.Cell → List Host.Cell}
    (hf : ∀ m, Memory.wf m = true → Memory.wf (f m) = true) : Keeps s (s.mapMem f) :=
  ⟨rfl, hf s.arch.mem, fun b => ⟨b.inbox, b.groupQueue, b.notices, b.queue, b.results, b.custody, b.cands, b.time,
    b.lost⟩⟩

theorem State.mapPlane_calm (s : State) (p : PlaneId) (f : Plane → Plane) : Calm s (s.mapPlane p f) :=
  State.plane_calm s p (PlaneOnly.set ..)

theorem State.pump_calm (s : State) (p : PlaneId) : Calm s (s.pump p) := State.plane_calm s p (s.arch.pump_only p)

theorem State.disturb_calm (s : State) : Calm s s.disturb :=
  State.arch_calm s _ rfl (fun b => ⟨b.queue, b.results, b.lost⟩)

theorem State.openOrStall_calm (s : State) (p : PlaneId) : Calm s (s.openOrStall p) := by
  simp only [State.openOrStall]
  split
  · exact State.mapPlane_calm ..
  · exact (State.mapPlane_calm ..).trans (State.notify_calm ..)

/-- A queue that frees entries holds no more records, of any kind. -/
theorem State.freeEntry_calm (s : State) (last seq : Nat) :
    Calm s (s.mapArch (fun a => { a with lastStored := last, queue := freeEntry a.queue seq })) := by
  refine State.arch_calm s _ rfl (fun b => ⟨(List.length_filter_le ..).trans b.queue, ?_, b.lost⟩)
  exact ((List.filter_sublist.filter _).length_le).trans b.results

theorem State.programPass_keeps (s : State) (p : PlaneId) (b page : Nat) (r : ArchRecord) :
    Keeps s (s.programPass p b page r) := by
  have hstored : Keeps s _ := (State.mapMem_keeps s (fun m h => programPage_wf h p b page r.page)).trans
    ((State.mapPlane_calm _ p (fun pl =>
      { (pl.shift .pass).mapBlock b (fun x => x.stored page r.seq) with run := .none, progBuf := none })).trans
        (State.freeEntry_calm _ (max s.arch.lastStored r.seq) r.seq)).keeps
  have hlast : (s.mapMem (fun m => programPage m p b page r.page)).arch.lastStored = s.arch.lastStored := rfl
  unfold State.programPass
  dsimp only
  split
  · refine Keeps.trans ?_ ((State.openOrStall_calm ..).trans (State.pump_calm ..)).keeps
    simpa [State.mapArch] using hstored
  · refine Keeps.trans ?_ (State.pump_calm ..).keeps
    simpa [State.mapArch] using hstored

theorem State.programFail_keeps (s : State) (p : PlaneId) (b page : Nat) (r : ArchRecord) :
    Keeps s (s.programFail p b page r) :=
  (State.mapMem_keeps s (fun _ h => programPage_wf h p b page _)).trans
    (((State.disturb_calm _).trans (State.mapPlane_calm ..)).trans (State.notify_calm ..)).keeps

theorem State.retireEnd_keeps (s : State) (p : PlaneId) (b : Nat) (pass : Bool) :
    Keeps s (s.retireEnd p b pass) := by
  have htail : Keeps s (s.tailProgrammed p b pass) := by
    have hpage : ∀ bs, Keeps s (s.mapMem (fun m => programPage m p b Config.tailPage bs)) :=
      fun bs => State.mapMem_keeps s (fun m h => programPage_wf h p b _ bs)
    simp only [State.tailProgrammed]
    split
    · exact hpage _
    · exact (hpage _).trans ((State.disturb_calm _).trans (State.notify_calm ..)).keeps
  exact htail.trans (((State.mapPlane_calm ..).trans (State.openOrStall_calm ..)).trans (State.pump_calm ..)).keeps

theorem State.resumePrograms_calm (s : State) (p : PlaneId) : Calm s (s.resumePrograms p) :=
  (State.mapPlane_calm ..).trans (State.pump_calm ..)

theorem State.erasePass_keeps (s : State) (p : PlaneId) (b : Nat) : Keeps s (s.erasePass p b) := by
  have herased : Keeps s _ := (State.mapMem_keeps s (fun m h => eraseBlock_wf h p b)).trans
    (State.mapPlane_calm _ p (fun pl =>
      { pl.mapBlock b (fun _ => { state := .erased }) with eraseBegun := false })).keeps
  simp only [State.erasePass]
  split
  · exact herased.trans ((State.openOrStall_calm ..).trans (State.resumePrograms_calm ..)).keeps
  · exact herased.trans (State.resumePrograms_calm ..).keeps

theorem State.eraseFail_keeps (s : State) (p : PlaneId) (b : Nat) : Keeps s (s.eraseFail p b) :=
  (State.mapMem_keeps s (fun _ h => disturbBlock_wf h p b _)).trans
    (((State.disturb_calm _).trans (State.mapPlane_calm ..)).trans ((State.notify_calm ..).trans
      (State.resumePrograms_calm ..))).keeps

theorem State.classify_calm (s : State) (p : PlaneId) (b : Nat) (c : Scan) : Calm s (s.classify p b c) :=
  (State.mapPlane_calm ..).trans (State.arch_calm _ _ rfl (fun b => ⟨b.queue, b.results, b.lost⟩))

theorem State.scanEnd_calm (s : State) (c : Scan) : Calm s (s.scanEnd c) := by
  have hsettle : Calm s (s.mapArch (fun a => a.settle c)) :=
    State.arch_calm s _ rfl (fun b => ⟨b.queue, b.results, b.lost⟩)
  have hlost : ∀ t : State, Calm t (t.lostSession c) := by
    intro t
    unfold State.lostSession
    split
    · exact State.offer_calm _ .sessionLost _ _ (by decide)
    · exact Calm.refl _
  exact (hsettle.trans (hlost _)).trans (State.arch_calm _ _ rfl (fun b => ⟨b.queue, b.results, b.lost⟩))

theorem cutProgram_wf {m : List Host.Cell} (h : Memory.wf m = true) (p : PlaneId) (e : Nat) (r : Run) :
    Memory.wf (cutProgram p e r m) = true := by
  unfold cutProgram
  split
  · exact programPage_wf h ..
  · exact programPage_wf h ..
  · exact h

theorem cutErasing_wf {m : List Host.Cell} (h : Memory.wf m = true) (p : PlaneId) (e : Nat) (pl : Plane) :
    Memory.wf (cutErasing p e pl m) = true := by
  unfold cutErasing
  split
  · exact cutErase_wf h ..
  · exact h

theorem State.reset_bounded : State.reset.Bounded where
  inbox := by decide
  groupQueue := by decide
  notices p := by
    rcases p with d | _ | _
    · cases d <;> decide
    all_goals decide
  queue := by decide
  results := by decide
  custody := by decide
  cands := by decide
  time := by decide
  lost := by decide

theorem State.powerReset_keeps (s : State) : Keeps s s.powerReset where
  pending := rfl
  mem h := cutErasing_wf (cutErasing_wf (cutProgram_wf (cutProgram_wf h ..) ..) ..) ..
  bounded _ :=
    have b := State.reset_bounded
    ⟨b.inbox, b.groupQueue, b.notices, b.queue, b.results, b.custody, b.cands, b.time, b.lost⟩

end Sys2Proof.Machine
end

section
/-! SUPPORT. Every event gone through once: it is answered with a next state that keeps the waiting commands,
the memory's canonical form and the bounds. -/

namespace Sys2Proof.Machine

/-! ## Link commands (R165, R178) -/

/-- A row that is a link command is its frame's arrival at the port. -/
theorem exec_of_linkCommand {i : Instr} {p : Port} {tag : Byte} {c : Cmd} (h : linkCommand i = some (p, tag, c))
    (s : State) : exec i s = .next (s.arrive p tag c) := by
  cases i
  all_goals cases h
  all_goals rfl

/-! ## The other events -/

/-- An event answers a next state that keeps the waiting commands, the memory's form and the bounds. -/
def Kept (s : State) (o : Host.Outcome State Fault Refusal) : Prop := ∃ t, o = .next t ∧ Keeps s t

theorem Keeps.kept {s t : State} (h : Keeps s t) : Kept s (.next t) := ⟨t, rfl, h⟩

theorem Calm.kept {s t : State} (h : Calm s t) : Kept s (.next t) := h.keeps.kept

theorem Kept.refl (s : State) : Kept s (.next s) := (Calm.refl s).kept

section Events
variable (s : State) (p : PlaneId)

theorem execUnknownCommand_kept (q : Port) (tag code : Byte) : Kept s (execUnknownCommand q tag code s) := by
  unfold execUnknownCommand
  split
  · exact Kept.refl s
  · exact (State.arrive_calm ..).kept

theorem execFrameGapTimeout_kept (q : Port) : Kept s (execFrameGapTimeout q s) := by
  unfold execFrameGapTimeout
  split
  · exact (State.badFrame_calm ..).kept
  · exact Kept.refl s

theorem execReplyComplete_kept (q : Port) : Kept s (execReplyComplete q s) := by
  unfold execReplyComplete
  split
  · exact (State.endReply_calm ..).kept
  · exact Kept.refl s

theorem execNoticeSent_kept (q : Port) : Kept s (execNoticeSent q s) := by
  unfold execNoticeSent
  split
  · exact (State.mapPort_calm s q (fun ps => { ps with sending := .none }) (fun _ h => h)).kept
  · exact Kept.refl s

theorem execClosingEnd_kept : Kept s (execClosingEnd s) := by
  unfold execClosingEnd
  split
  · exact (State.closeReset_calm s).kept
  · exact Kept.refl s

theorem execLineIdle_kept : Kept s (execLineIdle s) := by
  unfold execLineIdle
  split
  · exact (State.setLine_calm s _ rfl).kept
  · exact (State.setLine_calm s _ rfl).kept
  · exact Kept.refl s

theorem execLineArbiterStart_kept : Kept s (execLineArbiterStart s) := by
  unfold execLineArbiterStart
  split
  · exact (State.arbiterStart_calm s).kept
  · exact Kept.refl s

theorem execControllerFrameAck_kept (ack : Bool) : Kept s (execControllerFrameAck ack s) := by
  have hquiet : Calm s (s.setLine .quiet) := State.setLine_calm s _ rfl
  have hseat : ∀ n, Calm s ((s.setLine .quiet).quietZero n) := fun n => hquiet.trans (State.mapSeat_calm ..)
  simp only [execControllerFrameAck]
  repeat' split
  · exact hquiet.kept
  · exact ((hseat _).trans (State.frameAcked_calm ..)).kept
  · exact ((hseat _).trans (State.frameNacked_calm ..)).kept
  · exact hquiet.kept
  · exact Kept.refl s

/-- A report is reserved an entry only while the inbox has a free one (R44). -/
theorem execSeatReportHeader_kept : Kept s (execSeatReportHeader s) := by
  unfold execSeatReportHeader
  repeat' split
  · exact (State.setLine_calm s _ rfl).kept
  · next hroom =>
    have hlt : s.line.inbox.length < 16 := hroom
    exact (Calm.ofLine s (s.setLine (.busyReport _ .reserved)).line (fun _ => Nat.succ_le_of_lt hlt) id).kept
  · exact (State.setLine_calm s _ rfl).kept
  · exact Kept.refl s

theorem execHoldTimeout_kept : Kept s (execHoldTimeout s) := by
  unfold execHoldTimeout
  split
  · exact (State.setLine_calm s _ rfl).kept
  · exact Kept.refl s

theorem execSeatReportStart_kept (rs : List SeatFrame) : Kept s (execSeatReportStart rs s) := by
  unfold execSeatReportStart
  split
  · exact (State.setLine_calm s _ rfl).kept
  · exact Kept.refl s

theorem execSeatReportEnd_kept : Kept s (execSeatReportEnd s) := by
  unfold execSeatReportEnd
  repeat' split
  all_goals try exact (State.endReport_calm ..).kept
  · next h _ _ _ =>
    exact (((State.endReport_pushReport_calm h _).trans (State.mapSeat_calm ..)).trans (State.seatPresent_calm ..)).kept
  · exact (((State.endReport_calm ..).trans (State.mapSeat_calm ..)).trans (State.seatPresent_calm ..)).kept
  · exact Kept.refl s

theorem execHello_kept : Kept s (execHello s) := by
  unfold execHello
  split
  · exact (s.leaveInbox_calm.trans (State.helloAt_calm ..)).kept
  · exact Kept.refl s

theorem execKey_kept : Kept s (execKey s) := by
  unfold execKey
  split
  · exact (s.leaveInbox_calm.trans (State.keyAt_calm ..)).kept
  · exact Kept.refl s

theorem execCard_kept : Kept s (execCard s) := by
  unfold execCard
  split
  · exact (s.leaveInbox_calm.trans (State.admitAtSeat_calm ..)).kept
  · exact Kept.refl s

theorem execCallReport_kept : Kept s (execCallReport s) := by
  unfold execCallReport
  split
  · exact (s.leaveInbox_calm.trans (State.callAt_calm ..)).kept
  · exact Kept.refl s

theorem execDoneReport_kept : Kept s (execDoneReport s) := by
  unfold execDoneReport
  split
  · exact (s.leaveInbox_calm.trans (State.doneAt_calm ..)).kept
  · exact Kept.refl s

theorem execTagReport_kept : Kept s (execTagReport s) := by
  unfold execTagReport
  split
  · exact (s.leaveInbox_calm.trans (State.tagAt_calm ..)).kept
  · exact Kept.refl s

theorem execScoringEnd_kept : Kept s (execScoringEnd s) := by
  unfold execScoringEnd
  split
  · exact Kept.refl s
  · exact (((Calm.ofMarking s _).trans (State.releaseSlot_calm ..)).trans (State.takeSlot_calm ..)).kept

theorem execProgramPass_kept : Kept s (execProgramPass p s) := by
  unfold execProgramPass
  split
  · exact (State.programPass_keeps ..).kept
  · exact Kept.refl s

theorem execProgramFail_kept : Kept s (execProgramFail p s) := by
  unfold execProgramFail
  split
  · exact (State.programFail_keeps ..).kept
  · exact Kept.refl s

theorem execRetireMarkEnd_kept (pass : Bool) : Kept s (execRetireMarkEnd p pass s) := by
  unfold execRetireMarkEnd
  split
  · exact (State.retireEnd_keeps ..).kept
  · exact Kept.refl s

theorem execEraseStart_kept : Kept s (execEraseStart p s) := by
  unfold execEraseStart
  split
  · exact (State.mapPlane_calm ..).kept
  · exact Kept.refl s

theorem execEraseEnd_kept (pass : Bool) : Kept s (execEraseEnd p pass s) := by
  unfold execEraseEnd
  split
  · cases pass
    · exact (State.eraseFail_keeps ..).kept
    · exact (State.erasePass_keeps ..).kept
  · exact Kept.refl s

theorem execScanBlockClassify_kept (b : Nat) : Kept s (execScanBlockClassify p b s) := by
  unfold execScanBlockClassify
  repeat' split
  · exact (State.classify_calm ..).kept
  · exact Kept.refl s
  · exact Kept.refl s

theorem execScanEnd_kept : Kept s (execScanEnd s) := by
  unfold execScanEnd
  split
  · exact (State.scanEnd_calm ..).kept
  · exact Kept.refl s

end Events

/-- Every event is answered with a next state that keeps the waiting commands, the memory's form and the
bounds. -/
theorem exec_kept (i : Instr) (s : State) : Kept s (exec i s) := by
  rcases hcmd : linkCommand i with _ | ⟨p, tag, c⟩
  case some => rw [exec_of_linkCommand hcmd]; exact (State.arrive_calm ..).kept
  case none =>
    cases i
    case powerReset => exact (State.powerReset_keeps s).kept
    case hallSecond => exact (State.hallSecond_calm s).kept
    case readingEnd => exact (State.early_calm ..).kept
    case elapsedCueFire => exact (State.early_calm ..).kept
    case defaultAdmissionClose => exact (State.early_calm ..).kept
    case remainingCueFire => exact (State.early_calm ..).kept
    case expiry => exact (State.early_calm ..).kept
    case restBudgetEnd => exact (State.early_calm ..).kept
    case pauseLimit => exact (State.early_calm ..).kept
    case seatPollDue => exact (State.early_calm ..).kept
    case closingDrainOffer => exact (State.drainOffer_calm s).kept
    case closingEnd => exact execClosingEnd_kept s
    case allocationTurn => exact (State.allocationTurn_calm s).kept
    case unknownCommand => exact execUnknownCommand_kept ..
    case linkByteReceived => exact (State.receiveByte_calm ..).kept
    case frameGapTimeout => exact execFrameGapTimeout_kept ..
    case transmitterStart p =>
      exact (State.mapPort_calm s p _ (fun ps h => ps.startSending_notices.trans h)).kept
    case replyComplete => exact execReplyComplete_kept ..
    case linkBreak p => exact (State.mapPort_calm s p (fun _ => {}) (fun _ _ => Nat.zero_le _)).kept
    case lineIdle => exact execLineIdle_kept s
    case lineArbiterStart => exact execLineArbiterStart_kept s
    case controllerFrameAck => exact execControllerFrameAck_kept ..
    case seatReportHeader => exact execSeatReportHeader_kept s
    case holdTimeout => exact execHoldTimeout_kept s
    case seatReportEnd => exact execSeatReportEnd_kept s
    case hello => exact execHello_kept s
    case key => exact execKey_kept s
    case card => exact execCard_kept s
    case callReport => exact execCallReport_kept s
    case doneReport => exact execDoneReport_kept s
    case tagReport => exact execTagReport_kept s
    case scoringStart => exact (State.takeSlot_calm s).kept
    case scoringEnd => exact execScoringEnd_kept s
    case waitingResultQueue => exact (State.serveWaiting_calm s).kept
    case programStart => exact (State.pump_calm ..).kept
    case programPass => exact execProgramPass_kept ..
    case programFail => exact execProgramFail_kept ..
    case retireMarkEnd => exact execRetireMarkEnd_kept ..
    case eraseStart => exact execEraseStart_kept ..
    case eraseEnd => exact execEraseEnd_kept ..
    case scanBlockClassify => exact execScanBlockClassify_kept ..
    case scanEnd => exact execScanEnd_kept s
    case seatReportStart => exact execSeatReportStart_kept ..
    case noticeSent => exact execNoticeSent_kept ..
    all_goals cases hcmd

/-! ## A step (log 1) -/

theorem step_of_pending {s : State} {c : Instr} {rest : List Instr} (h : s.pending = c :: rest) :
    step s = exec c { s with pending := rest } := by
  rw [step, h]

/-- A step leaves an idle controller as it is, and else runs the front of the queue on the same records. -/
theorem step_next {s t : State} (h : step s = .next t) :
    t = s ∨ ∃ c rest, s.pending = c :: rest ∧ exec c { s with pending := rest } = .next t := by
  cases hp : s.pending with
  | nil =>
    rw [step, hp] at h
    cases h
    exact .inl rfl
  | cons c rest => exact .inr ⟨c, rest, rfl, step_of_pending hp ▸ h⟩

/-- A step keeps the memory's canonical form and the bounds. -/
theorem step_keeps {s t : State} (h : step s = .next t) : (s.MemOk → t.MemOk) ∧ (s.Bounded → t.Bounded) := by
  obtain rfl | ⟨c, rest, -, hexec⟩ := step_next h
  · exact ⟨id, id⟩
  · obtain ⟨u, hu, hkeeps⟩ := exec_kept c { s with pending := rest }
    rw [hexec] at hu
    cases hu
    exact ⟨hkeeps.mem, fun b => hkeeps.bounded
      ⟨b.inbox, b.groupQueue, b.notices, b.queue, b.results, b.custody, b.cands, b.time, b.lost⟩⟩

/-- Settles O1: by the definition of a step. -/
theorem stepRunsFront : Obligations.StepRunsFront := by
  unfold Obligations.StepRunsFront
  intro c rest s h
  exact step_of_pending h

/-- Settles O2: from the one pass over the events. -/
theorem execAlwaysNext : Obligations.ExecAlwaysNext := by
  unfold Obligations.ExecAlwaysNext
  intro c s
  obtain ⟨t, ht, hkeeps⟩ := exec_kept c s
  exact ⟨t, ht, hkeeps.pending⟩

/-- Settles O5: from the one pass over the events. -/
theorem memoryFormKept : Obligations.MemoryFormKept := by
  unfold Obligations.MemoryFormKept
  intro s t hmem h
  exact (step_keeps h).1 hmem

end Sys2Proof.Machine
end

section
/-! SUPPORT. Sessions and loading (Chapter 1): what a command that a ready port takes leaves, and what the
loading commands answer. -/

namespace Sys2Proof.Machine

/-! ## A command taken on a ready port (R165, R166) -/

/-- A command whose code the port's role takes and whose fields have a length of the command (R166, R167). -/
def PortTakes (p : Port) (c : Cmd) : Prop :=
  Cmd.isUnknown c = false ∧ roleTakes p c.code = true ∧ Cmd.isBadLength c = false

/-- A command that passes every gate leaves what its own rule answers, with the reply in the slot. -/
theorem exec_taken {i : Instr} {p : Port} {tag : Byte} {c : Cmd} {s t : State} {r : ResultCode} {fields : List Field}
    (hi : linkCommand i = some (p, tag, c)) (hready : s.ready p tag) (hc : PortTakes p c)
    (hsession : sessionTakes c s.hall.session = true) (hjudge : judgeCmd p c s = ⟨t, r, fields⟩) :
    exec i s = .next (t.replied p tag c r fields) := by
  obtain ⟨hu, hr, hl⟩ := hc
  rw [exec_of_linkCommand hi, State.arrive_ready c hready, State.judge, State.gate_none hready.1 hu hr hl hsession]
  simp only [hjudge]

/-! ## SESSION_CLOSE (R6) -/

theorem Sitting.running_iff (x : Sitting) :
    x.running = true ↔ x.state = .opened ∨ x.state = .reading ∨ x.state = .writing ∨ x.state = .collecting := by
  unfold Sitting.running
  cases x.state <;> simp

theorem cmdSessionClose_of_run {s : State} (h : s.alloc.running = true) : cmdSessionClose s = refuse s .busy :=
  if_pos h

theorem cmdSessionClose_of_sitting {s : State} (hrun : s.alloc.running = false)
    (h : ∃ x ∈ s.hall.sittings, x.running = true) : cmdSessionClose s = refuse s .state := by
  rw [cmdSessionClose, if_neg (by simp [hrun]), if_pos (List.any_eq_true.mpr h)]

theorem cmdSessionClose_of_none {s : State} (hrun : s.alloc.running = false)
    (h : ∀ x ∈ s.hall.sittings, x.running = false) :
    cmdSessionClose s = okay { s with hall := { s.hall with session := .closing, drain := .custody 0 } } := by
  have hany : s.hall.sittings.any Sitting.running = false := by
    rw [List.any_eq_false]
    exact fun x hx => by simp [h x hx]
  rw [cmdSessionClose, if_neg (by simp [hrun]), if_neg (by simp [hany])]

/-- Settles O9: each command is judged by its own rule, test by test. -/
theorem sessionsOpenAndClose : Obligations.SessionsOpenAndClose := by
  unfold Obligations.SessionsOpenAndClose
  refine ⟨fun tag n time s hready hidle hlo hhi htime => ?_, fun tag s hready => ⟨fun hsession => ?_,
    fun hsession hrun => ?_, fun hsession hrun hsitting => ?_, fun hsession hrun hsittings => ?_⟩⟩
  · have hrange : ¬ (n = 0 ∨ 65535 < n ∨ 86399 < time) := by omega
    exact exec_taken rfl hready ⟨rfl, rfl, rfl⟩ (by simp [sessionTakes, hidle]) (if_neg hrange)
  · exact exec_taken rfl hready ⟨rfl, rfl, rfl⟩ (by simp [sessionTakes, hsession]) rfl
  · exact exec_taken rfl hready ⟨rfl, rfl, rfl⟩ (by simp [sessionTakes, hsession]) (cmdSessionClose_of_run hrun)
  · refine exec_taken rfl hready ⟨rfl, rfl, rfl⟩ (by simp [sessionTakes, hsession]) (cmdSessionClose_of_sitting hrun ?_)
    obtain ⟨x, hx, hstate⟩ := hsitting
    exact ⟨x, hx, x.running_iff.mpr hstate⟩
  · refine exec_taken rfl hready ⟨rfl, rfl, rfl⟩ (by simp [sessionTakes, hsession])
      (cmdSessionClose_of_none hrun fun x hx => ?_)
    rw [Bool.eq_false_iff, Ne, Sitting.running_iff]
    obtain h | h | h := hsittings x hx <;> simp [h]

/-! ## Resets of the seat line (R58) and the closing drain (R7) -/

/-- What a DISCARD or CLOSE reset makes of the line's condition (R58). -/
def LineCond.reset : LineCond → LineCond
  | .idle => .idle
  | .quiet => .quiet
  | .busyController f _ => .busyController f true
  | .busyReport r _ | .hold r => .busyReport r .refused

theorem SeatLine.reset_eq (l : SeatLine) :
    l.reset = { cond := l.cond.reset, inbox := [], groupQueue := [⟨0, .clear⟩], deliver := none,
                lastServed := 0, lastPolled := 0, acked := false } := by
  unfold SeatLine.reset LineCond.reset
  cases l.cond <;> rfl

/-- Settles O10. -/
theorem sessionDiscarded : Obligations.SessionDiscarded := by
  unfold Obligations.SessionDiscarded
  intro tag s hready hsession
  refine exec_taken rfl hready ⟨rfl, rfl, rfl⟩ (by simp [sessionTakes, hsession]) ?_
  change cmdSessionDiscard s = _
  rw [cmdSessionDiscard, State.discardReset, State.closeReset, SeatLine.reset_eq]
  rfl

/-- The next index with a record not in COLLECTED. -/
theorem nextUncollected_eq_some {cands : List Cand} {i j : Nat} (hij : i ≤ j)
    (hj : ∃ c, cands[j]? = some c ∧ c.state ≠ .collected)
    (hbefore : ∀ k c, i ≤ k → k < j → cands[k]? = some c → c.state = .collected) :
    nextUncollected cands i = some j := by
  obtain ⟨c, hc, hstate⟩ := hj
  have hlen : j < cands.length := (List.getElem?_eq_some_iff.mp hc).1
  have hfound : (cands.drop i).findIdx? (fun c => decide (c.state ≠ .collected)) = some (j - i) := by
    rw [List.findIdx?_eq_some_iff_getElem]
    refine ⟨by rw [List.length_drop]; omega, ?_, fun k hk => ?_⟩
    · obtain ⟨hlt, rfl⟩ := List.getElem?_eq_some_iff.mp hc
      simpa [Nat.add_sub_cancel' hij] using hstate
    · have hki : i + k < cands.length := by omega
      simpa using hbefore (i + k) _ (by omega) (by omega) (List.getElem?_eq_getElem hki)
  rw [nextUncollected, hfound, Option.map_some, Nat.add_sub_cancel' hij]

theorem nextUncollected_eq_none {cands : List Cand} {i : Nat}
    (h : ∀ k c, i ≤ k → cands[k]? = some c → c.state = .collected) : nextUncollected cands i = none := by
  have hnone : (cands.drop i).findIdx? (fun c => decide (c.state ≠ .collected)) = none := by
    rw [List.findIdx?_eq_none_iff]
    intro c hc
    obtain ⟨k, hk⟩ := List.mem_iff_getElem?.mp hc
    rw [List.getElem?_drop] at hk
    simp [h (i + k) c (by omega) hk]
  rw [nextUncollected, hnone, Option.map_none]

theorem Archive.canTake_iff (a : Archive) : a.canTake = true ↔ a.queue.length < 32 :=
  decide_eq_true_iff

theorem State.drainOffer_of_full {s : State} (h : 32 ≤ s.arch.queue.length) : s.drainOffer = s := by
  have hfull : ¬ s.arch.canTake = true := by rw [Archive.canTake_iff]; omega
  unfold State.drainOffer
  split
  · rw [if_neg hfull]
  · rfl

theorem State.drainOffer_of_next {s : State} {i j : Nat} (hdrain : s.hall.drain = .custody i)
    (hroom : s.arch.queue.length < 32) (hnext : nextUncollected s.hall.cands i = some j) :
    s.drainOffer = { s with hall := { s.hall with drain := .custody (j + 1) } }.offerCustodyClose j false := by
  simp only [State.drainOffer, hdrain, if_pos (s.arch.canTake_iff.mpr hroom), hnext]

theorem State.drainOffer_of_last {s : State} {i : Nat} (hdrain : s.hall.drain = .custody i)
    (hroom : s.arch.queue.length < 32) (hnext : nextUncollected s.hall.cands i = none) :
    s.drainOffer = { s with hall := { s.hall with drain := .waitEmpty } }.offer .sessionClosed
      [s.sessionField, s.timeField, ⟨2, s.hall.cands.length⟩] := by
  simp only [State.drainOffer, hdrain, if_pos (s.arch.canTake_iff.mpr hroom), hnext]

theorem execClosingEnd_of_waiting {s : State} (h : s.hall.drain ≠ .waitEmpty ∨ s.arch.queue ≠ []) :
    execClosingEnd s = .next s := by
  rw [execClosingEnd, if_neg (by tauto)]

/-- Settles O11, by the drain's place and the room in the queue. -/
theorem closingDrain : Obligations.ClosingDrain := by
  unfold Obligations.ClosingDrain
  intro s
  refine ⟨fun i j hdrain hroom hnext => ?_, fun i hdrain hroom hlast => ?_, fun hfull => ?_, fun hwait hempty => ?_,
    fun h => execClosingEnd_of_waiting h⟩
  · obtain ⟨hij, hj, hbefore⟩ := hnext
    exact congrArg _ (State.drainOffer_of_next hdrain hroom (nextUncollected_eq_some hij hj hbefore))
  · exact congrArg _ (State.drainOffer_of_last hdrain hroom (nextUncollected_eq_none hlast))
  · exact congrArg _ (State.drainOffer_of_full hfull)
  · refine (if_pos (⟨hwait, hempty⟩ : s.hall.drain = .waitEmpty ∧ s.arch.queue = [])).trans ?_
    rw [State.closeReset, SeatLine.reset_eq]
    rfl

/-! ## SEAT_DEFINE and ZONE_GRANT (R11, R13) -/

theorem seatOk_of_inRange {n : Nat} (hlo : 1 ≤ n) (hhi : n ≤ 511) : seatOk n = true := by simp [seatOk, hlo, hhi]

theorem numberOk_of_inRange {n : Nat} (hlo : 1 ≤ n) (hhi : n ≤ 999999999) : numberOk n = true := by
  simp [numberOk, hlo, hhi]

theorem sittingOk_of_inRange {n : Nat} (hlo : 1 ≤ n) (hhi : n ≤ 12) : sittingOk n = true := by
  simp [sittingOk, hlo, hhi]

theorem markOk_of_le {n : Nat} (h : n ≤ 1) : markOk n = true := by simp [markOk, h]

theorem seatKindOf_of_mem {n : Nat} {k : SeatKind}
    (h : (n, k) ∈ [(0, SeatKind.standard), (1, SeatKind.access), (2, SeatKind.spare)]) : seatKindOf n = some k := by
  simp only [List.mem_cons, Prod.mk.injEq, List.not_mem_nil, or_false] at h
  obtain ⟨rfl, rfl⟩ | ⟨rfl, rfl⟩ | ⟨rfl, rfl⟩ := h <;> rfl

theorem deskOf_of_mem {n : Nat} {d : Desk} (h : (n, d) ∈ [(0, Desk.d0), (1, Desk.d1), (2, Desk.d2), (3, Desk.d3)]) :
    deskOf n = some d := by
  simp only [List.mem_cons, Prod.mk.injEq, List.not_mem_nil, or_false] at h
  obtain ⟨rfl, rfl⟩ | ⟨rfl, rfl⟩ | ⟨rfl, rfl⟩ | ⟨rfl, rfl⟩ := h <;> rfl

/-- What SEAT_DEFINE tests before it looks for the seat's record (R11). -/
structure SeatDefinable (s : State) (n row column zone kind : Nat) (k : SeatKind) : Prop where
  kindOf : seatKindOf kind = some k
  inRange : ¬ (¬ seatOk n ∨ row = 0 ∨ 32 < row ∨ column = 0 ∨ 32 < column ∨ 7 < zone)
  idle : s.alloc.running = false
  vacant : ¬ ((s.seat? n).bind (fun x => x.occupant)).isSome
  free : ¬ s.hall.seats.any (fun x => x.seat != n && x.row == row && x.column == column)

section SeatDefine
variable {s : State} {n row column zone kind : Nat} {k : SeatKind}

theorem cmdSeatDefine_of_new (h : SeatDefinable s n row column zone kind k) (hnone : s.seat? n = none) :
    cmdSeatDefine n row column zone kind s =
      okay { s with hall := { s.hall with
        seats := insertSeat { seat := n, row := row, column := column, zone := zone, kind := k } s.hall.seats } } := by
  simp only [cmdSeatDefine, h.kindOf]
  rw [if_neg h.inRange, if_neg (Bool.eq_false_iff.mp h.idle), if_neg h.vacant, if_neg h.free, hnone]

theorem cmdSeatDefine_of_known {x : Seat} (h : SeatDefinable s n row column zone kind k) (hx : s.seat? n = some x) :
    cmdSeatDefine n row column zone kind s =
      okay (s.mapSeat n (fun y => { y with row := row, column := column, zone := zone, kind := k })) := by
  simp only [cmdSeatDefine, h.kindOf]
  rw [if_neg h.inRange, if_neg (Bool.eq_false_iff.mp h.idle), if_neg h.vacant, if_neg h.free, hx]

end SeatDefine

/-- Settles O12. -/
theorem seatsAndGrants : Obligations.SeatsAndGrants := by
  unfold Obligations.SeatsAndGrants
  refine ⟨fun tag n row column zone kind k s hready hload hn1 hn2 hr1 hr2 hc1 hc2 hz hkind hrun hgrid => ?_,
    fun tag d mask chief desk s hready hsession hdesk hmask hchief => ?_⟩
  · have hfree : ¬ s.hall.seats.any (fun x => x.seat != n && x.row == row && x.column == column) := by
      rw [List.any_eq_true]
      rintro ⟨x, hx, htest⟩
      simp only [Bool.and_eq_true, bne_iff_ne, beq_iff_eq] at htest
      exact hgrid x hx htest.1.1 ⟨htest.1.2, htest.2⟩
    have hrange : ¬ (¬ seatOk n ∨ row = 0 ∨ 32 < row ∨ column = 0 ∨ 32 < column ∨ 7 < zone) := by
      rintro (h | h)
      · exact h (seatOk_of_inRange hn1 hn2)
      · omega
    have hsession : sessionTakes (.seatDefine n row column zone kind) s.hall.session = true := by
      simp [sessionTakes, hload]
    refine ⟨fun hnone => ?_, fun x hx hvacant => ?_⟩
    · have hdef : SeatDefinable s n row column zone kind k :=
        ⟨seatKindOf_of_mem hkind, hrange, hrun, by simp [hnone], hfree⟩
      exact exec_taken rfl hready ⟨rfl, rfl, rfl⟩ hsession (cmdSeatDefine_of_new hdef hnone)
    · have hdef : SeatDefinable s n row column zone kind k :=
        ⟨seatKindOf_of_mem hkind, hrange, hrun, by simp [hx, hvacant], hfree⟩
      exact exec_taken rfl hready ⟨rfl, rfl, rfl⟩ hsession (cmdSeatDefine_of_known hdef hx)
  · refine exec_taken rfl hready ⟨rfl, rfl, rfl⟩ ?_ ?_
    · obtain h | h := hsession <;> simp [sessionTakes, h]
    · have hrange : ¬ (255 < mask ∨ ¬ markOk chief) := by
        rintro (h | h)
        · omega
        · exact h (markOk_of_le hchief)
      change cmdZoneGrant d mask chief s = _
      simp only [cmdZoneGrant, deskOf_of_mem hdesk, if_neg hrange]
      rfl

/-! ## SITTING_DEFINE (R15, R16) -/

theorem invalidPolicyOf_of_mem {n : Nat} {k : InvalidPolicy}
    (h : (n, k) ∈ [(0, InvalidPolicy.asWrong), (1, InvalidPolicy.asBlank)]) : invalidPolicyOf n = some k := by
  simp only [List.mem_cons, Prod.mk.injEq, List.not_mem_nil, or_false] at h
  obtain ⟨rfl, rfl⟩ | ⟨rfl, rfl⟩ := h <;> rfl

theorem floorPolicyOf_of_mem {n : Nat} {k : FloorPolicy}
    (h : (n, k) ∈ [(0, FloorPolicy.clampZero), (1, FloorPolicy.signed)]) : floorPolicyOf n = some k := by
  simp only [List.mem_cons, Prod.mk.injEq, List.not_mem_nil, or_false] at h
  obtain ⟨rfl, rfl⟩ | ⟨rfl, rfl⟩ := h <;> rfl

theorem distinct_of_nodup {l : List Nat} (h : l.Nodup) : distinct l = true := by
  induction l with
  | nil => rfl
  | cons a l ih =>
    obtain ⟨ha, hl⟩ := List.nodup_cons.mp h
    simp [distinct, ha, ih hl]

theorem Sitting.cueOver_eq_false {x : Sitting} {base : Nat}
    (h : ∀ q ∈ x.elapsedCues ++ x.remainingCues, q.value < base) : x.cueOver base = false := by
  rw [Sitting.cueOver, List.any_eq_false]
  exact fun q hq => by have := h q hq; simp only [decide_eq_true_eq]; omega

theorem redefineSitting_of_defined {s : State} {f : SittingFields} {ip : InvalidPolicy} {fp : FloorPolicy} {x : Sitting}
    (hrun : x.inFlight = false) (hstate : x.state = .defined)
    (hcues : ∀ q ∈ x.elapsedCues ++ x.remainingCues, q.value < f.base) :
    redefineSitting f ip fp x s =
      let t := s.mapSitting f.sitting (fun y =>
        { y with paper := f.paper, base := f.base, reading := f.reading, pauseLimit := f.pauseLimit,
                 zones := f.zones, outMax := f.outMax, passMark := f.passMark, penalty := f.penalty,
                 invalidPolicy := ip, floorPolicy := fp })
      okay (if f.base = x.base then t else t.recomputeE f.sitting f.base) := by
  rw [redefineSitting, if_neg (Bool.eq_false_iff.mp hrun), if_neg (by simp [hstate]),
    if_neg (Bool.eq_false_iff.mp (Sitting.cueOver_eq_false hcues))]

/-- Settles O13. -/
theorem sittingsDefined : Obligations.SittingsDefined := by
  unfold Obligations.SittingsDefined
  intro tag f ip fp s hready hsession hn1 hn2 hpaper hchars hb1 hb2 hreading hpause hzc1 hzc2 hzones hzone hnodup hm1 hm2
    hpass hpenalty hip hfp
  have hfields : sittingFieldsOk f = true := by
    have hp : f.paper.all (fun c => 0x20 ≤ c && c ≤ 0x7E) = true :=
      List.all_eq_true.mpr fun c hc => by simpa using hchars c hc
    have hz : f.zones.all (fun z => z ≤ 7) = true :=
      List.all_eq_true.mpr fun z hz => by simpa using hzone z hz
    simp [sittingFieldsOk, sittingOk_of_inRange hn1 hn2, hpaper, hp, hb1, hb2, hreading, hpause, hzc1, hzc2, hzones, hz,
      hm1, hm2, hpass, hpenalty]
  have hgate : sessionTakes (.sittingDefine f) s.hall.session = true := by
    obtain h | h := hsession <;> simp [sessionTakes, h]
  refine ⟨fun hnone => exec_taken rfl hready ⟨rfl, rfl, rfl⟩ hgate ?_,
    fun x hx hrun hstate hcues => exec_taken rfl hready ⟨rfl, rfl, rfl⟩ hgate ?_⟩
  all_goals
    change cmdSittingDefine f s = _
    simp only [cmdSittingDefine, invalidPolicyOf_of_mem hip, floorPolicyOf_of_mem hfp]
    rw [if_neg (by simp [hfields]), if_neg (by simp [distinct_of_nodup hnodup])]
  · rw [hnone]
    rfl
  · simp only [hx]
    rw [redefineSitting_of_defined hrun hstate hcues]
    rfl

/-! ## CANDIDATE_ADD and CANDIDATE_AMEND (R20 to R22) -/

theorem Sitting.takesNew_iff (x : Sitting) :
    x.takesNew = true ↔ x.state = .defined ∨ x.state = .opened ∨ x.state = .reading
      ∨ (x.state = .writing ∧ x.admission = true) := by
  unfold Sitting.takesNew
  cases x.state <;> simp

/-- The entitlement is the least whole number of seconds not below B times (100 + a) / 100 (R60). -/
theorem entitlement_least (b a : Nat) :
    b * (100 + a) ≤ 100 * entitlement b a ∧ ∀ e, b * (100 + a) ≤ 100 * e → entitlement b a ≤ e := by
  unfold entitlement
  generalize b * (100 + a) = n
  exact ⟨by omega, fun e _ => by omega⟩

/-- Settles O14. -/
theorem candidateAdded : Obligations.CandidateAdded := by
  unfold Obligations.CandidateAdded
  refine ⟨fun tag number n access allowance rest x s hready hsession hnum1 hnum2 hn1 hn2 haccess hallow hrest hx hrun
    hstate hfresh hroom => exec_taken rfl hready ⟨rfl, rfl, rfl⟩ ?_ ?_, entitlement_least⟩
  · obtain h | h := hsession <;> simp [sessionTakes, h]
  · have hrange : ¬ (¬ numberOk number ∨ ¬ sittingOk n ∨ ¬ markOk access ∨ 100 < allowance ∨ 3600 < rest) := by
      simp [numberOk_of_inRange hnum1 hnum2, sittingOk_of_inRange hn1 hn2, markOk_of_le haccess, hallow, hrest]
    change cmdCandidateAdd number n access allowance rest s = _
    rw [cmdCandidateAdd, if_neg hrange]
    simp only [hx]
    rw [if_neg (Bool.eq_false_iff.mp hrun), if_neg (by simp [x.takesNew_iff.mpr hstate]),
      if_neg (by simp [State.findCand_eq_none hfresh]), 
      if_neg (show ¬ Config.maxCandidates ≤ s.hall.cands.length from Nat.not_le.mpr hroom)]
    rfl

theorem Cand.amendable_of {c : Cand}
    (h : c.state = .expected ∨ c.state = .admitted ∨ c.state = .writing ∨ c.state = .resting) : c.amendable = true := by
  unfold Cand.amendable
  obtain h | h | h | h := h <;> rw [h]

theorem State.inFlight_eq {s : State} {n : Nat} {x : Sitting} (hx : s.sitting? n = some x) :
    s.inFlight n = x.inFlight := by
  simp [State.inFlight, hx]

/-- A CANDIDATE_AMEND that passes its tests: the values stored, the display written, and the effects of R22. -/
theorem cmdCandidateAmend_of_found {s : State} {number allowance rest access i : Nat} {c : Cand} {x : Sitting}
    (hnum1 : 1 ≤ number) (hnum2 : number ≤ 999999999) (hallow : allowance ≤ 100) (hrest : rest ≤ 3600)
    (haccess : access ≤ 1) (hi : s.findCand number = some i) (hc : s.cand? i = some c)
    (hx : s.sitting? c.sitting = some x) (hrun : x.inFlight = false) (hc' : c.amendable = true) :
    cmdCandidateAmend number allowance rest access s =
      okay (amendEffects i c (entitlement x.base allowance) (max rest c.restUsed)
        ((s.mapCand i (fun y => { y with allowance := allowance, restBudget := max rest c.restUsed,
                                         access := access = 1, entitled := entitlement x.base allowance })).showCand i))
        [⟨2, entitlement x.base allowance⟩] := by
  have hrange : ¬ (¬ numberOk number ∨ 100 < allowance ∨ 3600 < rest ∨ ¬ markOk access) := by
    simp [numberOk_of_inRange hnum1 hnum2, markOk_of_le haccess, hallow, hrest]
  rw [cmdCandidateAmend, if_neg hrange]
  simp only [hi, hc, Option.bind_some, Option.map_some]
  rw [if_neg (by simp [State.inFlight_eq hx, hrun]), if_neg (by simp [hc']), hx]
  rfl

section AmendEffects
variable {s : State} {i e budget : Nat} {c : Cand}

theorem amendEffects_of_expired (h : (c.state = .writing ∨ c.state = .resting) ∧ e ≤ c.consumed) :
    amendEffects i c e budget s = (s.mapCand i (fun c => { c with consumed := e })).finishCand i .time :=
  if_pos h

theorem amendEffects_of_rested (hlive : c.consumed < e) (hrest : c.state = .resting) (hbudget : budget = c.restUsed) :
    amendEffects i c e budget s = s.leaveRest i c.sitting (some (.cond .restOver)) := by
  have hlt : ¬ e ≤ c.consumed := Nat.not_le.mpr hlive
  rw [amendEffects, if_neg (fun h => hlt h.2), if_pos ⟨hrest, hbudget⟩]

theorem amendEffects_of_within (hlive : c.state = .writing ∨ c.state = .resting → c.consumed < e)
    (hrest : c.state = .resting → budget ≠ c.restUsed) : amendEffects i c e budget s = s := by
  rw [amendEffects, if_neg (fun h => Nat.not_le.mpr (hlive h.1) h.2), if_neg (fun h => hrest h.1 h.2)]

end AmendEffects

/-- Settles O15, by the state of the candidate amended. -/
theorem candidateAmended : Obligations.CandidateAmended := by
  unfold Obligations.CandidateAmended
  intro tag number allowance rest access i c x s hready hsession hnum1 hnum2 hallow hrest haccess hi hc hx hrun
  have hgate : sessionTakes (.candidateAmend number allowance rest access) s.hall.session = true := by
    obtain h | h := hsession <;> simp [sessionTakes, h]
  have hjudge := fun ha : c.amendable = true =>
    cmdCandidateAmend_of_found hnum1 hnum2 hallow hrest haccess hi hc hx hrun ha
  refine ⟨fun hcase => exec_taken rfl hready ⟨rfl, rfl, rfl⟩ hgate ((hjudge (Cand.amendable_of ?_)).trans ?_),
    fun hcase => exec_taken rfl hready ⟨rfl, rfl, rfl⟩ hgate ((hjudge (Cand.amendable_of ?_)).trans ?_),
    fun hcase => exec_taken rfl hready ⟨rfl, rfl, rfl⟩ hgate ((hjudge (Cand.amendable_of ?_)).trans ?_)⟩
  · tauto
  · rw [amendEffects_of_within]
    · rfl
    · rintro (h | h) <;> simp [h] at hcase
      · exact hcase
      · exact hcase.1
    · intro h
      have hlt : c.restUsed < rest := by simp [h] at hcase; exact hcase.2
      omega
  · tauto
  · rw [amendEffects_of_expired hcase]
    rfl
  · exact .inr (.inr (.inr hcase.1))
  · obtain ⟨hstate, hlive, hbudget⟩ := hcase
    rw [amendEffects_of_rested hlive hstate (Nat.max_eq_right hbudget)]
    rfl

/-! ## The values after reset (R23) -/

/-- The state a POWER reset leaves over an archive's pages. -/
def State.afterPower (m : List Host.Cell) (d : Nat) (l : List Instr) : State :=
  { State.reset with arch := { State.reset.arch with mem := m, disturbances := d }, pending := l }

theorem State.afterPower_powerValues (m : List Host.Cell) (d : Nat) (l : List Instr) :
    (State.afterPower m d l).PowerValues where
  hall := rfl
  session := ⟨rfl, rfl, rfl, rfl⟩
  tables := ⟨rfl, rfl, rfl⟩
  grants := ⟨fun d => by cases d <;> rfl, rfl⟩
  run := ⟨rfl, rfl, rfl, rfl, rfl⟩
  runItems := ⟨rfl, rfl, rfl, rfl, rfl, rfl⟩
  line := ⟨rfl, rfl, rfl, rfl⟩
  lineItems := ⟨rfl, rfl, rfl⟩
  pause := ⟨rfl, rfl, rfl⟩
  custody := rfl
  batch := rfl
  slots := ⟨rfl, fun _ hy => List.eq_of_mem_replicate hy, rfl, rfl, rfl⟩
  queue := ⟨rfl, rfl, rfl, rfl, rfl, rfl⟩
  planes p := by cases p <;> exact ⟨rfl, rfl, rfl, rfl, rfl, rfl, rfl, rfl⟩
  blocks p := by
    cases p <;> exact ⟨List.length_replicate, fun _ hy => List.eq_of_mem_replicate hy⟩
  scan := rfl
  ports p := by
    cases p with
    | desk d => cases d <;> exact ⟨rfl, rfl, rfl, rfl, rfl, rfl, rfl, rfl⟩
    | g => exact ⟨rfl, rfl, rfl, rfl, rfl, rfl, rfl, rfl⟩
    | k => exact ⟨rfl, rfl, rfl, rfl, rfl, rfl, rfl, rfl⟩

/-- With no record in any table, what an invariant asks of a record is asked of none. -/
theorem not_mem_reset :
    (∀ x, x ∉ State.reset.hall.seats) ∧ (∀ x, x ∉ State.reset.hall.sittings) ∧ ∀ c, c ∉ State.reset.hall.cands :=
  ⟨fun _ => List.not_mem_nil, fun _ => List.not_mem_nil, fun _ => List.not_mem_nil⟩

theorem State.reset_occupancyAgrees : State.reset.OccupancyAgrees := by
  obtain ⟨hseats, -, hcands⟩ := not_mem_reset
  exact ⟨fun x hx => absurd hx (hseats x), fun i c n hc => absurd (List.mem_of_getElem? hc) (hcands c),
    fun c hc => absurd hc (hcands c)⟩

theorem State.reset_fieldsBounded : State.reset.FieldsBounded := by
  obtain ⟨hseats, hsittings, -⟩ := not_mem_reset
  exact ⟨fun x hx => absurd hx (hseats x), fun x hx => absurd hx (hseats x), fun x hx => absurd hx (hseats x),
    fun x hx => absurd hx (hsittings x), fun x hx => absurd hx (hsittings x),
    fun p => ((State.afterPower_powerValues [] 0 []).blocks p).1⟩

theorem State.reset_clocksBounded : State.reset.ClocksBounded := by
  obtain ⟨-, hsittings, hcands⟩ := not_mem_reset
  exact ⟨fun c hc => absurd hc (hcands c), fun c hc => absurd hc (hcands c), fun c hc => absurd hc (hcands c),
    fun c hc => absurd hc (hcands c), fun c hc => absurd hc (hcands c), fun x hx => absurd hx (hsittings x),
    fun x hx => absurd hx (hsittings x), fun c hc => absurd hc (hcands c)⟩

theorem State.reset_countsAgree : State.reset.CountsAgree := by
  obtain ⟨-, hsittings, hcands⟩ := not_mem_reset
  exact ⟨fun x hx => absurd hx (hsittings x), fun x hx => absurd hx (hsittings x), fun c hc => absurd hc (hcands c)⟩

/-- Settles O3: every table is empty, so that no invariant asks anything of a record. -/
theorem resetState : Obligations.ResetState := by
  unfold Obligations.ResetState
  exact ⟨State.afterPower_powerValues [] 0 [], rfl, State.reset_bounded, State.reset_countsAgree,
    ⟨.nil, .nil, .nil⟩, ⟨fun c hc => absurd hc (not_mem_reset.2.2 c)⟩, State.reset_occupancyAgrees,
    State.reset_fieldsBounded, State.reset_clocksBounded⟩

end Sys2Proof.Machine
end

section
/-! SUPPORT. Pages of the archive's memory (Chapter 9): what a program or an erase changes, what a page reads
after it, and that a disturbed page is torn. -/

namespace Sys2Proof.Machine

/-! ## Where a page lies (R145) -/

theorem pageAddr_eq (p : PlaneId) (b n : Nat) : pageAddr p b n = planeNo p * 524288 + b * 4096 + n * 128 := by
  simp only [pageAddr, Config.blocksPerPlane, Config.pagesPerBlock, Config.pageSize]
  omega

theorem pageAddr_succ (p : PlaneId) (b n : Nat) : pageAddr p b (n + 1) = pageAddr p b n + 128 := by
  simp only [pageAddr_eq]
  omega

theorem pageAddr_block_succ (p : PlaneId) (b : Nat) : pageAddr p (b + 1) 0 = pageAddr p b 0 + 4096 := by
  simp only [pageAddr_eq]
  omega

/-! ## A change inside an address range -/

/-- A memory changed from `m` to `m'` within an address range alone, in canonical form as before. -/
structure Memory.Within (lo hi : Nat) (m m' : List Host.Cell) : Prop where
  wf : Memory.wf m = true → Memory.wf m' = true
  outside : Memory.wf m = true → ∀ a, a < lo ∨ hi ≤ a → Memory.read m' a = Memory.read m a

theorem Memory.Within.refl (lo hi : Nat) (m : List Host.Cell) : Memory.Within lo hi m m :=
  ⟨id, fun _ _ _ => rfl⟩

theorem Memory.Within.trans {lo hi : Nat} {m m' m'' : List Host.Cell} (h : Memory.Within lo hi m m')
    (h' : Memory.Within lo hi m' m'') : Memory.Within lo hi m m'' :=
  ⟨fun hm => h'.wf (h.wf hm), fun hm a ha => (h'.outside (h.wf hm) a ha).trans (h.outside hm a ha)⟩

/-- The same change seen in a wider range. -/
theorem Memory.Within.mono {lo hi lo' hi' : Nat} {m m' : List Host.Cell} (h : Memory.Within lo hi m m')
    (hlo : lo' ≤ lo) (hhi : hi ≤ hi') : Memory.Within lo' hi' m m' :=
  ⟨h.wf, fun hm a ha => h.outside hm a (by omega)⟩

theorem Memory.Within.foldl {α : Type} {lo hi : Nat} {f : List Host.Cell → α → List Host.Cell} (l : List α)
    (hf : ∀ m, ∀ a ∈ l, Memory.Within lo hi m (f m a)) : ∀ m, Memory.Within lo hi m (l.foldl f m) := by
  induction l with
  | nil => exact fun m => Memory.Within.refl lo hi m
  | cons a l ih =>
    exact fun m => (hf m a (List.mem_cons_self ..)).trans
      (ih (fun m b hb => hf m b (List.mem_cons_of_mem _ hb)) (f m a))

theorem programPage_within {bs : List Byte} {len : Nat} (h : bs.length ≤ len) (p : PlaneId) (b n : Nat)
    (m : List Host.Cell) : Memory.Within (pageAddr p b n) (pageAddr p b n + len) m (programPage m p b n bs) :=
  ⟨fun hm => programPage_wf hm p b n bs, fun hm a ha => Memory.read_writeRun_of_outside bs hm _ a (by omega)⟩

theorem blankPage_within (p : PlaneId) (b n : Nat) (m : List Host.Cell) :
    Memory.Within (pageAddr p b n) (pageAddr p b n + 128) m (blankPage m p b n) := by
  refine ⟨fun hm => blankPage_wf hm p b n, fun _ a ha => ?_⟩
  rw [blankPage, Memory.read_clear, pageAddr_succ, if_neg (by omega)]

theorem eraseBlock_within (p : PlaneId) (b : Nat) (m : List Host.Cell) :
    Memory.Within (pageAddr p b 0) (pageAddr p b 0 + 4096) m (eraseBlock m p b) := by
  refine ⟨fun hm => eraseBlock_wf hm p b, fun _ a ha => ?_⟩
  rw [eraseBlock, Memory.read_clear, pageAddr_block_succ, if_neg (by omega)]

/-! ## Torn pages (R151, R152, R162) -/

theorem tornPage_length (e n : Nat) : (tornPage e n).length = 128 := by
  simp only [tornPage]
  split
  · rw [List.length_map, List.length_range]
    rfl
  · rw [List.length_cons, List.length_replicate]
    rfl

theorem tornPage_torn (e n : Nat) : pageTorn (tornPage e n) = true := by
  simp only [tornPage]
  split
  · assumption
  · rfl

theorem disturbPage_within (p : PlaneId) (b e n : Nat) (m : List Host.Cell) :
    Memory.Within (pageAddr p b n) (pageAddr p b n + 128) m (disturbPage p b e n m) := by
  unfold disturbPage
  split
  · exact Memory.Within.refl ..
  · exact blankPage_within ..
  · exact programPage_within (tornPage_length e n).le ..

/-- A page of a block lies inside it. -/
theorem Memory.Within.block {p : PlaneId} {b n : Nat} (hn : n < 32) {m m' : List Host.Cell}
    (h : Memory.Within (pageAddr p b n) (pageAddr p b n + 128) m m') :
    Memory.Within (pageAddr p b 0) (pageAddr p b 0 + 4096) m m' :=
  h.mono (by simp only [pageAddr_eq]; omega) (by simp only [pageAddr_eq]; omega)

theorem disturbBlock_within (p : PlaneId) (b e : Nat) (m : List Host.Cell) :
    Memory.Within (pageAddr p b 0) (pageAddr p b 0 + 4096) m (disturbBlock p b e m) :=
  Memory.Within.foldl _ (fun m n hn => (disturbPage_within p b e n m).block (List.mem_range.mp hn)) m

theorem cutErase_within (p : PlaneId) (b e : Nat) (m : List Host.Cell) :
    Memory.Within (pageAddr p b 0) (pageAddr p b 0 + 4096) m (cutErase p b e m) := by
  simp only [cutErase]
  split
  · exact disturbBlock_within ..
  · exact (disturbBlock_within ..).trans ((programPage_within (tornPage_length e 0).le p b 0 _).block (by omega))

/-! ## What a page reads -/

theorem Memory.read_window (m : List Host.Cell) (lo hi a : Nat) (hlo : lo ≤ a) (hhi : a < hi) :
    Memory.read (Memory.window m lo hi) a = Memory.read m a := by
  have hfind : (Memory.window m lo hi).find? (fun c => c.1 == a) = m.find? (fun c => c.1 == a) := by
    rw [Memory.window, List.find?_filter]
    congr 1
    funext c
    by_cases hc : c.1 = a
    · simp [hc, hlo, hhi]
    · simp [hc]
  rw [Memory.read, hfind, Memory.read]

theorem readPage_eq (m : List Host.Cell) (p : PlaneId) (b n : Nat) :
    readPage m p b n = (List.range 128).map (fun i => Memory.read m (pageAddr p b n + i)) := by
  simp only [readPage, Memory.readRun, Config.pageSize]
  refine List.map_congr_left fun i hi => Memory.read_window _ _ _ _ (by omega) ?_
  have := List.mem_range.mp hi
  omega

/-- A page outside the range changed reads as before. -/
theorem readPage_of_within {lo hi : Nat} {m m' : List Host.Cell} (h : Memory.Within lo hi m m')
    (hm : Memory.wf m = true) {p : PlaneId} {b n : Nat}
    (hout : pageAddr p b n + 128 ≤ lo ∨ hi ≤ pageAddr p b n) : readPage m' p b n = readPage m p b n := by
  rw [readPage_eq, readPage_eq]
  refine List.map_congr_left fun i hi => h.outside hm _ ?_
  have := List.mem_range.mp hi
  omega

/-- A page programmed with a whole page of bytes reads those bytes. -/
theorem readPage_programPage {m : List Host.Cell} (hm : Memory.wf m = true) (p : PlaneId) (b n : Nat) {bs : List Byte}
    (hlen : bs.length = 128) : readPage (programPage m p b n bs) p b n = bs := by
  rw [readPage_eq]
  refine List.ext_getElem (by simp [hlen]) fun i _ hi => ?_
  simpa [programPage] using Memory.read_writeRun_of_inside bs hm (pageAddr p b n) i hi

theorem readPage_tornPage {m : List Host.Cell} (hm : Memory.wf m = true) (p : PlaneId) (b n e k : Nat) :
    pageTorn (readPage (programPage m p b n (tornPage e k)) p b n) = true := by
  rw [readPage_programPage hm p b n (tornPage_length e k)]
  exact tornPage_torn e k

/-- A block whose erase was cut off has a torn record page. -/
theorem cutErase_torn {m : List Host.Cell} (hm : Memory.wf m = true) (p : PlaneId) (b e : Nat) :
    ∃ n, n < 31 ∧ pageTorn (readPage (cutErase p b e m) p b n) = true := by
  simp only [cutErase]
  split
  · next h =>
    obtain ⟨n, hn, htorn⟩ := List.any_eq_true.mp h
    exact ⟨n, List.mem_range.mp hn, htorn⟩
  · exact ⟨0, by omega, readPage_tornPage (disturbBlock_wf hm p b e) p b 0 e 0⟩

end Sys2Proof.Machine
end

section
/-! SUPPORT. POWER_RESET (R23, R162): what it makes of the archive's pages. -/

namespace Sys2Proof.Machine

/-! ## What is cut off (R162) -/

/-- The page a running program writes. -/
def Run.programs (r : Run) (b n : Nat) : Prop := r = .record b n ∨ (r = .tail b ∧ n = 31)

/-- The block a begun erase erases. -/
def Plane.erases (pl : Plane) (b : Nat) : Prop := pl.eraseBegun = true ∧ pl.findBlock .erasing = some b

theorem Run.programs_unique {r : Run} {b n b' n' : Nat} (h : r.programs b n) (h' : r.programs b' n') :
    b = b' ∧ n = n' := by
  obtain rfl | ⟨rfl, rfl⟩ := h <;> obtain h' | ⟨h', rfl⟩ := h' <;> cases h' <;> exact ⟨rfl, rfl⟩

theorem Plane.erases_unique {pl : Plane} {b b' : Nat} (h : pl.erases b) (h' : pl.erases b') : b = b' :=
  Option.some.inj (h.2.symm.trans h'.2)

/-- The memory after a program is cut off: its page torn, or as it was where none ran. -/
theorem cutProgram_cases (p : PlaneId) (e : Nat) (r : Run) (m : List Host.Cell) :
    (∃ b n, r.programs b n ∧ cutProgram p e r m = programPage m p b n (tornPage e n))
    ∨ ((∀ b n, ¬ r.programs b n) ∧ cutProgram p e r m = m) := by
  cases r with
  | record b n => exact .inl ⟨b, n, .inl rfl, rfl⟩
  | tail b => exact .inl ⟨b, 31, .inr ⟨rfl, rfl⟩, rfl⟩
  | none => exact .inr ⟨fun b n h => by simp [Run.programs] at h, rfl⟩
  | tailDue b => exact .inr ⟨fun b n h => by simp [Run.programs] at h, rfl⟩

/-- The memory after an erase is cut off: its block disturbed, or as it was where none had begun. -/
theorem cutErasing_cases (p : PlaneId) (e : Nat) (pl : Plane) (m : List Host.Cell) :
    (∃ b, pl.erases b ∧ cutErasing p e pl m = cutErase p b e m)
    ∨ ((∀ b, ¬ pl.erases b) ∧ cutErasing p e pl m = m) := by
  unfold cutErasing
  split
  · next b hbegun hb => exact .inl ⟨b, ⟨hbegun, hb⟩, rfl⟩
  · next hnot => exact .inr ⟨fun b hb => hnot b hb.1 hb.2, rfl⟩

section Read
variable {m : List Host.Cell} (hm : Memory.wf m = true) (p : PlaneId) (e a : Nat)
include hm

theorem read_cutProgram {r : Run}
    (ha : ∀ b n, r.programs b n → a < pageAddr p b n ∨ pageAddr p b (n + 1) ≤ a) :
    Memory.read (cutProgram p e r m) a = Memory.read m a := by
  obtain ⟨b, n, hprog, heq⟩ | ⟨-, heq⟩ := cutProgram_cases p e r m
  · rw [heq]
    refine (programPage_within (tornPage_length e n).le p b n m).outside hm a ?_
    rw [← pageAddr_succ]
    exact ha b n hprog
  · rw [heq]

theorem read_cutErasing {pl : Plane} (ha : ∀ b, pl.erases b → a < pageAddr p b 0 ∨ pageAddr p (b + 1) 0 ≤ a) :
    Memory.read (cutErasing p e pl m) a = Memory.read m a := by
  obtain ⟨b, hb, heq⟩ | ⟨-, heq⟩ := cutErasing_cases p e pl m
  · rw [heq]
    refine (cutErase_within p b e m).outside hm a ?_
    rw [← pageAddr_block_succ]
    exact ha b hb
  · rw [heq]

end Read

/-! ## Pages of the other plane -/

theorem cutProgram_within_p1 (e : Nat) (r : Run) (m : List Host.Cell) :
    ∃ hi, Memory.Within 524288 hi m (cutProgram .p1 e r m) := by
  obtain ⟨b, n, -, heq⟩ | ⟨-, heq⟩ := cutProgram_cases .p1 e r m <;> rw [heq]
  · refine ⟨_, (programPage_within (tornPage_length e n).le .p1 b n m).mono ?_ le_rfl⟩
    simp only [pageAddr_eq, planeNo]
    omega
  · exact ⟨0, Memory.Within.refl ..⟩

theorem cutErasing_within_p1 (e : Nat) (pl : Plane) (m : List Host.Cell) :
    ∃ hi, Memory.Within 524288 hi m (cutErasing .p1 e pl m) := by
  obtain ⟨b, -, heq⟩ | ⟨-, heq⟩ := cutErasing_cases .p1 e pl m <;> rw [heq]
  · refine ⟨_, (cutErase_within .p1 b e m).mono ?_ le_rfl⟩
    simp only [pageAddr_eq, planeNo]
    omega
  · exact ⟨0, Memory.Within.refl ..⟩

theorem Plane.lt_of_findBlock {pl : Plane} {st : BlockState} {b : Nat} (h : pl.findBlock st = some b) :
    b < pl.blocks.length :=
  (List.findIdx?_eq_some_iff_getElem.mp h).1

theorem cutErasing_within_p0 (e : Nat) {pl : Plane} (hlen : pl.blocks.length = 128) (m : List Host.Cell) :
    Memory.Within 0 524288 m (cutErasing .p0 e pl m) := by
  obtain ⟨b, hb, heq⟩ | ⟨-, heq⟩ := cutErasing_cases .p0 e pl m <;> rw [heq]
  · have hlt := Plane.lt_of_findBlock hb.2
    refine (cutErase_within .p0 b e m).mono (Nat.zero_le _) ?_
    simp only [pageAddr_eq, planeNo]
    omega
  · exact Memory.Within.refl ..

/-- A page of plane 0 reads as before a change of plane 1. -/
theorem readPage_p0_of_p1 {hi : Nat} {m m' : List Host.Cell} (h : Memory.Within 524288 hi m m')
    (hm : Memory.wf m = true) {b n : Nat} (hb : b < 128) (hn : n < 32) :
    readPage m' .p0 b n = readPage m .p0 b n := by
  refine readPage_of_within h hm (.inl ?_)
  simp only [pageAddr_eq, planeNo]
  omega

/-- A page of plane 1 reads as before a change of plane 0. -/
theorem readPage_p1_of_p0 {m m' : List Host.Cell} (h : Memory.Within 0 524288 m m') (hm : Memory.wf m = true)
    (b n : Nat) : readPage m' .p1 b n = readPage m .p1 b n := by
  refine readPage_of_within h hm (.inr ?_)
  simp only [pageAddr_eq, planeNo]
  omega

/-! ## The pages after POWER_RESET -/

/-- The program in a plane is cut off: its page is torn. -/
theorem cutProgram_torn {m : List Host.Cell} (hm : Memory.wf m = true) (p : PlaneId) (e : Nat) {r : Run} {b n : Nat}
    (h : r.programs b n) : pageTorn (readPage (cutProgram p e r m) p b n) = true := by
  obtain ⟨b', n', hprog, heq⟩ | ⟨hnone, -⟩ := cutProgram_cases p e r m
  · obtain ⟨rfl, rfl⟩ := Run.programs_unique h hprog
    rw [heq]
    exact readPage_tornPage hm p b n e n
  · exact absurd h (hnone b n)

theorem cutErasing_torn {m : List Host.Cell} (hm : Memory.wf m = true) (p : PlaneId) (e : Nat) {pl : Plane} {b : Nat}
    (h : pl.erases b) : ∃ n, n < 31 ∧ pageTorn (readPage (cutErasing p e pl m) p b n) = true := by
  obtain ⟨b', hb', heq⟩ | ⟨hnone, -⟩ := cutErasing_cases p e pl m
  · obtain rfl := Plane.erases_unique h hb'
    rw [heq]
    exact cutErase_torn hm p b e
  · exact absurd h (hnone b)

theorem cutErasing_of_idle (p : PlaneId) (e : Nat) {pl : Plane} (m : List Host.Cell) (h : pl.eraseBegun = false) :
    cutErasing p e pl m = m := by
  simp only [cutErasing, h]

section PowerPages
variable (a : Archive)

theorem Archive.powerReset_mem :
    a.powerReset.mem = cutErasing .p1 (a.disturbances + 3) (a.plane .p1) (cutErasing .p0 (a.disturbances + 2) (a.plane .p0)
      (cutProgram .p1 (a.disturbances + 1) (a.plane .p1).run (cutProgram .p0 a.disturbances (a.plane .p0).run a.mem))) := rfl

/-- With nothing cut off, the pages stay. -/
theorem Archive.powerReset_mem_of_none (hprog : ∀ p b n, ¬ (a.plane p).run.programs b n)
    (herase : ∀ p b, ¬ (a.plane p).erases b) : a.powerReset.mem = a.mem := by
  have hp : ∀ p e m, cutProgram p e (a.plane p).run m = m := by
    intro p e m
    obtain ⟨b, n, h, -⟩ | ⟨-, h⟩ := cutProgram_cases p e (a.plane p).run m
    · exact absurd h (hprog p b n)
    · exact h
  have he : ∀ p e m, cutErasing p e (a.plane p) m = m := by
    intro p e m
    obtain ⟨b, h, -⟩ | ⟨-, h⟩ := cutErasing_cases p e (a.plane p) m
    · exact absurd h (herase p b)
    · exact h
  exact (he .p1 _ _).trans ((he .p0 _ _).trans ((hp .p1 _ _).trans (hp .p0 _ _)))

variable {a} (hm : Memory.wf a.mem = true)
include hm

/-- No byte changes outside what was cut off. -/
theorem Archive.read_powerReset {x : Nat}
    (hprog : ∀ p b n, (a.plane p).run.programs b n → x < pageAddr p b n ∨ pageAddr p b (n + 1) ≤ x)
    (herase : ∀ p b, (a.plane p).erases b → x < pageAddr p b 0 ∨ pageAddr p (b + 1) 0 ≤ x) :
    Memory.read a.powerReset.mem x = Memory.read a.mem x := by
  have h1 := cutProgram_wf hm .p0 a.disturbances (a.plane .p0).run
  have h2 := cutProgram_wf h1 .p1 (a.disturbances + 1) (a.plane .p1).run
  have h3 := cutErasing_wf h2 .p0 (a.disturbances + 2) (a.plane .p0)
  rw [Archive.powerReset_mem, read_cutErasing h3 .p1 _ _ (herase .p1), read_cutErasing h2 .p0 _ _ (herase .p0),
    read_cutProgram h1 .p1 _ _ (hprog .p1), read_cutProgram hm .p0 _ _ (hprog .p0)]

variable (hlen : ∀ p, (a.plane p).blocks.length = 128)
include hlen

theorem Archive.powerReset_program_torn {p : PlaneId} {b n : Nat} (h : (a.plane p).run.programs b n) (hb : b < 128)
    (hn : n < 32) (hidle : (a.plane p).eraseBegun = false) : pageTorn (readPage a.powerReset.mem p b n) = true := by
  have h1 := cutProgram_wf hm .p0 a.disturbances (a.plane .p0).run
  have h2 := cutProgram_wf h1 .p1 (a.disturbances + 1) (a.plane .p1).run
  rw [Archive.powerReset_mem]
  cases p with
  | p0 =>
    obtain ⟨_, hprog⟩ := cutProgram_within_p1 (a.disturbances + 1) (a.plane .p1).run (cutProgram .p0 a.disturbances (a.plane .p0).run a.mem)
    obtain ⟨_, herase⟩ := cutErasing_within_p1 (a.disturbances + 3) (a.plane .p1)
      (cutProgram .p1 (a.disturbances + 1) (a.plane .p1).run (cutProgram .p0 a.disturbances (a.plane .p0).run a.mem))
    rw [cutErasing_of_idle .p0 _ _ hidle, readPage_p0_of_p1 herase h2 hb hn, readPage_p0_of_p1 hprog h1 hb hn]
    exact cutProgram_torn hm .p0 _ h
  | p1 =>
    rw [cutErasing_of_idle .p1 _ _ hidle, readPage_p1_of_p0 (cutErasing_within_p0 _ (hlen .p0) _) h2]
    exact cutProgram_torn h1 .p1 _ h

theorem Archive.powerReset_erase_torn {p : PlaneId} {b : Nat} (h : (a.plane p).erases b) :
    ∃ n, n < 31 ∧ pageTorn (readPage a.powerReset.mem p b n) = true := by
  have h1 := cutProgram_wf hm .p0 a.disturbances (a.plane .p0).run
  have h2 := cutProgram_wf h1 .p1 (a.disturbances + 1) (a.plane .p1).run
  have h3 := cutErasing_wf h2 .p0 (a.disturbances + 2) (a.plane .p0)
  rw [Archive.powerReset_mem]
  cases p with
  | p0 =>
    obtain ⟨n, hn, htorn⟩ := cutErasing_torn h2 .p0 (a.disturbances + 2) h
    obtain ⟨_, herase⟩ := cutErasing_within_p1 (a.disturbances + 3) (a.plane .p1) (cutErasing .p0 (a.disturbances + 2) (a.plane .p0)
      (cutProgram .p1 (a.disturbances + 1) (a.plane .p1).run (cutProgram .p0 a.disturbances (a.plane .p0).run a.mem)))
    have hb : b < 128 := by rw [← hlen .p0]; exact Plane.lt_of_findBlock h.2
    refine ⟨n, hn, ?_⟩
    rw [readPage_p0_of_p1 herase h3 hb (by omega)]
    exact htorn
  | p1 => exact cutErasing_torn h3 .p1 _ h

end PowerPages

/-- Settles O4: the state is the one after reset over the pages that the four cuts leave. -/
theorem powerReset : Obligations.PowerReset := by
  unfold Obligations.PowerReset
  intro s
  refine ⟨s.arch.powerReset.mem, s.arch.disturbances + 4, rfl, State.afterPower_powerValues _ _ _,
    s.arch.powerReset_mem_of_none, fun hm => ⟨fun a hprog herase => Archive.read_powerReset hm hprog herase,
      fun hlen => ⟨fun p b n h hb hn hidle => Archive.powerReset_program_torn hm hlen h hb hn hidle,
        fun p b h => Archive.powerReset_erase_torn hm hlen h⟩⟩⟩

end Sys2Proof.Machine
end

section
/-! SUPPORT. The planes (Chapter 9): blocks found and counted after a table entry changes, and what the
pipeline of a plane takes in an event. -/

namespace Sys2Proof.Machine

/-! ## Lists changed at one place -/

theorem List.modify_eq_set_of_getElem? {α : Type} {l : List α} {i : Nat} {a : α} (h : l[i]? = some a) (f : α → α) :
    l.modify i f = l.set i (f a) := by
  rw [List.modify_eq_set_getElem?, h]
  rfl

/-- A test that a place passes before and after its change is passed by the same places. -/
theorem List.map_modify_of_same {α β : Type} {l : List α} {i : Nat} {f : α → α} {q : α → β}
    (h : ∀ x, l[i]? = some x → q (f x) = q x) : (l.modify i f).map q = l.map q := by
  refine List.ext_getElem? fun j => ?_
  rw [List.getElem?_map, List.getElem?_map, List.getElem?_modify]
  split
  · next hij =>
    subst hij
    cases hx : l[i]? with
    | none => rfl
    | some x => simp [h x hx]
  · simp

theorem List.findIdx?_modify_of_same {α : Type} {l : List α} {i : Nat} {f : α → α} {q : α → Bool}
    (h : ∀ x, l[i]? = some x → q (f x) = q x) : (l.modify i f).findIdx? q = l.findIdx? q := by
  have hq : ∀ l : List α, l.findIdx? q = (l.map q).findIdx? id := fun l => by rw [List.findIdx?_map]; rfl
  rw [hq, hq, List.map_modify_of_same h]

theorem List.countP_modify_of_same {α : Type} {l : List α} {i : Nat} {f : α → α} {q : α → Bool}
    (h : ∀ x, l[i]? = some x → q (f x) = q x) : (l.modify i f).countP q = l.countP q := by
  have hq : ∀ l : List α, l.countP q = (l.map q).countP id := fun l => by rw [List.countP_map]; rfl
  rw [hq, hq, List.map_modify_of_same h]

/-! ## Blocks found (R145) -/

section Blocks
variable (pl : Plane)

theorem Plane.countBlocks_eq (st : BlockState) :
    pl.countBlocks st = pl.blocks.countP (fun x => decide (x.state = st)) :=
  List.countP_eq_length_filter.symm

theorem Plane.mapBlock_blocks (b : Nat) (f : Block → Block) : (pl.mapBlock b f).blocks = pl.blocks.modify b f := rfl

variable {pl}

/-- The block found is in the state sought. -/
theorem Plane.state_of_findBlock {st : BlockState} {b : Nat} (h : pl.findBlock st = some b) :
    ∃ x, pl.blocks[b]? = some x ∧ x.state = st := by
  obtain ⟨hlt, hst, -⟩ := List.findIdx?_eq_some_iff_getElem.mp h
  exact ⟨_, List.getElem?_eq_getElem hlt, by simpa using hst⟩

/-- With no block in a state, the table entry brought into it is the one found. -/
theorem findIdx?_modify_of_none {α : Type} {l : List α} {i : Nat} {f : α → α} {q : α → Bool}
    (hnone : l.findIdx? q = none) (hi : i < l.length) (hf : ∀ x, q (f x) = true) : (l.modify i f).findIdx? q = some i := by
  rw [List.findIdx?_eq_some_iff_getElem]
  refine ⟨by rwa [List.length_modify], ?_, fun j hj => ?_⟩
  · rw [List.getElem_modify_eq]
    exact hf _
  · rw [List.getElem_modify, if_neg (by omega)]
    simp [List.findIdx?_eq_none_iff.mp hnone _ (List.getElem_mem _)]

end Blocks

/-! ## The buffers of a plane (R149) -/

section Buffers
variable {a : Archive} {p : PlaneId} {r : ArchRecord}

theorem Archive.fillStaging_of_some (h : (a.plane p).staging = some r) : a.fillStaging p = a := by
  simp only [Archive.fillStaging, h]

theorem Archive.fillStaging_of_none (h : (a.plane p).staging = none) :
    a.fillStaging p = a.setPlane p { a.plane p with staging := a.nextToStage p } := by
  simp only [Archive.fillStaging, h]

theorem Archive.fillProgram_of_held (h : (a.plane p).progBuf = some r) : a.fillProgram p = a := by
  simp only [Archive.fillProgram, h]

theorem Archive.fillProgram_of_staged (hp : (a.plane p).progBuf = none) (hs : (a.plane p).staging = some r) :
    a.fillProgram p = (a.setPlane p { a.plane p with progBuf := some r, staging := none }).fillStaging p := by
  simp only [Archive.fillProgram, hp, hs]

theorem Archive.startProgram_of_ready {b : Nat} {x : Block} (hrun : (a.plane p).run = .none)
    (hp : (a.plane p).progBuf = some r) (hb : (a.plane p).findBlock .opened = some b)
    (hx : (a.plane p).blocks[b]? = some x) (he : (a.plane p).findBlock .erasing = none) :
    a.startProgram p = a.setPlane p { a.plane p with run := .record b x.used } := by
  simp only [Archive.startProgram, hrun, hp, hb, he, hx, Option.map_some, Option.getD_some]

theorem Archive.startProgram_of_unready (h : (a.plane p).run ≠ .none ∨ (a.plane p).findBlock .opened = none
    ∨ ((a.plane p).findBlock .erasing).isSome = true) : a.startProgram p = a := by
  simp only [Archive.startProgram]
  split
  · next hrun _ hb he => simp [hrun, hb, he] at h
  · rfl

theorem Archive.startProgram_buffers :
    ((a.startProgram p).plane p).staging = (a.plane p).staging
      ∧ ((a.startProgram p).plane p).progBuf = (a.plane p).progBuf := by
  simp only [Archive.startProgram]
  split
  · rw [Archive.plane_setPlane]
    exact ⟨rfl, rfl⟩
  · exact ⟨rfl, rfl⟩

/-- A full program buffer stays as it is, and a full staging buffer with it. -/
theorem Archive.pump_held (h : (a.plane p).progBuf = some r) :
    ((a.pump p).plane p).progBuf = some r
      ∧ ∀ q, (a.plane p).staging = some q → ((a.pump p).plane p).staging = some q := by
  have hfill : ((a.fillStaging p).plane p).progBuf = some r
      ∧ ∀ q, (a.plane p).staging = some q → ((a.fillStaging p).plane p).staging = some q := by
    cases hs : (a.plane p).staging with
    | none => rw [Archive.fillStaging_of_none hs, Archive.plane_setPlane]; exact ⟨h, by simp⟩
    | some q => rw [Archive.fillStaging_of_some hs, hs]; exact ⟨h, fun _ => id⟩
  obtain ⟨hstaging, hprog⟩ := Archive.startProgram_buffers (a := a.fillStaging p) (p := p)
  rw [Archive.pump, Archive.fillProgram_of_held hfill.1, hstaging, hprog]
  exact hfill

/-- The staged record moves into an empty program buffer. -/
theorem Archive.pump_staged (hp : (a.plane p).progBuf = none) (hs : (a.plane p).staging = some r) :
    ((a.pump p).plane p).progBuf = some r := by
  obtain ⟨-, hprog⟩ := Archive.startProgram_buffers (a := (a.fillStaging p).fillProgram p) (p := p)
  rw [Archive.pump, hprog, Archive.fillStaging_of_some hs, Archive.fillProgram_of_staged hp hs,
    Archive.fillStaging_of_none (by rw [Archive.plane_setPlane]), Archive.plane_setPlane, Archive.plane_setPlane]

/-- With both buffers empty, the oldest record bound for the plane goes to the program buffer, and the oldest of
another number to staging. -/
theorem Archive.pump_empty (hp : (a.plane p).progBuf = none) (hs : (a.plane p).staging = none)
    (hr : a.nextToStage p = some r) :
    let b := a.setPlane p { a.plane p with progBuf := some r, staging := none }
    a.pump p = (b.setPlane p { b.plane p with staging := b.nextToStage p }).startProgram p := by
  intro b
  have hfill : a.fillStaging p = a.setPlane p { a.plane p with staging := some r } := by
    rw [Archive.fillStaging_of_none hs, hr]
  have hprogram : (a.fillStaging p).fillProgram p = b.fillStaging p := by
    rw [hfill, Archive.fillProgram_of_staged (r := r) (by rw [Archive.plane_setPlane]; exact hp)
      (by rw [Archive.plane_setPlane]), Archive.setPlane_setPlane, Archive.plane_setPlane]
  have hstaging : (b.plane p).staging = none := by rw [Archive.plane_setPlane]
  rw [Archive.pump, hprogram, Archive.fillStaging_of_none hstaging]

/-- With nothing to fill, the pipeline only begins a program. -/
theorem Archive.pump_full {q : ArchRecord} (hp : (a.plane p).progBuf = some r) (hs : (a.plane p).staging = some q) :
    a.pump p = a.startProgram p := by
  rw [Archive.pump, Archive.fillStaging_of_some hs, Archive.fillProgram_of_held hp]

end Buffers

/-- A change of a plane's buffers and program alone. -/
structure PipeOnly (old new : Plane) : Prop where
  eq : new = { old with staging := new.staging, progBuf := new.progBuf, run := new.run }

theorem PipeOnly.refl (pl : Plane) : PipeOnly pl pl := ⟨rfl⟩

theorem PipeOnly.trans {x y z : Plane} (h : PipeOnly x y) (g : PipeOnly y z) : PipeOnly x z :=
  ⟨by rw [g.eq, h.eq]⟩

/-- What the pipeline leaves of a plane. -/
theorem PipeOnly.fields {old new : Plane} (h : PipeOnly old new) :
    new.blocks = old.blocks ∧ new.prev = old.prev ∧ new.cur = old.cur ∧ new.stalled = old.stalled
      ∧ new.stallAlertDue = old.stallAlertDue ∧ new.eraseBegun = old.eraseBegun := by
  rw [h.eq]
  exact ⟨rfl, rfl, rfl, rfl, rfl, rfl⟩

theorem PipeOnly.findBlock {old new : Plane} (h : PipeOnly old new) (st : BlockState) :
    new.findBlock st = old.findBlock st := by
  rw [Plane.findBlock, h.fields.1, Plane.findBlock]

theorem PipeOnly.countBlocks {old new : Plane} (h : PipeOnly old new) (st : BlockState) :
    new.countBlocks st = old.countBlocks st := by
  rw [Plane.countBlocks, h.fields.1, Plane.countBlocks]

theorem Archive.fillStaging_pipe (a : Archive) (p : PlaneId) :
    PipeOnly (a.plane p) ((a.fillStaging p).plane p) := by
  unfold Archive.fillStaging
  split
  · exact PipeOnly.refl _
  · rw [Archive.plane_setPlane]; exact ⟨rfl⟩

theorem Archive.fillProgram_pipe (a : Archive) (p : PlaneId) :
    PipeOnly (a.plane p) ((a.fillProgram p).plane p) := by
  unfold Archive.fillProgram
  split
  · next r _ _ =>
    have hset : PipeOnly (a.plane p)
        ((a.setPlane p { a.plane p with progBuf := some r, staging := none }).plane p) := by
      rw [Archive.plane_setPlane]; exact ⟨rfl⟩
    exact hset.trans (Archive.fillStaging_pipe ..)
  · exact PipeOnly.refl _

theorem Archive.startProgram_pipe (a : Archive) (p : PlaneId) :
    PipeOnly (a.plane p) ((a.startProgram p).plane p) := by
  simp only [Archive.startProgram]
  split
  · rw [Archive.plane_setPlane]; exact ⟨rfl⟩
  · exact PipeOnly.refl _

/-- The pipeline changes its plane's buffers and program alone. -/
theorem Archive.pump_pipe (a : Archive) (p : PlaneId) : PipeOnly (a.plane p) ((a.pump p).plane p) :=
  ((a.fillStaging_pipe p).trans (Archive.fillProgram_pipe ..)).trans (Archive.startProgram_pipe ..)

theorem PlaneOnly.plane {p q : PlaneId} {a b : Archive} (h : PlaneOnly p a b) (hq : q ≠ p) : b.plane q = a.plane q := by
  rw [h.eq, Archive.plane_setPlane_of_ne _ _ hq]

/-! ## A record queued (R147, R149, R153) -/

section Queueing
variable (s : State) (kind : RecordKind) (body : List Field) (now : Nat)

/-- The notice a plane left STALLED by the scan owes is sent, and then owed no longer. -/
theorem State.stallAlertAt_eq (p : PlaneId) :
    s.stallAlertAt p now =
      let t := { s with arch := s.arch.setPlane p { s.arch.plane p with stallAlertDue := false } }
      if (s.arch.plane p).stallAlertDue = true ∧ (s.arch.plane p).stalled = true then
        t.notify .g (.archiveAlert (.stalled (planeNo p) ((s.arch.plane p).countBlocks .retired)) now)
      else t := by
  simp only [State.stallAlertAt]
  cases hdue : (s.arch.plane p).stallAlertDue with
  | true => simp
  | false =>
    have hsame : s.arch.setPlane p { s.arch.plane p with stallAlertDue := false } = s.arch := by
      conv_rhs => rw [← s.arch.setPlane_plane p]
      congr 1
      rw [← hdue]
    simp [hsame]

/-- The plane a record is bound for, and its pipeline, after the record has joined the queue. -/
def State.pumped : Archive := (s.queued kind body).pump (planeOf s.arch.seqCounter)

theorem State.queued_plane (p : PlaneId) : (s.queued kind body).plane p = s.arch.plane p := by cases p <;> rfl

/-- Beside the archive and the notices of G nothing changes when a record is queued. -/
theorem State.enqueue_eq :
    let p := planeOf s.arch.seqCounter
    let a := (s.pumped kind body).setPlane p { (s.pumped kind body).plane p with stallAlertDue := false }
    s.enqueue kind body now =
      if (s.arch.plane p).stallAlertDue = true ∧ (s.arch.plane p).stalled = true then
        { s with arch := a }.notify .g (.archiveAlert (.stalled (planeNo p) ((s.arch.plane p).countBlocks .retired)) now)
      else { s with arch := a } := by
  intro p a
  have hpipe : PipeOnly (s.arch.plane p) ((s.pumped kind body).plane p) := by
    rw [← s.queued_plane kind body p]
    exact Archive.pump_pipe ..
  obtain ⟨-, -, -, hstalled, hdue, -⟩ := hpipe.fields
  have heq : s.enqueue kind body now = ({ s with arch := s.pumped kind body } : State).stallAlertAt p now := rfl
  rw [heq, State.stallAlertAt_eq]
  simp only [a, hstalled, hdue, hpipe.countBlocks]

theorem State.enqueue_links : (s.enqueue kind body now).links =
    let p := planeOf s.arch.seqCounter
    if (s.arch.plane p).stallAlertDue = true ∧ (s.arch.plane p).stalled = true then
      s.links.set .g ((s.port .g).notify
        (.archiveAlert (.stalled (planeNo p) ((s.arch.plane p).countBlocks .retired)) now))
    else s.links := by
  rw [State.enqueue_eq]
  dsimp only
  split <;> rfl

theorem State.enqueue_plane :
    (s.enqueue kind body now).arch.plane (planeOf s.arch.seqCounter) =
      { (s.pumped kind body).plane (planeOf s.arch.seqCounter) with stallAlertDue := false } := by
  rw [State.enqueue_eq]
  split <;> exact Archive.plane_setPlane ..

/-- What a queueing leaves of the other blocks. -/
structure SameBesideArchive (s t : State) : Prop where
  hall : t.hall = s.hall
  alloc : t.alloc = s.alloc
  line : t.line = s.line
  clock : t.clock = s.clock
  custody : t.custody = s.custody
  marking : t.marking = s.marking
  pending : t.pending = s.pending

theorem State.enqueue_same : SameBesideArchive s (s.enqueue kind body now) := by
  rw [State.enqueue_eq]
  split <;> exact ⟨rfl, rfl, rfl, rfl, rfl, rfl, rfl⟩

end Queueing

/-! ## The next record a plane takes (R149) -/

section NextToStage
variable {a : Archive} {p : PlaneId} {r : ArchRecord}

/-- The next record to stage, sought among the records bound for the plane. -/
theorem Archive.nextToStage_eq :
    a.nextToStage p = (a.queue.filter (fun q => decide (planeOf q.seq = p))).find? (fun q => !(a.plane p).buffered q) := by
  simp only [Archive.nextToStage, List.find?_filter, Bool.decide_and, Bool.decide_eq_true]

theorem Plane.buffered_of_empty {pl : Plane} (hs : pl.staging = none) (hp : pl.progBuf = none) (q : ArchRecord) :
    pl.buffered q = false := by
  simp [Plane.buffered, hs, hp]

theorem Plane.buffered_of_progBuf {pl : Plane} {g : ArchRecord} (hs : pl.staging = none) (hp : pl.progBuf = some g)
    (q : ArchRecord) : pl.buffered q = (g.seq == q.seq) := by
  simp [Plane.buffered, hs, hp]

/-- A record that joins a queue whose earlier records for the plane stand in its buffers is the next. -/
theorem Archive.nextToStage_append {q : List ArchRecord} (ha : a.queue = q ++ [r]) (hplane : planeOf r.seq = p)
    (hbuf : ∀ x ∈ q, planeOf x.seq = p → (a.plane p).buffered x = true) (hr : (a.plane p).buffered r = false) :
    a.nextToStage p = some r := by
  have hnone : q.find? (fun x => decide (planeOf x.seq = p) && !(a.plane p).buffered x) = none := by
    rw [List.find?_eq_none]
    intro x hx
    by_cases hp : planeOf x.seq = p
    · simp [hp, hbuf x hx hp]
    · simp [hp]
  rw [Archive.nextToStage, ha, List.find?_append, hnone]
  simp [hplane, hr]

/-- No record is next where every record bound for the plane stands in its buffers. -/
theorem Archive.nextToStage_eq_none (hbuf : ∀ x ∈ a.queue, planeOf x.seq = p → (a.plane p).buffered x = true) :
    a.nextToStage p = none := by
  rw [Archive.nextToStage, List.find?_eq_none]
  intro x hx
  by_cases hp : planeOf x.seq = p
  · simp [hp, hbuf x hx hp]
  · simp [hp]

end NextToStage

/-! ## A non-result record offered (R147, R148) -/

section Offered
variable (s : State) (kind : RecordKind) (body : List Field) (now : Nat)

theorem State.offer_of_full (h : 32 ≤ s.arch.queue.length) : s.offer kind body now = s.dropRecord kind now := by
  rw [State.offer, if_neg (fun hroom => by have := s.arch.canTake_iff.mp hroom; omega)]

theorem State.offer_of_room (h : s.arch.queue.length < 32) : s.offer kind body now = s.enqueue kind body now := by
  rw [State.offer, if_pos (s.arch.canTake_iff.mpr h)]

/-- The record queued goes to the program buffer of a plane that holds none. -/
theorem State.pumped_of_empty (hothers : ∀ q ∈ s.arch.queue, planeOf q.seq ≠ planeOf s.arch.seqCounter)
    (hs : (s.arch.plane (planeOf s.arch.seqCounter)).staging = none)
    (hp : (s.arch.plane (planeOf s.arch.seqCounter)).progBuf = none) :
    let p := planeOf s.arch.seqCounter
    let pl : Plane := { s.arch.plane p with progBuf := some (s.newRecord kind body), staging := none }
    s.pumped kind body = ((s.queued kind body).setPlane p pl).startProgram p := by
  intro p pl
  have hplane := s.queued_plane kind body p
  have hnext : (s.queued kind body).nextToStage p = some (s.newRecord kind body) :=
    Archive.nextToStage_append rfl rfl (fun x hx h => absurd h (hothers x hx))
      (by rw [hplane]; exact Plane.buffered_of_empty hs hp _)
  have hpl : ((s.queued kind body).setPlane p pl).plane p = pl := Archive.plane_setPlane ..
  have hempty : ((s.queued kind body).setPlane p pl).nextToStage p = none := by
    refine Archive.nextToStage_eq_none fun x hx hxp => ?_
    have hx : x ∈ s.arch.queue ++ [s.newRecord kind body] := by simpa [State.queued] using hx
    obtain hx | rfl := List.mem_append.mp hx |>.imp_right List.mem_singleton.mp
    · exact absurd hxp (hothers x hx)
    · rw [hpl, Plane.buffered_of_progBuf rfl rfl, beq_self_eq_true]
  have hpump := Archive.pump_empty (a := s.queued kind body) (p := p) (by rw [hplane]; exact hp)
    (by rw [hplane]; exact hs) hnext
  rw [hplane] at hpump
  rw [State.pumped, hpump]
  dsimp only
  rw [show { s.arch.plane p with progBuf := some (s.newRecord kind body), staging := none } = pl from rfl, hempty, hpl,
    show { pl with staging := none } = pl from rfl, Archive.setPlane_setPlane]

/-- The record queued goes to staging where the program buffer holds the only other one of the plane. -/
theorem State.pumped_of_held {g : ArchRecord} (hs : (s.arch.plane (planeOf s.arch.seqCounter)).staging = none)
    (hp : (s.arch.plane (planeOf s.arch.seqCounter)).progBuf = some g) (hlt : g.seq < s.arch.seqCounter)
    (hothers : ∀ q ∈ s.arch.queue, planeOf q.seq = planeOf s.arch.seqCounter → q.seq = g.seq) :
    let new := (s.pumped kind body).plane (planeOf s.arch.seqCounter)
    new.staging = some (s.newRecord kind body) ∧ new.progBuf = some g := by
  intro new
  have hplane := s.queued_plane kind body (planeOf s.arch.seqCounter)
  have hs' : ((s.queued kind body).plane (planeOf s.arch.seqCounter)).staging = none := by rw [hplane]; exact hs
  have hp' : ((s.queued kind body).plane (planeOf s.arch.seqCounter)).progBuf = some g := by rw [hplane]; exact hp
  have hnext : (s.queued kind body).nextToStage (planeOf s.arch.seqCounter) = some (s.newRecord kind body) := by
    refine Archive.nextToStage_append rfl rfl (fun x hx h => ?_) ?_
    · rw [Plane.buffered_of_progBuf hs' hp', hothers x hx h, beq_self_eq_true]
    · have hne : g.seq ≠ s.arch.seqCounter := by omega
      rw [Plane.buffered_of_progBuf hs' hp']
      simpa [State.newRecord] using hne
  have hheld : (((s.queued kind body).fillStaging (planeOf s.arch.seqCounter)).plane
      (planeOf s.arch.seqCounter)).progBuf = some g := by
    rw [Archive.fillStaging_of_none hs', Archive.plane_setPlane]
    exact hp'
  obtain ⟨hstaging, hprog⟩ := Archive.startProgram_buffers
    (a := (s.queued kind body).fillStaging (planeOf s.arch.seqCounter)) (p := planeOf s.arch.seqCounter)
  simp only [new, State.pumped, Archive.pump, Archive.fillProgram_of_held hheld, hstaging, hprog]
  rw [Archive.fillStaging_of_none hs', Archive.plane_setPlane, hnext]
  exact ⟨rfl, hp'⟩

end Offered

/-- Settles O52: a full queue drops the record; else what the queueing does is read off its whole next state. -/
theorem recordsOffered : Obligations.RecordsOffered := by
  unfold Obligations.RecordsOffered
  intro s kind body now
  refine ⟨fun hfull => ?_, fun hroom => ?_⟩
  · intro n
    have hn : min 65535 (s.arch.lost + 1) = n := by simp only [n]; split <;> omega
    rw [State.offer_of_full s kind body now hfull]
    simp only [State.dropRecord, hn]
    rfl
  · intro r p t old new
    have ht : t = s.enqueue kind body now := State.offer_of_room s kind body now hroom
    have hsame := s.enqueue_same kind body now
    have harch := s.enqueue_arch kind body now
    obtain ⟨hmem, hqueue, hseq, hstored, hexported, hlost, -⟩ := harch.fields
    have hlinks := s.enqueue_links kind body now
    have hnew : new = { (s.pumped kind body).plane p with stallAlertDue := false } := by
      simp only [new, ht]
      exact s.enqueue_plane kind body now
    have hpipe : PipeOnly old ((s.pumped kind body).plane p) := by
      have := (s.queued kind body).pump_pipe p
      rwa [s.queued_plane kind body p] at this
    obtain ⟨hblocks, -, -, hstalled, -⟩ := hpipe.fields
    rw [← ht] at hsame harch hmem hqueue hseq hstored hexported hlost hlinks
    refine ⟨hqueue, hseq, hlost, hmem, hstored, hexported, hsame.hall, hsame.marking, hsame.custody, hsame.line,
      hsame.alloc, hsame.clock, hsame.pending, fun q hq => ?_, fun q hq => ?_, by rw [hnew]; exact hblocks,
      by rw [hnew]; exact hstalled, ?_, fun hothers hs hp => ?_, fun g hs hp hlt hothers => ?_⟩
    · exact (harch.plane hq).trans (s.queued_plane kind body q)
    · rw [State.port, hlinks]
      dsimp only
      split
      · exact Links.port_set_of_ne _ _ hq
      · rfl
    · rw [State.port, hlinks]
      dsimp only
      rw [Plane.countBlocks_eq]
      split
      · rw [Links.port_set, if_pos (by assumption)]
        rfl
      · rw [if_neg (by assumption)]
        rfl
    · have hpumped := s.pumped_of_empty kind body hothers hs hp
      have hprogBuf := Archive.startProgram_buffers (p := p)
        (a := (s.queued kind body).setPlane p { old with progBuf := some r, staging := none })
      rw [Archive.plane_setPlane] at hprogBuf
      rw [hnew, hpumped]
      refine ⟨hprogBuf.2, hprogBuf.1, fun b x hrun hb hx he => ?_⟩
      rw [Archive.startProgram_of_ready (b := b) (x := x) (r := r)]
      · exact congrArg Plane.run (Archive.plane_setPlane _ p _)
      · rw [Archive.plane_setPlane]
        exact hrun
      · rw [Archive.plane_setPlane]
        rfl
      · rw [Archive.plane_setPlane]
        exact hb
      · rw [Archive.plane_setPlane]
        exact hx
      · rw [Archive.plane_setPlane]
        exact he
    · rw [hnew]
      exact s.pumped_of_held kind body hs hp hlt hothers

end Sys2Proof.Machine
end

section
/-! SUPPORT. Numbers in bytes (R177): what a run of bytes spells that was written from a number. -/

namespace Sys2Proof

@[simp] theorem length_beBytes (w v : Nat) : (beBytes w v).length = w := by
  induction w with
  | zero => rfl
  | succ w ih => rw [beBytes, List.length_cons, ih]

/-- The bytes of a number, read after those of another. -/
theorem foldl_beBytes (w v n : Nat) :
    (beBytes w v).foldl (fun n b => n * 256 + b.toNat) n = n * 256 ^ w + v % 256 ^ w := by
  induction w generalizing n with
  | zero => simp [beBytes, Nat.mod_one]
  | succ w ih =>
    rw [beBytes, List.foldl_cons, ih, Nat.mod_pow_succ, BitVec.toNat_ofNat]
    ring

/-- A number that fits its bytes is the one they spell. -/
theorem ofBytes_beBytes {w v : Nat} (h : v < 256 ^ w) : ofBytes (beBytes w v) = v := by
  rw [ofBytes, foldl_beBytes, Nat.zero_mul, Nat.zero_add, Nat.mod_eq_of_lt h]

end Sys2Proof
end

section
/-! SUPPORT. The retire mark (R151, R181): a page that begins with it is a valid one. -/

namespace Sys2Proof.Machine

/-- A page programmed with fewer bytes than it has keeps the rest of what it held (log 51). -/
theorem readPage_programPage_prefix {m : List Host.Cell} (hm : Memory.wf m = true) (p : PlaneId) (b n : Nat)
    {bs : List Byte} (hlen : bs.length ≤ 128) :
    readPage (programPage m p b n bs) p b n = bs ++ (readPage m p b n).drop bs.length := by
  rw [readPage_eq, readPage_eq]
  refine List.ext_getElem (by simp; omega) fun i hi _ => ?_
  have hi : i < 128 := by simpa using hi
  by_cases hlt : i < bs.length
  · rw [List.getElem_append_left hlt]
    simpa [programPage] using Memory.read_writeRun_of_inside bs hm (pageAddr p b n) i hlt
  · have hout := Memory.read_writeRun_of_outside bs hm (pageAddr p b n) (pageAddr p b n + i) (.inr (by omega))
    rw [List.getElem_append_right (by omega)]
    simpa [programPage, Nat.add_sub_cancel' (Nat.not_lt.mp hlt)] using hout

/-- The bytes of a retire mark: the failed sequence, the kind FFh, the length 0 and the CRC. -/
theorem retireMark_eq (seq : Nat) :
    retireMark seq = beBytes 4 seq ++ [0xFF, 0x00]
      ++ beBytes 2 (crc16 (beBytes 4 seq ++ [0xFF, 0x00])).toNat := by
  simp [retireMark, pageBytes, fieldBytes, Field.bytes, beBytes]

theorem retireMark_length (seq : Nat) : (retireMark seq).length = 8 := by
  rw [retireMark_eq]
  simp

/-- A page that begins with a number's bytes, the kind FFh and the length 0 is a retire mark when its CRC agrees. -/
theorem retireValid_of_bytes {a b c d e f : Byte} {rest : List Byte}
    (hcrc : ofBytes [e, f] = (crc16 [a, b, c, d, 0xFF, 0x00]).toNat) :
    retireValid ([a, b, c, d, 0xFF, 0x00, e, f] ++ rest) = true := by
  have hblank : pageBlank ([a, b, c, d, 0xFF, 0x00, e, f] ++ rest) = false := by
    rw [pageBlank, List.all_eq_false]
    exact ⟨0x00, by simp, by decide⟩
  have hgood : pageCrcGood ([a, b, c, d, 0xFF, 0x00, e, f] ++ rest) = true := by
    have hbody : pageBody ([a, b, c, d, 0xFF, 0x00, e, f] ++ rest) = [] := rfl
    rw [pageCrcGood, hbody]
    exact beq_iff_eq.mpr hcrc
  rw [retireValid, hblank, hgood]
  rfl

/-- A page that begins with a retire mark is valid and carries its sequence. -/
theorem retireValid_append {seq : Nat} (hseq : seq < 2 ^ 32) (rest : List Byte) :
    retireValid (retireMark seq ++ rest) = true ∧ pageSeq (retireMark seq ++ rest) = seq := by
  rw [retireMark_eq]
  refine ⟨retireValid_of_bytes ?_, ofBytes_beBytes (w := 4) hseq⟩
  exact ofBytes_beBytes (w := 2) (BitVec.isLt _)

end Sys2Proof.Machine
end

section
/-! SUPPORT. Programs and erases that end (Chapter 9): what each leaves of its plane, of the memory and of the
notices of G. -/

namespace Sys2Proof.Machine

/-! ## The planes after changes of the archive's other fields -/

section PlaneOf
variable (a : Archive) (p : PlaneId)

@[simp] theorem Archive.plane_of_mem (m : List Host.Cell) : ({ a with mem := m } : Archive).plane p = a.plane p := by
  cases p <;> rfl

@[simp] theorem Archive.plane_of_disturbances (n : Nat) :
    ({ a with disturbances := n } : Archive).plane p = a.plane p := by
  cases p <;> rfl

@[simp] theorem Archive.plane_of_queue (q : List ArchRecord) (n : Nat) :
    ({ a with lastStored := n, queue := q } : Archive).plane p = a.plane p := by
  cases p <;> rfl

end PlaneOf

/-! ## A block opened, or the plane stalled (R153) -/

section OpenOrStall
variable {s : State} {p : PlaneId}

theorem State.openOrStall_only (s : State) (p : PlaneId) : PlaneOnly p s.arch (s.openOrStall p).arch := by
  simp only [State.openOrStall]
  split <;> exact PlaneOnly.set ..

theorem State.openOrStall_same (s : State) (p : PlaneId) : SameBesideArchive s (s.openOrStall p) := by
  simp only [State.openOrStall]
  split <;> exact ⟨rfl, rfl, rfl, rfl, rfl, rfl, rfl⟩

theorem State.openOrStall_of_erased {e : Nat} (h : (s.arch.plane p).findBlock .erased = some e) :
    ((s.openOrStall p).arch.plane p = { (s.arch.plane p).mapBlock e Block.opened with stalled := false,
                                                                                      stallAlertDue := false })
      ∧ (s.openOrStall p).links = s.links := by
  simp only [State.openOrStall, h]
  exact ⟨by rw [State.mapPlane_arch, Archive.plane_setPlane], rfl⟩

theorem State.openOrStall_of_none (h : (s.arch.plane p).findBlock .erased = none) :
    ((s.openOrStall p).arch.plane p = { s.arch.plane p with stalled := true, stallAlertDue := false })
      ∧ (s.openOrStall p).links = s.links.set .g ((s.port .g).notify
          (.archiveAlert (.stalled (planeNo p) ((s.arch.plane p).countBlocks .retired)) s.hall.time)) := by
  simp only [State.openOrStall, h]
  exact ⟨Archive.plane_setPlane .., rfl⟩

/-- Whether a block opens or the plane stalls, its buffers, its marks and its program stay. -/
theorem State.openOrStall_pipe (s : State) (p : PlaneId) :
    let old := s.arch.plane p
    let new := (s.openOrStall p).arch.plane p
    new.staging = old.staging ∧ new.progBuf = old.progBuf ∧ new.run = old.run ∧ new.prev = old.prev
      ∧ new.cur = old.cur ∧ new.eraseBegun = old.eraseBegun := by
  intro old new
  cases h : (s.arch.plane p).findBlock .erased with
  | none => simp only [new, (State.openOrStall_of_none h).1]; exact ⟨rfl, rfl, rfl, rfl, rfl, rfl⟩
  | some e => simp only [new, (State.openOrStall_of_erased h).1]; exact ⟨rfl, rfl, rfl, rfl, rfl, rfl⟩

end OpenOrStall

/-! ## PROGRAM_START (R149) -/

section ProgramStart
variable {a : Archive} {p : PlaneId} {r r2 : ArchRecord} {rest : List ArchRecord}

/-- With both buffers empty, the two oldest records bound for the plane fill them. -/
theorem Archive.pump_two (hp : (a.plane p).progBuf = none) (hs : (a.plane p).staging = none)
    (hq : a.queue.filter (fun q => decide (planeOf q.seq = p)) = r :: r2 :: rest) (hne : r2.seq ≠ r.seq) :
    ((a.pump p).plane p).progBuf = some r ∧ ((a.pump p).plane p).staging = some r2 := by
  have hnext : a.nextToStage p = some r := by
    rw [Archive.nextToStage_eq, hq, List.find?_cons_of_pos]
    rw [Plane.buffered_of_empty hs hp, Bool.not_false]
  have hnext2 : (a.setPlane p { a.plane p with progBuf := some r, staging := none }).nextToStage p = some r2 := by
    have hqueue : (a.setPlane p { a.plane p with progBuf := some r, staging := none }).queue = a.queue := by
      cases p <;> rfl
    rw [Archive.nextToStage_eq, hqueue, hq, Archive.plane_setPlane, List.find?_cons_of_neg, List.find?_cons_of_pos]
    · rw [Plane.buffered_of_progBuf rfl rfl]
      simpa using hne.symm
    · rw [Plane.buffered_of_progBuf rfl rfl]
      simp
  obtain ⟨hstaging, hprog⟩ := Archive.startProgram_buffers (p := p)
    (a := (a.setPlane p { a.plane p with progBuf := some r, staging := none }).setPlane p
      { a.plane p with progBuf := some r, staging := some r2 })
  have hpump := Archive.pump_empty hp hs hnext
  simp only [hnext2, Archive.plane_setPlane] at hpump
  rw [hpump, hstaging, hprog, Archive.plane_setPlane]
  exact ⟨rfl, rfl⟩

end ProgramStart

/-! ## PROGRAM_PASS (R150) -/

section ProgramPass
variable (s : State) (p : PlaneId) (b page : Nat) (r : ArchRecord)

/-- The state after a program that ends with PASS, before a block opens and the pipeline takes what it can. -/
def State.stored : State :=
  ((s.mapMem (fun m => programPage m p b page r.page)).mapPlane p (fun pl =>
    { (pl.shift .pass).mapBlock b (fun x => x.stored page r.seq) with run := .none, progBuf := none })).mapArch (fun a =>
      { a with lastStored := max a.lastStored r.seq, queue := freeEntry a.queue r.seq })

theorem State.programPass_eq :
    s.programPass p b page r = (if page = 30 then (s.stored p b page r).openOrStall p else s.stored p b page r).pump p :=
  rfl

theorem State.stored_plane :
    (s.stored p b page r).arch.plane p =
      { ((s.arch.plane p).shift .pass).mapBlock b (fun x => x.stored page r.seq) with run := .none, progBuf := none } := by
  simp only [State.stored, State.mapArch_arch, Archive.plane_of_queue, State.mapPlane_arch, Archive.plane_setPlane,
    State.mapMem_arch, Archive.plane_of_mem]

/-- What a program that passed leaves, whatever the block's change of state brings. -/
theorem State.programPass_rest (t : State) (ht : t = s.programPass p b page r) :
    t.arch.queue = s.arch.queue.filter (fun q => q.seq != r.seq) ∧ t.arch.lastStored = max s.arch.lastStored r.seq
      ∧ t.arch.seqCounter = s.arch.seqCounter ∧ t.arch.exported = s.arch.exported ∧ t.hall = s.hall
      ∧ t.marking = s.marking ∧ t.arch.mem = programPage s.arch.mem p b page r.page := by
  subst ht
  rw [State.programPass_eq]
  have hstored : PlaneOnly p (s.stored p b page r).arch
      (if page = 30 then (s.stored p b page r).openOrStall p else s.stored p b page r).arch
      ∧ SameBesideArchive (s.stored p b page r)
          (if page = 30 then (s.stored p b page r).openOrStall p else s.stored p b page r) := by
    split
    · exact ⟨State.openOrStall_only .., State.openOrStall_same ..⟩
    · exact ⟨PlaneOnly.refl .., rfl, rfl, rfl, rfl, rfl, rfl, rfl⟩
  obtain ⟨hmem, hqueue, hseq, hlast, hexported, -⟩ := (hstored.1.trans (Archive.pump_only ..)).fields
  refine ⟨hqueue.trans ?_, hlast.trans ?_, hseq.trans ?_, hexported.trans ?_, hstored.2.hall, hstored.2.marking,
    hmem.trans ?_⟩ <;> cases p <;> rfl

variable {s p b page r} {x : Block}

/-- The table entry of the block after the record is stored (R150). -/
theorem Block.stored_eq (hstate : x.state = .opened) (seq : Nat) :
    x.stored page seq = ⟨if page = 30 then .full else .opened, page + 1, if page = 0 then some seq else x.first,
      some seq, x.failed⟩ := by
  simp only [Block.stored, Config.lastRecordPage, hstate]

/-- Neither an ERASED nor a RETIRED block comes or goes when a record is stored. -/
theorem State.stored_findBlock (hx : (s.arch.plane p).blocks[b]? = some x) (hstate : x.state = .opened) :
    ((s.stored p b page r).arch.plane p).findBlock .erased = (s.arch.plane p).findBlock .erased
      ∧ ((s.stored p b page r).arch.plane p).countBlocks .retired = (s.arch.plane p).countBlocks .retired := by
  rw [State.stored_plane, Plane.countBlocks_eq, Plane.countBlocks_eq]
  refine ⟨List.findIdx?_modify_of_same fun y hy => ?_, List.countP_modify_of_same fun y hy => ?_⟩
  all_goals
    obtain rfl := Option.some.inj (hx.symm.trans hy)
    rw [Block.stored_eq hstate, hstate]
    split <;> rfl

theorem State.stored_blocks (hx : (s.arch.plane p).blocks[b]? = some x) :
    ((s.stored p b page r).arch.plane p).blocks[b]? = some (x.stored page r.seq) := by
  rw [State.stored_plane]
  exact (List.getElem?_modify_eq ..).trans (congrArg _ hx)

/-- A program that passed in a page before the last record page leaves its block OPEN. -/
theorem State.programPass_plane_of_lt (hpage : page ≠ 30) :
    PipeOnly ((s.stored p b page r).arch.plane p) ((s.programPass p b page r).arch.plane p)
      ∧ (s.programPass p b page r).links = s.links := by
  rw [State.programPass_eq, if_neg hpage]
  exact ⟨Archive.pump_pipe .., rfl⟩

/-- A program that passed in the last record page opens a block or stalls the plane. -/
theorem State.programPass_plane_of_last (hpage : page = 30) :
    PipeOnly (((s.stored p b page r).openOrStall p).arch.plane p) ((s.programPass p b page r).arch.plane p)
      ∧ (s.programPass p b page r).links = ((s.stored p b page r).openOrStall p).links := by
  rw [State.programPass_eq, if_pos hpage]
  exact ⟨Archive.pump_pipe .., rfl⟩

/-- The marks move, and the staged record goes to the program buffer. -/
theorem State.programPass_buffers :
    let new := (s.programPass p b page r).arch.plane p
    new.prev = (s.arch.plane p).cur ∧ new.cur = .pass
      ∧ ∀ q, (s.arch.plane p).staging = some q → new.progBuf = some q := by
  have hold := s.stored_plane p b page r
  have hX : let X := if page = 30 then (s.stored p b page r).openOrStall p else s.stored p b page r
      (X.arch.plane p).prev = (s.arch.plane p).cur ∧ (X.arch.plane p).cur = .pass
        ∧ (X.arch.plane p).staging = (s.arch.plane p).staging ∧ (X.arch.plane p).progBuf = none := by
    obtain ⟨hstaging, hprog, -, hprev, hcur, -⟩ := (s.stored p b page r).openOrStall_pipe p
    split <;> dsimp only
    · rw [hstaging, hprog, hprev, hcur, hold]; exact ⟨rfl, rfl, rfl, rfl⟩
    · rw [hold]; exact ⟨rfl, rfl, rfl, rfl⟩
  obtain ⟨hprev, hcur, hstaging, hprog⟩ := hX
  intro new
  obtain ⟨-, hprev', hcur', -⟩ := (Archive.pump_pipe
    (if page = 30 then (s.stored p b page r).openOrStall p else s.stored p b page r).arch p).fields
  exact ⟨hprev'.trans hprev, hcur'.trans hcur,
    fun q hq => Archive.pump_staged hprog (hstaging.trans hq)⟩

end ProgramPass

/-- Settles O53: the pipeline's start case by case, and the stored record by the page it took. -/
theorem programsPass : Obligations.ProgramsPass := by
  unfold Obligations.ProgramsPass
  refine ⟨fun s p r hrun => ⟨fun hp hs => ⟨fun b x hb hx he => ?_, fun hnot => ?_⟩,
    fun r2 rest hp hs hq hne => ?_⟩, fun s p b page r x hmem hrun hbuf hx hstate hpage hlen => ?_⟩
  · obtain ⟨q, hq⟩ := Option.isSome_iff_exists.mp hs
    have hpump := (Archive.pump_full hp hq).trans (Archive.startProgram_of_ready hrun hp hb hx he)
    exact congrArg (fun a => Host.Outcome.next { s with arch := a }) hpump
  · obtain ⟨q, hq⟩ := Option.isSome_iff_exists.mp hs
    have hpump := (Archive.pump_full hp hq).trans (Archive.startProgram_of_unready (.inr hnot))
    exact congrArg (fun a => Host.Outcome.next { s with arch := a }) hpump
  · obtain ⟨hprog, hstaging⟩ := Archive.pump_two hp hs hq hne
    exact ⟨_, rfl, hprog, hstaging, (Archive.pump_only s.arch p).fields.2.1⟩
  · refine ⟨s.programPass p b page r, ?_, ?_⟩
    · have harm : exec (.programPass p) s = execProgramPass p s := rfl
      rw [harm]
      simp only [execProgramPass, hrun, hbuf]
    obtain ⟨hqueue, hlast, hseq, hexported, hhall, hmarking, hnewmem⟩ := s.programPass_rest p b page r _ rfl
    obtain ⟨hprev, hcur, hstaged⟩ := State.programPass_buffers (s := s) (p := p) (b := b) (page := page) (r := r)
    obtain ⟨hfind, hcount⟩ := State.stored_findBlock (page := page) (r := r) hx hstate
    have hblock := State.stored_blocks (page := page) (r := r) hx
    rw [Block.stored_eq hstate] at hblock
    refine ⟨hqueue, hlast, hseq, hexported, hhall, hmarking, hprev, hcur, ?_, fun j v hj => ?_, fun a ha => ?_, hstaged,
      fun hlt => ?_, fun e hpage he => ?_, fun hpage he => ?_⟩
    · by_cases hlast : page = 30
      · obtain ⟨hpipe, -⟩ := State.programPass_plane_of_last (s := s) (p := p) (b := b) (r := r) hlast
        rw [hpipe.fields.1]
        cases he : (s.arch.plane p).findBlock .erased with
        | none => rw [(State.openOrStall_of_none (hfind.trans he)).1]; exact hblock
        | some e =>
          have hne : e ≠ b := by
            rintro rfl
            obtain ⟨y, hy, hyst⟩ := Plane.state_of_findBlock he
            obtain rfl := Option.some.inj (hx.symm.trans hy)
            rw [hstate] at hyst
            cases hyst
          rw [(State.openOrStall_of_erased (hfind.trans he)).1]
          exact (List.getElem?_modify_ne _ _ hne).trans hblock
      · obtain ⟨hpipe, -⟩ := State.programPass_plane_of_lt (s := s) (p := p) (b := b) (r := r) hlast
        rw [hpipe.fields.1]
        exact hblock
    · obtain ⟨hlt, rfl⟩ := List.getElem?_eq_some_iff.mp hj
      rw [hnewmem]
      exact Memory.read_writeRun_of_inside r.page hmem (pageAddr p b page) j hlt
    · rw [hnewmem]
      exact (programPage_within le_rfl p b page _).outside hmem a ha
    · obtain ⟨hpipe, hlinks⟩ := State.programPass_plane_of_lt (s := s) (p := p) (b := b) (r := r) (by omega : page ≠ 30)
      refine ⟨hlinks, hpipe.fields.2.2.2.1.trans ?_⟩
      rw [State.stored_plane]
      rfl
    · obtain ⟨hpipe, hlinks⟩ := State.programPass_plane_of_last (s := s) (p := p) (b := b) (r := r) hpage
      obtain ⟨hplane, hsame⟩ := State.openOrStall_of_erased (hfind.trans he)
      obtain ⟨y, hy, -⟩ := Plane.state_of_findBlock (hfind.trans he)
      refine ⟨hlinks.trans hsame, by rw [hpipe.fields.2.2.2.1, hplane], ?_⟩
      rw [hpipe.fields.1, hplane]
      exact (List.getElem?_modify_eq ..).trans (congrArg (Option.map Block.opened) hy)
    · obtain ⟨hpipe, hlinks⟩ := State.programPass_plane_of_last (s := s) (p := p) (b := b) (r := r) hpage
      obtain ⟨hplane, hset⟩ := State.openOrStall_of_none (hfind.trans he)
      refine ⟨by rw [hpipe.fields.2.2.2.1, hplane], ?_⟩
      rw [State.port, hlinks, hset, Links.port_set, hcount, Plane.countBlocks_eq]
      rfl

end Sys2Proof.Machine
end

section
/-! SUPPORT. Programs that fail, tail programs and erases (R151 to R153, R156). -/

namespace Sys2Proof.Machine

/-! ## PROGRAM_FAIL (R151) -/

section ProgramFail
variable {s : State} {p : PlaneId} {b page : Nat} {r : ArchRecord} {x : Block}

theorem State.programFail_plane (hx : (s.arch.plane p).blocks[b]? = some x) :
    (s.programFail p b page r).arch.plane p =
      { s.arch.plane p with
        prev := (s.arch.plane p).cur, cur := .fail
        blocks := (s.arch.plane p).blocks.set b ⟨.retired, page + 1, x.first, x.highest, some r.seq⟩
        run := if ((s.arch.plane p).findBlock .erasing).isSome = true then .tailDue b else .tail b } := by
  have hset : (s.arch.plane p).blocks.modify b (fun x => x.failedAt page r.seq) =
      (s.arch.plane p).blocks.set b ⟨.retired, page + 1, x.first, x.highest, some r.seq⟩ :=
    List.modify_eq_set_of_getElem? hx _
  rw [← hset]
  cases p <;> rfl

theorem State.programFail_plane_of_ne {q : PlaneId} (hq : q ≠ p) :
    (s.programFail p b page r).arch.plane q = s.arch.plane q := by
  exact (Archive.plane_setPlane_of_ne _ _ hq).trans (by cases q <;> rfl)

theorem State.programFail_rest :
    let t := s.programFail p b page r
    t.arch.queue = s.arch.queue
      ∧ t.links = s.links.set .g ((s.port .g).notify
          (.archiveAlert (.programFail (planeNo p) b page r.seq) s.hall.time))
      ∧ t.arch.mem = programPage s.arch.mem p b page (tornPage s.arch.disturbances page) := by
  cases p <;> exact ⟨rfl, rfl, rfl⟩

end ProgramFail

/-! ## A program begun where the pipeline can begin one (R149) -/

section BeginProgram
variable {a : Archive} {p : PlaneId} {r : ArchRecord}

theorem Archive.fillStaging_run : ((a.fillStaging p).plane p).run = (a.plane p).run := by
  unfold Archive.fillStaging
  split
  · rfl
  · rw [Archive.plane_setPlane]

theorem Archive.fillStaging_progBuf : ((a.fillStaging p).plane p).progBuf = (a.plane p).progBuf := by
  unfold Archive.fillStaging
  split
  · rfl
  · rw [Archive.plane_setPlane]

/-- With a record in the program buffer, an OPEN block and no erase, its program begins. -/
theorem Archive.pump_run_of_ready {b : Nat} {x : Block} (hrun : (a.plane p).run = .none)
    (hp : (a.plane p).progBuf = some r) (hb : (a.plane p).findBlock .opened = some b)
    (hx : (a.plane p).blocks[b]? = some x) (he : (a.plane p).findBlock .erasing = none) :
    ((a.pump p).plane p).run = .record b x.used := by
  have hpipe := a.fillStaging_pipe p
  have hp' : ((a.fillStaging p).plane p).progBuf = some r := Archive.fillStaging_progBuf.trans hp
  rw [Archive.pump, Archive.fillProgram_of_held hp', Archive.startProgram_of_ready
    (Archive.fillStaging_run.trans hrun) hp' ((hpipe.findBlock _).trans hb) (hpipe.fields.1 ▸ hx)
    ((hpipe.findBlock _).trans he), Archive.plane_setPlane]

/-- With no OPEN block, or with a program of the plane under way or waiting, none begins. -/
theorem Archive.pump_run_of_unready (h : (a.plane p).run ≠ .none ∨ (a.plane p).findBlock .opened = none) :
    ((a.pump p).plane p).run = (a.plane p).run := by
  have hrun : (((a.fillStaging p).fillProgram p).plane p).run = (a.plane p).run := by
    unfold Archive.fillProgram
    split
    · rw [Archive.fillStaging_run, Archive.plane_setPlane]
      exact Archive.fillStaging_run
    · exact Archive.fillStaging_run
  have hpipe := (a.fillStaging_pipe p).trans ((a.fillStaging p).fillProgram_pipe p)
  rw [Archive.pump, Archive.startProgram_of_unready, hrun]
  rw [hrun, hpipe.findBlock]
  tauto

end BeginProgram

/-- An ERASED block that opens is the OPEN one, where none was. -/
theorem Plane.findBlock_opened {pl : Plane} {e : Nat} (hopened : pl.findBlock .opened = none)
    (he : pl.findBlock .erased = some e) :
    (pl.mapBlock e Block.opened).findBlock .opened = some e
      ∧ (pl.mapBlock e Block.opened).findBlock .erasing = pl.findBlock .erasing := by
  obtain ⟨y, hy, hstate⟩ := Plane.state_of_findBlock he
  refine ⟨findIdx?_modify_of_none hopened (Plane.lt_of_findBlock he) (fun _ => rfl),
    List.findIdx?_modify_of_same fun z hz => ?_⟩
  obtain rfl := Option.some.inj (hy.symm.trans hz)
  rw [hstate]
  rfl

/-! ## RETIRE_MARK_END (R151 to R153) -/

section RetireEnd
variable {s : State} {p : PlaneId} {b : Nat} {pass : Bool}

/-- The tail page after a tail program: the retire mark, or torn. -/
def tailBytes (s : State) (p : PlaneId) (b : Nat) (pass : Bool) : List Byte :=
  if pass then retireMark ((s.arch.plane p).failedSeq b) else tornPage s.arch.disturbances 31

theorem State.tailProgrammed_rest :
    let t := s.tailProgrammed p b pass
    t.arch.queue = s.arch.queue ∧ t.hall = s.hall ∧ t.arch.plane p = s.arch.plane p
      ∧ t.arch.mem = programPage s.arch.mem p b 31 (tailBytes s p b pass)
      ∧ t.links = (if pass then s.links else s.links.set .g ((s.port .g).notify
          (.archiveAlert (.retireFail (planeNo p) b ((s.arch.plane p).failedSeq b)) s.hall.time))) := by
  cases pass <;> cases p <;> exact ⟨rfl, rfl, rfl, rfl, rfl⟩

/-- The state after a tail program, before a block opens and the pipeline takes what it can. -/
def State.tailEnded (s : State) (p : PlaneId) (b : Nat) (pass : Bool) : State :=
  (s.tailProgrammed p b pass).mapPlane p (fun pl => { pl.shift (if pass then .pass else .fail) with run := .none })

theorem State.retireEnd_eq : s.retireEnd p b pass = ((s.tailEnded p b pass).openOrStall p).pump p := rfl

theorem State.tailEnded_plane :
    (s.tailEnded p b pass).arch.plane p =
      { (s.arch.plane p).shift (if pass then .pass else .fail) with run := .none } := by
  rw [State.tailEnded, State.mapPlane_arch, Archive.plane_setPlane, State.tailProgrammed_rest.2.2.1]

theorem State.retireEnd_rest :
    let t := s.retireEnd p b pass
    t.arch.queue = s.arch.queue ∧ t.arch.mem = programPage s.arch.mem p b 31 (tailBytes s p b pass) := by
  intro t
  obtain ⟨hqueue, -, -, hmem, -⟩ := State.tailProgrammed_rest (s := s) (p := p) (b := b) (pass := pass)
  have hended : PlaneOnly p (s.tailProgrammed p b pass).arch (s.tailEnded p b pass).arch := PlaneOnly.set ..
  obtain ⟨hm, hq, -⟩ := ((hended.trans (State.openOrStall_only ..)).trans (Archive.pump_only ..)).fields
  exact ⟨hq.trans hqueue, hm.trans hmem⟩

/-- The tail page after its program: a valid retire mark, or torn. -/
theorem tailBytes_page {m : List Host.Cell} (hm : Memory.wf m = true) {seq : Nat} {x : Block}
    (hx : (s.arch.plane p).blocks[b]? = some x) (hfailed : x.failed = some seq) (hseq : seq < 2 ^ 32) :
    let page := readPage (programPage m p b 31 (tailBytes s p b pass)) p b 31
    (pass = true → retireValid page = true ∧ pageSeq page = seq) ∧ (pass = false → pageTorn page = true) := by
  have hfailedSeq : (s.arch.plane p).failedSeq b = seq := by simp [Plane.failedSeq, hx, hfailed]
  cases pass with
  | true =>
    refine ⟨fun _ => ?_, nofun⟩
    have hbytes : tailBytes s p b true = retireMark seq := by simp [tailBytes, hfailedSeq]
    rw [hbytes, readPage_programPage_prefix hm p b 31 (by rw [retireMark_length]; omega)]
    exact retireValid_append hseq _
  | false => exact ⟨nofun, fun _ => readPage_tornPage hm p b 31 _ 31⟩

theorem tailBytes_length : (tailBytes s p b pass).length ≤ 128 := by
  unfold tailBytes
  split
  · rw [retireMark_length]; omega
  · rw [tornPage_length]

/-- The marks move and the failed record stays in the program buffer. -/
theorem State.retireEnd_buffers {r : ArchRecord} (hp : (s.arch.plane p).progBuf = some r) :
    let new := (s.retireEnd p b pass).arch.plane p
    new.prev = (s.arch.plane p).cur ∧ new.cur = (if pass then .pass else .fail) ∧ new.progBuf = some r
      ∧ ∀ q, (s.arch.plane p).staging = some q → new.staging = some q := by
  obtain ⟨hstaging, hprog, -, hprev, hcur, -⟩ := (s.tailEnded p b pass).openOrStall_pipe p
  rw [State.tailEnded_plane] at hstaging hprog hprev hcur
  obtain ⟨hheld, hstays⟩ := Archive.pump_held (hprog.trans hp)
  obtain ⟨-, hprev', hcur', -⟩ := (Archive.pump_pipe ((s.tailEnded p b pass).openOrStall p).arch p).fields
  exact ⟨hprev'.trans hprev, hcur'.trans hcur, hheld, fun q hq => hstays q (hstaging.trans hq)⟩

section Reopened
variable {r : ArchRecord} (hp : (s.arch.plane p).progBuf = some r) (hopened : (s.arch.plane p).findBlock .opened = none)
include hp hopened

/-- With an ERASED block, it opens and the failed record is programmed again into its first page. -/
theorem State.retireEnd_of_erased {e : Nat} (herasing : (s.arch.plane p).findBlock .erasing = none)
    (he : (s.arch.plane p).findBlock .erased = some e) :
    let t := s.retireEnd p b pass
    (t.arch.plane p).run = .record e 0
      ∧ (t.arch.plane p).blocks = (s.arch.plane p).blocks.set e ⟨.opened, 0, none, none, none⟩
      ∧ (t.arch.plane p).stalled = false ∧ t.links = (s.tailProgrammed p b pass).links := by
  obtain ⟨y, hy, hstate⟩ := Plane.state_of_findBlock he
  have hended := s.tailEnded_plane (p := p) (b := b) (pass := pass)
  have he' : ((s.tailEnded p b pass).arch.plane p).findBlock .erased = some e := by rw [hended]; exact he
  obtain ⟨hplane, hlinks⟩ := State.openOrStall_of_erased he'
  have hset : ((s.tailEnded p b pass).arch.plane p).blocks.modify e Block.opened =
      (s.arch.plane p).blocks.set e ⟨.opened, 0, none, none, none⟩ := by
    rw [hended]
    exact List.modify_eq_set_of_getElem? hy _
  have hpipe := Archive.pump_pipe ((s.tailEnded p b pass).openOrStall p).arch p
  obtain ⟨hblocks, -, -, hstalled, -⟩ := hpipe.fields
  have hrun : ((s.retireEnd p b pass).arch.plane p).run = .record e 0 := by
    have hopened' : ((s.tailEnded p b pass).arch.plane p).findBlock .opened = none := by rw [hended]; exact hopened
    have herasing' : ((s.tailEnded p b pass).arch.plane p).findBlock .erasing = none := by rw [hended]; exact herasing
    obtain ⟨hfound, hkept⟩ := Plane.findBlock_opened hopened' he'
    refine Archive.pump_run_of_ready (a := ((s.tailEnded p b pass).openOrStall p).arch) (r := r)
      (x := ⟨.opened, 0, none, none, none⟩) ?_ ?_ ?_ ?_ ?_ <;> rw [hplane]
    · rw [hended]; rfl
    · rw [hended]; exact hp
    · exact hfound
    · exact (congrArg (·[e]?) hset).trans (List.getElem?_set_self (Plane.lt_of_findBlock he))
    · exact hkept.trans herasing'
  refine ⟨hrun, hblocks.trans ?_, hstalled.trans ?_, hlinks⟩
  · rw [hplane]; exact hset
  · rw [hplane]

omit hp in
/-- With no ERASED block the plane stalls, and tells G. -/
theorem State.retireEnd_of_none (he : (s.arch.plane p).findBlock .erased = none) :
    let t := s.retireEnd p b pass
    (t.arch.plane p).run = .none ∧ (t.arch.plane p).blocks = (s.arch.plane p).blocks
      ∧ (t.arch.plane p).stalled = true
      ∧ t.links = (s.tailProgrammed p b pass).links.set .g (((s.tailProgrammed p b pass).port .g).notify
          (.archiveAlert (.stalled (planeNo p) ((s.arch.plane p).countBlocks .retired)) s.hall.time)) := by
  have hended := s.tailEnded_plane (p := p) (b := b) (pass := pass)
  have he' : ((s.tailEnded p b pass).arch.plane p).findBlock .erased = none := by rw [hended]; exact he
  have hcount : ((s.tailEnded p b pass).arch.plane p).countBlocks .retired = (s.arch.plane p).countBlocks .retired := by
    rw [hended]; rfl
  have htime : (s.tailEnded p b pass).hall.time = s.hall.time :=
    congrArg Hall.time (State.tailProgrammed_rest (s := s) (p := p) (b := b) (pass := pass)).2.1
  obtain ⟨hplane, hlinks⟩ := State.openOrStall_of_none he'
  rw [hcount, htime] at hlinks
  obtain ⟨hblocks, -, -, hstalled, -⟩ := (Archive.pump_pipe ((s.tailEnded p b pass).openOrStall p).arch p).fields
  refine ⟨(Archive.pump_run_of_unready (a := ((s.tailEnded p b pass).openOrStall p).arch) (.inr ?_)).trans ?_, hblocks.trans ?_, hstalled.trans ?_, hlinks⟩ <;>
    rw [hplane]
  · rw [hended]; exact hopened
  · rw [hended]
  · rw [hended]; rfl

end Reopened

end RetireEnd

/-- Settles O54. -/
theorem programsFail : Obligations.ProgramsFail := by
  unfold Obligations.ProgramsFail
  refine ⟨fun s p b page r x hmem hrun hbuf hx => ?_,
    fun s p b seq pass r x hmem hrun hbuf hopened herasing hx hfailed hseq => ?_⟩
  · obtain ⟨hqueue, hlinks, hnewmem⟩ := State.programFail_rest (s := s) (p := p) (b := b) (page := page) (r := r)
    refine ⟨s.programFail p b page r, ?_, State.programFail_plane hx, fun q hq => State.programFail_plane_of_ne hq, hqueue,
      hlinks, ?_, fun a ha => ?_⟩
    · have harm : exec (.programFail p) s = execProgramFail p s := rfl
      rw [harm]
      simp only [execProgramFail, hrun, hbuf]
    · rw [hnewmem]
      exact readPage_tornPage hmem p b page _ page
    · rw [hnewmem]
      exact (programPage_within (tornPage_length _ _).le p b page _).outside hmem a ha
  · obtain ⟨hprev, hcur, hprog, hstaging⟩ := State.retireEnd_buffers (b := b) (pass := pass) hbuf
    obtain ⟨hqueue, hnewmem⟩ := State.retireEnd_rest (s := s) (p := p) (b := b) (pass := pass)
    obtain ⟨hmark, htorn⟩ := tailBytes_page (pass := pass) hmem hx hfailed hseq
    obtain ⟨-, -, -, -, htold⟩ := State.tailProgrammed_rest (s := s) (p := p) (b := b) (pass := pass)
    have hfailedSeq : (s.arch.plane p).failedSeq b = seq := by simp [Plane.failedSeq, hx, hfailed]
    have hport : (s.tailProgrammed p b pass).port .g = if pass then s.port .g else
        (s.port .g).notify (.archiveAlert (.retireFail (planeNo p) b seq) s.hall.time) := by
      rw [State.port, htold, hfailedSeq]
      split
      · rfl
      · exact Links.port_set ..
    refine ⟨s.retireEnd p b pass, ?_, hprev, hcur, hprog, hstaging, hqueue, ?_, ?_, fun a ha => ?_, fun e he => ?_,
      fun he => ?_⟩
    · have harm : exec (.retireMarkEnd p pass) s = execRetireMarkEnd p pass s := rfl
      rw [harm]
      simp only [execRetireMarkEnd, hrun]
    · rw [hnewmem]; exact hmark
    · rw [hnewmem]; exact htorn
    · rw [hnewmem]
      exact (programPage_within tailBytes_length p b 31 _).outside hmem a ha
    · obtain ⟨hrun', hblocks, hstalled, hlinks⟩ := State.retireEnd_of_erased (b := b) (pass := pass) hbuf hopened herasing he
      exact ⟨hrun', hblocks, hstalled, (congrArg (Links.port · .g) hlinks).trans hport⟩
    · obtain ⟨hrun', hblocks, hstalled, hlinks⟩ := State.retireEnd_of_none (b := b) (pass := pass) hopened he
      refine ⟨hrun', hblocks, hstalled, ?_⟩
      rw [State.port, hlinks, Links.port_set, hport, Plane.countBlocks_eq]

end Sys2Proof.Machine
end

section
/-! SUPPORT. Erases (R153, R156): what their start and their end leave. -/

namespace Sys2Proof.Machine

/-- Every byte of an erased block is blank. -/
theorem read_eraseBlock {n j : Nat} (hn : n < 32) (hj : j < 128) (m : List Host.Cell) (p : PlaneId) (b : Nat) :
    Memory.read (eraseBlock m p b) (pageAddr p b n + j) = 0xFF := by
  rw [eraseBlock, Memory.read_clear, if_pos]
  · rfl
  · simp only [pageAddr_eq]
    omega

/-- When the only block in a state leaves it, none is left. -/
theorem findIdx?_modify_of_count_one {α : Type} {l : List α} {i : Nat} {f : α → α} {q : α → Bool}
    (hi : l.findIdx? q = some i) (hone : l.countP q = 1) (hf : ∀ x, q (f x) = false) : (l.modify i f).findIdx? q = none := by
  obtain ⟨hlt, hq, -⟩ := List.findIdx?_eq_some_iff_getElem.mp hi
  have hcount : (l.modify i f).countP q = 0 := by
    rw [List.modify_eq_set_of_getElem? (List.getElem?_eq_getElem hlt), List.countP_set hlt, hone, if_pos hq, hf]
    rfl
  rw [List.findIdx?_eq_none_iff]
  exact fun x hx => Bool.eq_false_iff.mpr (List.countP_eq_zero.mp hcount x hx)

/-! ## The waiting programs of a plane (R156) -/

section Resume
variable {s : State} {p : PlaneId}

theorem State.resumePrograms_only (s : State) (p : PlaneId) : PlaneOnly p s.arch (s.resumePrograms p).arch :=
  (PlaneOnly.set ..).trans (Archive.pump_only ..)

/-- A program that waits begins, and nothing of the plane but its buffers and program changes. -/
theorem State.resumePrograms_pipe (s : State) (p : PlaneId) :
    PipeOnly (s.arch.plane p) ((s.resumePrograms p).arch.plane p) := by
  refine PipeOnly.trans ?_ (Archive.pump_pipe _ p)
  rw [State.mapPlane_arch, Archive.plane_setPlane]
  exact ⟨rfl⟩

theorem State.resumePrograms_tail {c : Nat} (h : (s.arch.plane p).run = .tailDue c) :
    ((s.resumePrograms p).arch.plane p).run = .tail c := by
  refine (Archive.pump_run_of_unready (.inl ?_)).trans ?_ <;> rw [State.mapPlane_arch, Archive.plane_setPlane] <;>
    simp [h]

theorem State.resumePrograms_record {b : Nat} {x : Block} {r : ArchRecord} (hrun : (s.arch.plane p).run = .none)
    (hp : (s.arch.plane p).progBuf = some r) (hb : (s.arch.plane p).findBlock .opened = some b)
    (hx : (s.arch.plane p).blocks[b]? = some x) (he : (s.arch.plane p).findBlock .erasing = none) :
    ((s.resumePrograms p).arch.plane p).run = .record b x.used := by
  refine Archive.pump_run_of_ready (r := r) ?_ ?_ ?_ ?_ ?_ <;> rw [State.mapPlane_arch, Archive.plane_setPlane]
  · simp [hrun]
  · exact hp
  · exact hb
  · exact hx
  · exact he

end Resume

/-! ## ERASE_END (R153, R156) -/

section EraseEnd
variable {s : State} {p : PlaneId} {b : Nat}

/-- The state after an erase that passed, before a STALLED plane opens a block and the waiting programs begin. -/
def State.erased (s : State) (p : PlaneId) (b : Nat) : State :=
  (s.mapMem (fun m => eraseBlock m p b)).mapPlane p (fun pl =>
    { pl.mapBlock b (fun _ => { state := .erased }) with eraseBegun := false })

/-- The same, the STALLED plane's block opened. -/
def State.erasedOpened (s : State) (p : PlaneId) (b : Nat) : State :=
  if (s.arch.plane p).stalled then (s.erased p b).openOrStall p else s.erased p b

theorem State.erasePass_eq : s.erasePass p b = (s.erasedOpened p b).resumePrograms p := rfl

theorem State.erased_plane :
    (s.erased p b).arch.plane p =
      { (s.arch.plane p).mapBlock b (fun _ => { state := .erased }) with eraseBegun := false } := by
  rw [State.erased, State.mapPlane_arch, Archive.plane_setPlane, State.mapMem_arch, Archive.plane_of_mem]

/-- The erased block is one a STALLED plane can open. -/
theorem State.erased_findBlock (hb : b < (s.arch.plane p).blocks.length) :
    ∃ e, ((s.erased p b).arch.plane p).findBlock .erased = some e
      ∧ ((s.arch.plane p).findBlock .erased = none → e = b) := by
  have hblocks : ((s.erased p b).arch.plane p).blocks =
      (s.arch.plane p).blocks.modify b (fun _ => { state := .erased }) := by
    rw [State.erased_plane]
    rfl
  cases h : ((s.erased p b).arch.plane p).findBlock .erased with
  | none =>
    rw [Plane.findBlock, hblocks, List.findIdx?_eq_none_iff] at h
    have hmem : ({ state := .erased } : Block) ∈ (s.arch.plane p).blocks.modify b (fun _ => { state := .erased }) := by
      refine List.mem_of_getElem? (i := b) ?_
      rw [List.getElem?_modify_eq, List.getElem?_eq_getElem hb]
      rfl
    exact absurd (h _ hmem) (by simp)
  | some e =>
    refine ⟨e, rfl, fun hnone => ?_⟩
    rw [Plane.findBlock, hblocks, findIdx?_modify_of_none hnone hb (fun _ => rfl)] at h
    exact (Option.some.inj h).symm

/-- The plane before the waiting programs begin, with the STALLED plane's block opened. -/
theorem State.erasedOpened_plane (hb : b < (s.arch.plane p).blocks.length) :
    let pl := s.arch.plane p
    let new := (s.erasedOpened p b).arch.plane p
    new.run = pl.run ∧ new.progBuf = pl.progBuf ∧ new.eraseBegun = false ∧ new.stalled = false
      ∧ new.stallAlertDue = (pl.stallAlertDue && !pl.stalled) ∧ (s.erasedOpened p b).links = s.links
      ∧ (pl.stalled = false → new.blocks = pl.blocks.modify b (fun _ => { state := .erased }))
      ∧ (pl.stalled = true → pl.findBlock .erased = none →
        new.blocks = pl.blocks.modify b (fun _ => { state := .opened })) := by
  intro pl new
  have herased := s.erased_plane (p := p) (b := b)
  cases hstalled : (s.arch.plane p).stalled with
  | false =>
    have hopened : s.erasedOpened p b = s.erased p b := by rw [State.erasedOpened, hstalled]; rfl
    have hnew : new = { pl.mapBlock b (fun _ => { state := .erased }) with eraseBegun := false } := by
      simp only [new, hopened, herased, pl]
    rw [hnew, hopened]
    exact ⟨rfl, rfl, rfl, hstalled, by simp [Plane.mapBlock, pl, hstalled], rfl, fun _ => rfl, nofun⟩
  | true =>
    have hopened : s.erasedOpened p b = (s.erased p b).openOrStall p := by rw [State.erasedOpened, hstalled]; rfl
    obtain ⟨e, he, heb⟩ := State.erased_findBlock hb
    obtain ⟨hplane, hlinks⟩ := State.openOrStall_of_erased he
    have hnew : new = { ((s.erased p b).arch.plane p).mapBlock e Block.opened with stalled := false,
                                                                                   stallAlertDue := false } := by
      simp only [new, hopened, hplane]
    rw [hnew, hopened, herased]
    refine ⟨rfl, rfl, rfl, rfl, by simp [pl], hlinks, nofun, fun _ hnone => ?_⟩
    rw [heb hnone]
    change List.modify (List.modify _ _ _) _ _ = _
    rw [List.modify_modify_eq]
    rfl

theorem State.erasePass_rest :
    let t := s.erasePass p b
    t.arch.queue = s.arch.queue ∧ t.arch.mem = eraseBlock s.arch.mem p b := by
  intro t
  have hopened : PlaneOnly p (s.erased p b).arch (s.erasedOpened p b).arch := by
    unfold State.erasedOpened
    split
    · exact State.openOrStall_only ..
    · exact PlaneOnly.refl ..
  obtain ⟨hm, hq, -⟩ := (hopened.trans (State.resumePrograms_only ..)).fields
  refine ⟨hq.trans ?_, hm.trans ?_⟩ <;> cases p <;> rfl

/-- The state after an erase that failed, before the waiting programs begin. -/
def State.eraseFailed (s : State) (p : PlaneId) (b : Nat) : State :=
  (((s.mapMem (fun m => disturbBlock p b s.arch.disturbances m)).disturb).mapPlane p (fun pl =>
    { pl.mapBlock b (fun _ => { state := .retired, used := 31 }) with eraseBegun := false })).notify .g
      (.archiveAlert (.eraseFail (planeNo p) b) s.hall.time)

theorem State.eraseFail_eq : s.eraseFail p b = (s.eraseFailed p b).resumePrograms p := rfl

theorem State.eraseFailed_rest :
    let t := s.eraseFailed p b
    t.arch.plane p = { (s.arch.plane p).mapBlock b (fun _ => { state := .retired, used := 31 }) with eraseBegun := false }
      ∧ t.arch.queue = s.arch.queue ∧ t.arch.mem = disturbBlock p b s.arch.disturbances s.arch.mem
      ∧ t.links = s.links.set .g ((s.port .g).notify (.archiveAlert (.eraseFail (planeNo p) b) s.hall.time)) := by
  cases p <;> exact ⟨rfl, rfl, rfl, rfl⟩

end EraseEnd

/-- Settles O55. -/
theorem erases : Obligations.Erases := by
  unfold Obligations.Erases
  intro s p b hfound hmem
  have hlt := Plane.lt_of_findBlock hfound
  have hend : pageAddr p b 31 + 128 = pageAddr p b 0 + 4096 := by simp only [pageAddr_eq]
  obtain ⟨y, hy, -⟩ := Plane.state_of_findBlock hfound
  have hset : ∀ x, (s.arch.plane p).blocks.modify b (fun _ => x) = (s.arch.plane p).blocks.set b x :=
    fun x => List.modify_eq_set_of_getElem? hy _
  refine ⟨fun hbusy => ?_, fun hquiet => ?_⟩
  · have harm : exec (.eraseStart p) s = execEraseStart p s := rfl
    rw [harm]
    obtain ⟨c, n, h⟩ | ⟨c, h⟩ := hbusy <;> simp only [execEraseStart, hfound, h, Run.quiet]
  · have hq : (s.arch.plane p).run.quiet = true := by obtain h | ⟨c, h⟩ := hquiet <;> simp only [h, Run.quiet]
    have hstart : exec (.eraseStart p) s = execEraseStart p s := rfl
    have hendArm : ∀ pass, exec (.eraseEnd p pass) s =
        .next (if pass then s.erasePass p b else s.eraseFail p b) := by
      intro pass
      have harm : exec (.eraseEnd p pass) s = execEraseEnd p pass s := rfl
      rw [harm]
      simp only [execEraseEnd, hfound, hq]
    refine ⟨by rw [hstart]; simp only [execEraseStart, hfound, hq]; rfl, ⟨s.erasePass p b, hendArm true, ?_⟩,
      ⟨s.eraseFail p b, hendArm false, ?_⟩⟩
    · obtain ⟨hrun, hprog, hbegun, hstalled, hdue, hlinks, hkept, hopened⟩ := State.erasedOpened_plane hlt
      obtain ⟨hqueue, hnewmem⟩ := State.erasePass_rest (s := s) (p := p) (b := b)
      obtain ⟨hblocks, -, -, hstalled', hdue', hbegun'⟩ := ((s.erasedOpened p b).resumePrograms_pipe p).fields
      refine ⟨fun a ha => ?_, fun c hc => State.resumePrograms_tail (hrun.trans hc), fun n j hn hj => ?_,
        hbegun'.trans hbegun, hstalled'.trans hstalled, hlinks, hdue'.trans hdue, hqueue,
        fun h => hblocks.trans ((hkept h).trans (hset _)),
        fun h hnone => ⟨hblocks.trans ((hopened h hnone).trans (hset _)), fun r hnorun hr hnoopen hone => ?_⟩⟩
      · rw [hnewmem]
        exact (eraseBlock_within p b _).outside hmem a (by omega)
      · rw [hnewmem]
        exact read_eraseBlock hn hj _ p b
      · refine State.resumePrograms_record (s := s.erasedOpened p b) (x := ⟨.opened, 0, none, none, none⟩)
          (hrun.trans hnorun) (hprog.trans hr) ?_ ?_ ?_
        · rw [Plane.findBlock, hopened h hnone]
          exact findIdx?_modify_of_none hnoopen hlt (fun _ => rfl)
        · rw [hopened h hnone, List.getElem?_modify_eq, hy]
          rfl
        · rw [Plane.findBlock, hopened h hnone]
          exact findIdx?_modify_of_count_one hfound hone (fun _ => rfl)
    · obtain ⟨hplane, hqueue, hnewmem, hlinks⟩ := State.eraseFailed_rest (s := s) (p := p) (b := b)
      obtain ⟨hm, hq', -⟩ := ((s.eraseFailed p b).resumePrograms_only p).fields
      obtain ⟨hblocks, -, -, hstalled', -, hbegun'⟩ := ((s.eraseFailed p b).resumePrograms_pipe p).fields
      rw [hplane] at hblocks hstalled' hbegun'
      refine ⟨fun a ha => ?_, fun c hc => State.resumePrograms_tail (s := s.eraseFailed p b) ?_, hbegun', hstalled', hq'.trans hqueue,
        hblocks.trans (hset _), hlinks⟩
      · rw [State.eraseFail_eq, hm, hnewmem]
        exact (disturbBlock_within p b _ _).outside hmem a (by omega)
      · rw [hplane]
        exact hc

end Sys2Proof.Machine
end

section
/-! SUPPORT. The power-up scan (R158 to R160): what a block's pages make of its table entry and of the scan, and
what the scan's end makes of a plane. -/

namespace Sys2Proof.Machine

/-! ## Pages by their contents (R145, R181) -/

theorem pageBlank_iff (bs : List Byte) : pageBlank bs = true ↔ ∀ v ∈ bs, v = 0xFF := by
  simp [pageBlank, Memory.blankByte]

theorem pageValid_of_blank {bs : List Byte} (h : pageBlank bs = true) : pageValid bs = false := by
  simp [pageValid, h]

theorem retireValid_of_blank {bs : List Byte} (h : pageBlank bs = true) : retireValid bs = false := by
  simp [retireValid, h]

/-- A valid retire mark has no body, which a valid record has. -/
theorem pageValid_of_retireValid {bs : List Byte} (h : retireValid bs = true) : pageValid bs = false := by
  have hlen : pageLength bs = 0 := by
    simp only [retireValid, Bool.and_eq_true, beq_iff_eq] at h
    exact h.1.2
  simp [pageValid, hlen]

/-- A tail that is neither blank nor a valid retire mark counts as torn, valid record or not. -/
theorem tornTail_eq (tail : List Byte) :
    (if pageBlank tail || retireValid tail then 0 else 1) = if pageTorn tail || pageValid tail then 1 else 0 := by
  cases hb : pageBlank tail with
  | true => simp [pageTorn, hb, pageValid_of_blank hb]
  | false =>
    cases hr : retireValid tail with
    | true => simp [pageTorn, hr, pageValid_of_retireValid hr]
    | false => cases hv : pageValid tail <;> simp [pageTorn, hb, hr, hv]

/-! ## The highest of a run of numbers -/

/-- The highest of a run of numbers, none of an empty one. -/
def highestOf (l : List Nat) : Option Nat := l.foldl (fun h q => some (max (h.getD 0) q)) none

theorem highestOf_append (l : List Nat) (q : Nat) : highestOf (l ++ [q]) = some (max ((highestOf l).getD 0) q) := by
  rw [highestOf, List.foldl_append]
  rfl

/-- What is found is in the run and not below any of it. -/
theorem highestOf_spec (l : List Nat) :
    (∀ h, highestOf l = some h → h ∈ l ∧ ∀ q ∈ l, q ≤ h) ∧ (highestOf l = none → l = []) := by
  induction l using List.reverseRecOn with
  | nil => exact ⟨nofun, fun _ => rfl⟩
  | append_singleton l q ih =>
    obtain ⟨hsome, hnone⟩ := ih
    rw [highestOf_append]
    refine ⟨fun h hh => ?_, nofun⟩
    obtain rfl := Option.some.inj hh
    cases hl : highestOf l with
    | none =>
      obtain rfl := hnone hl
      simp
    | some m =>
      obtain ⟨hm, hle⟩ := hsome m hl
      simp only [Option.getD_some, List.mem_append, List.mem_singleton]
      refine ⟨?_, ?_⟩
      · by_cases hmq : m ≤ q
        · exact .inr (max_eq_right hmq)
        · exact .inl (by rwa [max_eq_left (by omega)])
      · rintro x (hx | rfl)
        · have := hle x hx
          omega
        · omega

theorem exists_highestOf {l : List Nat} {q : Nat} (hq : q ∈ l) : ∃ h, highestOf l = some h ∧ q ≤ h := by
  cases hl : highestOf l with
  | none =>
    rw [(highestOf_spec l).2 hl] at hq
    exact absurd hq List.not_mem_nil
  | some h => exact ⟨h, rfl, ((highestOf_spec l).1 h hl).2 q hq⟩

theorem highestOf_eq {l : List Nat} {h : Nat} (hh : h ∈ l) (hle : ∀ q ∈ l, q ≤ h) : highestOf l = some h := by
  obtain ⟨m, hm, hmh⟩ := exists_highestOf hh
  obtain ⟨hmem, -⟩ := (highestOf_spec l).1 m hm
  rw [hm, Nat.le_antisymm (hle m hmem) hmh]

/-! ## The last page that is not blank -/

/-- One past the last page that is not blank. -/
def usedPages (pages : List (List Byte)) : Nat :=
  (pages.zipIdx.filter (fun g => !pageBlank g.1)).foldl (fun _ g => g.2 + 1) 0

theorem usedPages_append (pages : List (List Byte)) (bs : List Byte) :
    usedPages (pages ++ [bs]) = if pageBlank bs then usedPages pages else pages.length + 1 := by
  rw [usedPages, List.zipIdx_append, List.filter_append, List.foldl_append]
  cases h : pageBlank bs <;> simp [h, usedPages]

theorem usedPages_of_blank {pages : List (List Byte)} (h : ∀ bs ∈ pages, pageBlank bs = true) : usedPages pages = 0 := by
  have hnone : pages.zipIdx.filter (fun g => !pageBlank g.1) = [] := by
    rw [List.filter_eq_nil_iff]
    intro g hg
    simp [h g.1 (List.fst_mem_of_mem_zipIdx hg)]
  rw [usedPages, hnone]
  rfl

theorem usedPages_of_last {pages : List (List Byte)} {n : Nat} {bs : List Byte} (hn : pages[n]? = some bs)
    (hbs : pageBlank bs = false) (hlater : ∀ m cs, n < m → pages[m]? = some cs → pageBlank cs = true) :
    usedPages pages = n + 1 := by
  induction pages using List.reverseRecOn with
  | nil => simp at hn
  | append_singleton pages last ih =>
    rw [usedPages_append]
    have hlast : (pages ++ [last])[pages.length]? = some last := by simp
    have hlen : n < pages.length + 1 := by
      have := (List.getElem?_eq_some_iff.mp hn).1
      simpa using this
    by_cases heq : n = pages.length
    · subst heq
      obtain rfl := Option.some.inj (hlast.symm.trans hn)
      simp [hbs]
    · have hlt : n < pages.length := by omega
      have hpage : ∀ m, m < pages.length → (pages ++ [last])[m]? = pages[m]? := fun m hm =>
        List.getElem?_append_left hm
      rw [hlater _ _ hlt hlast, if_pos rfl]
      refine ih ((hpage n hlt).symm.trans hn) fun m cs hm hcs => ?_
      have hmlt := (List.getElem?_eq_some_iff.mp hcs).1
      exact hlater m cs hm ((hpage m hmlt).trans hcs)

/-! ## A block classified (R159) -/

section Classify
variable {pages : List (List Byte)} {tail : List Byte}

/-- The sequence numbers of the valid pages. -/
def validSeqs (pages : List (List Byte)) : List Nat := (pages.filter pageValid).map pageSeq

theorem validSeqs_of_blank (h : ∀ bs ∈ pages, pageBlank bs = true) : validSeqs pages = [] := by
  have hnone : pages.filter pageValid = [] := by
    rw [List.filter_eq_nil_iff]
    intro bs hbs
    simp [pageValid_of_blank (h bs hbs)]
  rw [validSeqs, hnone]
  rfl

/-- A block blank throughout is ERASED. -/
theorem classifyBlock_of_blank (hne : pages ≠ []) (h : ∀ bs ∈ pages, pageBlank bs = true)
    (htail : pageBlank tail = true) : classifyBlock pages tail = { state := .erased } := by
  have hall : (pages.all pageBlank && pageBlank tail) = true := by
    rw [htail, List.all_eq_true.mpr h]
    rfl
  unfold classifyBlock
  split
  · rw [if_pos hall]
  · next hnone =>
    obtain ⟨bs, hbs⟩ := List.exists_mem_of_ne_nil pages hne
    exact absurd (h bs hbs) (by simp [List.findIdx?_eq_none_iff.mp hnone bs hbs])

/-- A block with a valid retire mark is RETIRED. -/
theorem classifyBlock_of_retired (h : retireValid tail = true) :
    ∃ used, classifyBlock pages tail = { state := .retired, used := used, first := (validSeqs pages).head?,
                                         highest := highestOf (validSeqs pages), failed := some (pageSeq tail) }
      ∧ ((∃ bs ∈ pages, pageBlank bs = true) → used = usedPages pages)
      ∧ ((∀ bs ∈ pages, pageBlank bs = false) → used = 31) := by
  have htail : pageBlank tail = false := by
    cases hb : pageBlank tail with
    | false => rfl
    | true => rw [retireValid_of_blank hb] at h; cases h
  unfold classifyBlock
  split
  · next n hn =>
    rw [htail, Bool.and_false, if_neg (by simp), if_pos h]
    refine ⟨_, rfl, fun _ => rfl, fun hnone => ?_⟩
    obtain ⟨hlt, hblank, -⟩ := List.findIdx?_eq_some_iff_getElem.mp hn
    rw [hnone _ (List.getElem_mem hlt)] at hblank
    cases hblank
  · next hnone =>
    rw [if_pos h]
    refine ⟨_, rfl, fun ⟨bs, hbs, hblank⟩ => ?_, fun _ => rfl⟩
    rw [List.findIdx?_eq_none_iff.mp hnone bs hbs] at hblank
    cases hblank

/-- Every other block is FULL or a candidate for the OPEN block. -/
theorem classifyBlock_of_other (h : retireValid tail = false)
    (hwritten : ¬ ((∀ bs ∈ pages, pageBlank bs = true) ∧ pageBlank tail = true)) :
    ∃ st used, classifyBlock pages tail = { state := st, used := used, first := (validSeqs pages).head?,
                                            highest := highestOf (validSeqs pages) }
      ∧ ((∀ bs ∈ pages, pageBlank bs = false) → st = .full ∧ used = 31)
      ∧ ((pages.head?).any pageBlank = true → st = .full ∧ used = 31)
      ∧ (∀ n, pages.findIdx? pageBlank = some n → (pages.head?).any pageBlank = false → st = .candidate ∧ used = n) := by
  have hall : ¬ (pages.all pageBlank && pageBlank tail) = true := by
    rw [Bool.and_eq_true, List.all_eq_true]
    exact hwritten
  unfold classifyBlock
  split
  · next n hn =>
    simp only [if_neg hall, h]
    have hsome : ¬ ∀ bs ∈ pages, pageBlank bs = false := by
      intro hnone
      obtain ⟨hlt, hblank, -⟩ := List.findIdx?_eq_some_iff_getElem.mp hn
      rw [hnone _ (List.getElem_mem hlt)] at hblank
      cases hblank
    cases hfirst : (pages.head?).any pageBlank with
    | true => exact ⟨_, _, rfl, fun _ => ⟨rfl, rfl⟩, fun _ => ⟨rfl, rfl⟩, fun _ _ => nofun⟩
    | false =>
      refine ⟨_, _, rfl, fun hnone => absurd hnone hsome, nofun, fun m hm _ => ⟨rfl, ?_⟩⟩
      exact Option.some.inj (hn.symm.trans hm)
  · next hnone =>
    simp only [h]
    exact ⟨_, _, rfl, fun _ => ⟨rfl, rfl⟩, fun _ => ⟨rfl, rfl⟩, fun n hn => by rw [hnone] at hn; cases hn⟩

/-- The first and the highest sequence of a block are those of its valid pages. -/
theorem classifyBlock_seqs (hne : pages ≠ []) :
    (classifyBlock pages tail).first = (validSeqs pages).head?
      ∧ (classifyBlock pages tail).highest = highestOf (validSeqs pages) := by
  by_cases hall : (∀ bs ∈ pages, pageBlank bs = true) ∧ pageBlank tail = true
  · rw [classifyBlock_of_blank hne hall.1 hall.2, validSeqs_of_blank hall.1]
    exact ⟨rfl, rfl⟩
  · cases hr : retireValid tail with
    | true =>
      obtain ⟨used, heq, -⟩ := classifyBlock_of_retired (pages := pages) hr
      rw [heq]
      exact ⟨rfl, rfl⟩
    | false =>
      obtain ⟨st, used, heq, -⟩ := classifyBlock_of_other hr hall
      rw [heq]
      exact ⟨rfl, rfl⟩

end Classify

/-! ## What the pages add to the scan (R159, R160) -/

section Latest
variable {β α : Type} (listed : β → Bool) (seq : β → Nat) (value : β → α)

/-- The entry of the highest number so far: a listed page with a higher one takes its place. -/
def later (o : Option (Nat × α)) (b : β) : Option (Nat × α) :=
  if listed b ∧ o.all (fun e => e.1 < seq b) then some (seq b, value b) else o

/-- What a run of pages makes of the entry: it stays or is a listed page's, no listed page's number is above
it, and what takes its place has a higher number. -/
theorem foldl_later (l : List β) (before : Option (Nat × α)) :
    let after := l.foldl (later listed seq value) before
    (after = before ∨ ∃ b ∈ l.filter listed, after = some (seq b, value b))
      ∧ (∀ b ∈ l.filter listed, ∃ e, after = some e ∧ seq b ≤ e.1)
      ∧ (∀ e, before = some e → after = before ∨ ∃ g, after = some g ∧ e.1 < g.1) := by
  induction l generalizing before with
  | nil => exact ⟨.inl rfl, fun b hb => by simp at hb, fun _ _ => .inl rfl⟩
  | cons b l ih =>
    intro after
    obtain ⟨hfrom, habove, hraise⟩ := ih (later listed seq value before b)
    have hafter : after = l.foldl (later listed seq value) (later listed seq value before b) := rfl
    rw [← hafter] at hfrom habove hraise
    by_cases hb : listed b = true
    · rw [List.filter_cons_of_pos hb]
      by_cases hnew : before.all (fun e => e.1 < seq b) = true
      · have hstep : later listed seq value before b = some (seq b, value b) := if_pos ⟨hb, hnew⟩
        rw [hstep] at hfrom hraise
        have hraised := hraise _ rfl
        refine ⟨?_, fun c hc => ?_, fun e he => ?_⟩
        · obtain h | ⟨c, hc, h⟩ := hfrom
          · exact .inr ⟨b, List.mem_cons_self .., h⟩
          · exact .inr ⟨c, List.mem_cons_of_mem _ hc, h⟩
        · obtain rfl | hc := List.mem_cons.mp hc
          · obtain h | ⟨g, hg, hlt⟩ := hraised
            · exact ⟨_, h, le_rfl⟩
            · exact ⟨g, hg, Nat.le_of_lt hlt⟩
          · exact habove c hc
        · have hlt : e.1 < seq b := by simpa [he] using hnew
          obtain h | ⟨g, hg, hg'⟩ := hraised
          · exact .inr ⟨_, h, hlt⟩
          · exact .inr ⟨g, hg, Nat.lt_trans hlt hg'⟩
      · have hstep : later listed seq value before b = before := if_neg (fun h => hnew h.2)
        rw [hstep] at hfrom hraise
        refine ⟨hfrom.imp_right fun ⟨c, hc, h⟩ => ⟨c, List.mem_cons_of_mem _ hc, h⟩, fun c hc => ?_, hraise⟩
        obtain rfl | hc := List.mem_cons.mp hc
        · cases before with
          | none => simp at hnew
          | some e =>
            have hle : seq c ≤ e.1 := by simpa using hnew
            obtain h | ⟨g, hg, hg'⟩ := hraise e rfl
            · exact ⟨e, h, hle⟩
            · exact ⟨g, hg, by omega⟩
        · exact habove c hc
    · have hstep : later listed seq value before b = before := if_neg (fun h => hb h.1)
      rw [hstep] at hfrom hraise
      rw [List.filter_cons_of_neg hb]
      exact ⟨hfrom, habove, hraise⟩

end Latest

/-- A valid page that carries an EXPORT_MARK. -/
def exportPage (bs : List Byte) : Bool := pageValid bs && decide (pageKind bs = RecordKind.code .exportMark)

/-- A valid page that tells how a session stands. -/
def sessionPage (bs : List Byte) : Bool := pageValid bs && sessionKind (pageKind bs)

section ScanPage
variable (c : Scan) (bs : List Byte)

theorem Scan.page_high : (c.page bs).high = if pageValid bs then max c.high (pageSeq bs) else c.high := by
  simp only [Scan.page]
  repeat' split
  all_goals simp_all

theorem Scan.page_written : (c.page bs).written = c.written := by
  simp only [Scan.page]
  repeat' split
  all_goals rfl

theorem Scan.page_exportSeen :
    (c.page bs).exportSeen = later exportPage pageSeq (fun bs => bodyNumber bs 2 4) c.exportSeen bs := by
  cases hv : pageValid bs <;> simp only [Scan.page, later, exportPage, hv] <;> repeat' split
  all_goals simp_all

theorem Scan.page_sessionSeen :
    (c.page bs).sessionSeen =
      later sessionPage pageSeq (fun bs => (pageKind bs, bodyNumber bs 2 2)) c.sessionSeen bs := by
  cases hv : pageValid bs <;> simp only [Scan.page, later, sessionPage, hv] <;> repeat' split
  all_goals simp_all

end ScanPage

section ScanBlock
variable (c : Scan) (pages : List (List Byte)) (tail : List Byte)

theorem Scan.foldl_page (c : Scan) (pages : List (List Byte)) :
    let d := pages.foldl Scan.page c
    d.written = c.written
      ∧ d.exportSeen = pages.foldl (later exportPage pageSeq (fun bs => bodyNumber bs 2 4)) c.exportSeen
      ∧ d.sessionSeen =
          pages.foldl (later sessionPage pageSeq (fun bs => (pageKind bs, bodyNumber bs 2 2))) c.sessionSeen
      ∧ c.high ≤ d.high ∧ (∀ bs ∈ pages.filter pageValid, pageSeq bs ≤ d.high)
      ∧ (d.high = c.high ∨ ∃ bs ∈ pages.filter pageValid, d.high = pageSeq bs) := by
  induction pages generalizing c with
  | nil => exact ⟨rfl, rfl, rfl, le_rfl, fun bs hbs => by simp at hbs, .inl rfl⟩
  | cons bs pages ih =>
    intro d
    obtain ⟨hwritten, hexport, hsession, hle, habove, hfrom⟩ := ih (c.page bs)
    rw [Scan.page_high] at hle hfrom
    refine ⟨hwritten.trans (c.page_written bs), hexport.trans (by rw [Scan.page_exportSeen]; rfl),
      hsession.trans (by rw [Scan.page_sessionSeen]; rfl), ?_, ?_, ?_⟩
    · refine le_trans ?_ hle
      split <;> omega
    · intro cs hcs
      obtain ⟨hmem, hvalid⟩ := List.mem_filter.mp hcs
      obtain rfl | hmem := List.mem_cons.mp hmem
      · rw [if_pos hvalid] at hle
        exact le_trans (le_max_right _ _) hle
      · exact habove cs (List.mem_filter.mpr ⟨hmem, hvalid⟩)
    · cases hvalid : pageValid bs with
      | false =>
        rw [hvalid] at hfrom
        rw [List.filter_cons_of_neg (by simp [hvalid])]
        exact hfrom
      | true =>
        rw [hvalid, if_pos rfl] at hfrom
        rw [List.filter_cons_of_pos hvalid]
        obtain h | ⟨cs, hcs, h⟩ := hfrom
        · by_cases hmax : c.high ≤ pageSeq bs
          · exact .inr ⟨bs, List.mem_cons_self .., h.trans (max_eq_right hmax)⟩
          · exact .inl (h.trans (max_eq_left (by omega)))
        · exact .inr ⟨cs, List.mem_cons_of_mem _ hcs, h⟩

/-- What a block adds to the scan: its pages' entries, the numbers of its valid pages and of its retire mark, and
whether it is written. -/
theorem Scan.block_spec :
    let d := c.block pages tail
    d.exportSeen = pages.foldl (later exportPage pageSeq (fun bs => bodyNumber bs 2 4)) c.exportSeen
      ∧ d.sessionSeen =
          pages.foldl (later sessionPage pageSeq (fun bs => (pageKind bs, bodyNumber bs 2 2))) c.sessionSeen
      ∧ d.written = (c.written || !(pages.all pageBlank && pageBlank tail))
      ∧ c.high ≤ d.high ∧ (∀ bs ∈ pages.filter pageValid, pageSeq bs ≤ d.high)
      ∧ (retireValid tail = true → pageSeq tail ≤ d.high)
      ∧ (d.high = c.high ∨ (∃ bs ∈ pages.filter pageValid, d.high = pageSeq bs)
          ∨ (retireValid tail = true ∧ d.high = pageSeq tail)) := by
  obtain ⟨hwritten, hexport, hsession, hle, habove, hfrom⟩ := Scan.foldl_page c pages
  simp only [Scan.block, hwritten]
  cases hr : retireValid tail with
  | false =>
    simp only [Bool.false_eq_true, if_false]
    exact ⟨hexport, hsession, trivial, hle, habove, nofun, hfrom.imp_right .inl⟩
  | true =>
    simp only [if_true]
    refine ⟨hexport, hsession, trivial, le_trans hle (le_max_left _ _),
      fun bs hbs => le_trans (habove bs hbs) (le_max_left _ _), fun _ => le_max_right _ _, ?_⟩
    by_cases hmax : (pages.foldl Scan.page c).high ≤ pageSeq tail
    · exact .inr (.inr ⟨trivial, max_eq_right hmax⟩)
    · rw [max_eq_left (by omega)]
      exact hfrom.imp_right .inl

end ScanBlock

/-- The pages listed for the export mark, and for the session, are the valid ones of the kinds. -/
theorem filter_exportPage (pages : List (List Byte)) :
    pages.filter exportPage = (pages.filter pageValid).filter (fun bs =>
      ([RecordKind.exportMark].map RecordKind.code).contains (pageKind bs)) := by
  rw [List.filter_filter]
  refine List.filter_congr fun bs _ => ?_
  simp [exportPage, Bool.and_comm]

theorem sessionKind_eq (k : Nat) :
    sessionKind k = ([RecordKind.sessionOpen, .sessionClosed, .sessionDiscarded, .sessionLost].map
      RecordKind.code).contains k := by
  rw [Bool.eq_iff_iff]
  simp only [sessionKind, Bool.and_eq_true, decide_eq_true_eq, List.contains_eq_mem, List.map_cons, List.map_nil,
    RecordKind.code, List.mem_cons, List.not_mem_nil, or_false]
  omega

theorem filter_sessionPage (pages : List (List Byte)) :
    pages.filter sessionPage = (pages.filter pageValid).filter (fun bs =>
      ([RecordKind.sessionOpen, .sessionClosed, .sessionDiscarded, .sessionLost].map RecordKind.code).contains
        (pageKind bs)) := by
  rw [List.filter_filter]
  refine List.filter_congr fun bs _ => ?_
  rw [sessionPage, sessionKind_eq, Bool.and_comm]

/-! ## SCAN_BLOCK_CLASSIFY (R159) -/

section ClassifyState
variable {s : State} {p : PlaneId} {b : Nat} {c : Scan}

theorem State.classify_rest (s : State) (p : PlaneId) (b : Nat) (c : Scan) :
    let pages := blockPages s.arch.mem p b
    let tail := readPage s.arch.mem p b 31
    let t := s.classify p b c
    t.arch.scan = some (c.block pages tail) ∧ t.arch.mem = s.arch.mem
      ∧ t.arch.torn = s.arch.torn + tornCount pages tail
      ∧ (t.arch.plane p).blocks = (s.arch.plane p).blocks.modify b (fun _ => classifyBlock pages tail) := by
  cases p <;> exact ⟨rfl, rfl, rfl, rfl⟩

theorem mem_blockPages {m : List Host.Cell} {bs : List Byte} (h : bs ∈ blockPages m p b) :
    ∃ n, n < 31 ∧ readPage m p b n = bs := by
  obtain ⟨n, hn, rfl⟩ := List.mem_map.mp h
  exact ⟨n, List.mem_range.mp hn, rfl⟩

theorem blockPages_getElem? {m : List Host.Cell} {n : Nat} (hn : n < 31) :
    (blockPages m p b)[n]? = some (readPage m p b n) := by
  simp [blockPages, Config.tailPage, List.getElem?_range hn]

theorem readPage_mem_blockPages {m : List Host.Cell} {n : Nat} (hn : n < 31) :
    readPage m p b n ∈ blockPages m p b := List.mem_of_getElem? (blockPages_getElem? hn)

theorem blockPages_length (m : List Host.Cell) : (blockPages m p b).length = 31 := by
  simp [blockPages, Config.tailPage]

theorem blockPages_ne_nil {m : List Host.Cell} : blockPages m p b ≠ [] :=
  List.ne_nil_of_mem (readPage_mem_blockPages (n := 0) (by omega))

theorem blockPages_head? {m : List Host.Cell} : (blockPages m p b).head? = some (readPage m p b 0) := by
  rw [List.head?_eq_getElem?, blockPages_getElem? (by omega)]

/-- The first blank page of a block. -/
theorem blockPages_findIdx? {m : List Host.Cell} {n : Nat} (hn : n < 31) (hblank : pageBlank (readPage m p b n) = true)
    (hbefore : ∀ k, k < n → pageBlank (readPage m p b k) = false) : (blockPages m p b).findIdx? pageBlank = some n := by
  have hget : ∀ k (hk : k < (blockPages m p b).length), (blockPages m p b)[k] = readPage m p b k := by
    intro k hk
    have := blockPages_getElem? (m := m) (p := p) (b := b) (n := k) (by rwa [blockPages_length] at hk)
    exact (List.getElem?_eq_some_iff.mp this).2
  rw [List.findIdx?_eq_some_iff_getElem]
  refine ⟨by rwa [blockPages_length], by rw [hget]; exact hblank, fun k hk => ?_⟩
  rw [hget]
  simp [hbefore k hk]

theorem pageBlank_eq_false {bs : List Byte} (h : ¬ ∀ v ∈ bs, v = 0xFF) : pageBlank bs = false :=
  Bool.eq_false_iff.mpr (fun hb => h ((pageBlank_iff bs).mp hb))

/-- The entry of a RETIRED block: its pages used end at the last page that is not blank. -/
theorem classifyBlock_retired_used {m : List Host.Cell} {tail : List Byte} (h : retireValid tail = true) :
    let y := classifyBlock (blockPages m p b) tail
    y.state = .retired ∧ y.failed = some (pageSeq tail)
      ∧ ((∀ bs ∈ blockPages m p b, ∀ v ∈ bs, v = 0xFF) → y.used = 0)
      ∧ (∀ n, n < 31 → (¬ ∀ v ∈ readPage m p b n, v = 0xFF) →
        (∀ k, n < k → k < 31 → ∀ v ∈ readPage m p b k, v = 0xFF) → y.used = n + 1) := by
  obtain ⟨used, heq, hsome, hnone⟩ := classifyBlock_of_retired (pages := blockPages m p b) h
  rw [heq]
  refine ⟨rfl, rfl, fun hblank => ?_, fun n hn hnb hlater => ?_⟩
  · have hall : ∀ bs ∈ blockPages m p b, pageBlank bs = true := fun bs hbs => (pageBlank_iff bs).mpr (hblank bs hbs)
    have hfirst := readPage_mem_blockPages (m := m) (p := p) (b := b) (n := 0) (by omega)
    exact (hsome ⟨_, hfirst, hall _ hfirst⟩).trans (usedPages_of_blank hall)
  · have hused : usedPages (blockPages m p b) = n + 1 := by
      refine usedPages_of_last (blockPages_getElem? hn) (pageBlank_eq_false hnb) fun k cs hk hcs => ?_
      have hk31 : k < 31 := by
        have := (List.getElem?_eq_some_iff.mp hcs).1
        rwa [blockPages_length] at this
      obtain rfl := Option.some.inj ((blockPages_getElem? hk31).symm.trans hcs)
      exact (pageBlank_iff _).mpr (hlater k hk hk31)
    by_cases hex : ∃ bs ∈ blockPages m p b, pageBlank bs = true
    · exact (hsome hex).trans hused
    · have hlast : n = 30 := by
        by_contra hne
        exact hex ⟨_, readPage_mem_blockPages (n := 30) (by omega),
          (pageBlank_iff _).mpr (hlater 30 (by omega) (by omega))⟩
      have hall : ∀ bs ∈ blockPages m p b, pageBlank bs = false := fun bs hbs =>
        Bool.eq_false_iff.mpr (fun hblank => hex ⟨bs, hbs, hblank⟩)
      rw [hlast]
      exact hnone hall

/-- The entry of a block with no retire mark that is not blank throughout. -/
theorem classifyBlock_other_used {m : List Host.Cell} {tail : List Byte} (h : retireValid tail = false)
    (hwritten : ¬ ((∀ bs ∈ blockPages m p b, ∀ v ∈ bs, v = 0xFF) ∧ ∀ v ∈ tail, v = 0xFF)) :
    let y := classifyBlock (blockPages m p b) tail
    y.failed = none
      ∧ ((∀ bs ∈ blockPages m p b, ¬ ∀ v ∈ bs, v = 0xFF) → y.state = .full ∧ y.used = 31)
      ∧ ((∀ v ∈ readPage m p b 0, v = 0xFF) → y.state = .full ∧ y.used = 31)
      ∧ (∀ n, 0 < n → n < 31 → (∀ v ∈ readPage m p b n, v = 0xFF) →
        (∀ k, k < n → ¬ ∀ v ∈ readPage m p b k, v = 0xFF) → y.state = .candidate ∧ y.used = n) := by
  have hnot : ¬ ((∀ bs ∈ blockPages m p b, pageBlank bs = true) ∧ pageBlank tail = true) := by
    rintro ⟨hpages, htail⟩
    exact hwritten ⟨fun bs hbs => (pageBlank_iff bs).mp (hpages bs hbs), (pageBlank_iff tail).mp htail⟩
  obtain ⟨st, used, heq, hfull, hfirst, hcand⟩ := classifyBlock_of_other h hnot
  rw [heq]
  refine ⟨rfl, fun hall => hfull fun bs hbs => pageBlank_eq_false (hall bs hbs), fun hblank => hfirst ?_,
    fun n hpos hn hblank hbefore => hcand n ?_ ?_⟩
  · rw [blockPages_head?]
    exact (pageBlank_iff _).mpr hblank
  · exact blockPages_findIdx? hn ((pageBlank_iff _).mpr hblank) fun k hk => pageBlank_eq_false (hbefore k hk)
  · rw [blockPages_head?]
    exact pageBlank_eq_false (hbefore 0 hpos)

end ClassifyState

end Sys2Proof.Machine
end

section
/-! SUPPORT. The end of the power-up scan (R159, R160), and the statement of the scan. -/

namespace Sys2Proof.Machine

/-! ## A plane settled (R159) -/

section Settle
variable {pl : Plane}

theorem Plane.highest_eq : pl.highest = highestOf (pl.blocks.filterMap (fun x => x.highest)) := rfl

/-- A block of a plane that a program resumes in: a candidate that holds the plane's highest number. -/
def Plane.resumes (pl : Plane) (b : Nat) : Prop :=
  ∃ x h, pl.blocks[b]? = some x ∧ x.state = .candidate ∧ x.highest = some h
    ∧ (∀ z ∈ pl.blocks, ∀ g, z.highest = some g → g ≤ h)

theorem Plane.resumes_iff {b : Nat} (hb : b < pl.blocks.length) :
    pl.resumes b ↔ (decide (pl.blocks[b].state = .candidate) && pl.blocks[b].highest.isSome
      && decide (pl.blocks[b].highest = pl.highest)) = true := by
  have hget := List.getElem?_eq_getElem hb
  simp only [Bool.and_eq_true, decide_eq_true_eq]
  constructor
  · rintro ⟨x, h, hx, hstate, hh, hle⟩
    obtain rfl := Option.some.inj (hget.symm.trans hx)
    have hhigh : pl.highest = some h := by
      refine highestOf_eq (List.mem_filterMap.mpr ⟨_, List.getElem_mem hb, hh⟩) fun q hq => ?_
      obtain ⟨z, hz, hzq⟩ := List.mem_filterMap.mp hq
      exact hle z hz q hzq
    exact ⟨⟨hstate, by simp [hh]⟩, hh.trans hhigh.symm⟩
  · rintro ⟨⟨hstate, hsome⟩, hhigh⟩
    obtain ⟨h, hh⟩ := Option.isSome_iff_exists.mp hsome
    refine ⟨_, h, hget, hstate, hh, fun z hz g hg => ?_⟩
    obtain ⟨-, hle⟩ := (highestOf_spec _).1 h (hhigh.symm.trans hh)
    exact hle g (List.mem_filterMap.mpr ⟨z, hz, hg⟩)

theorem Plane.lt_of_resumes {b : Nat} (h : pl.resumes b) : b < pl.blocks.length := by
  obtain ⟨x, -, hx, -⟩ := h
  exact (List.getElem?_eq_some_iff.mp hx).1

theorem Plane.resumeBlock_eq_some {b : Nat} (h : pl.resumes b) (hfirst : ∀ j, j < b → ¬ pl.resumes j) :
    pl.resumeBlock = some b := by
  have hb := Plane.lt_of_resumes h
  rw [Plane.resumeBlock, List.findIdx?_eq_some_iff_getElem]
  refine ⟨hb, (Plane.resumes_iff hb).mp h, fun j hj => ?_⟩
  exact fun htest => hfirst j hj ((Plane.resumes_iff (by omega)).mpr htest)

theorem Plane.resumeBlock_eq_none (h : ∀ j, ¬ pl.resumes j) : pl.resumeBlock = none := by
  rw [Plane.resumeBlock, List.findIdx?_eq_none_iff]
  intro x hx
  obtain ⟨j, hj, rfl⟩ := List.getElem_of_mem hx
  exact Bool.eq_false_iff.mpr (fun htest => h j ((Plane.resumes_iff hj).mpr htest))

/-- The entries of a settled plane: the block chosen changed, and every other candidate FULL. -/
def Plane.SettledTo (pl : Plane) (b : Option Nat) (v : Block → Block) (blocks : List Block) : Prop :=
  ∀ j y, pl.blocks[j]? = some y →
    blocks[j]? = some (if b = some j then v y else if y.state = .candidate then { y with state := .full } else y)

theorem settledTo_modify {b : Nat} {f v : Block → Block} (hf : ∀ y, pl.blocks[b]? = some y → f y.settle = v y) :
    pl.SettledTo (some b) v ((pl.blocks.map Block.settle).modify b f) := by
  intro j y hy
  rw [List.getElem?_modify, List.getElem?_map, hy]
  by_cases hj : b = j
  · subst hj
    simp [hf y hy]
  · simp [hj, Block.settle]

theorem settledTo_none : pl.SettledTo none (fun y => y) (pl.blocks.map Block.settle) := by
  intro j y hy
  simp [hy, Block.settle]

theorem Plane.settle_of_resumes {b : Nat} (h : pl.resumes b) (hfirst : ∀ j, j < b → ¬ pl.resumes j) :
    pl.settle.stalled = false ∧ pl.SettledTo (some b) (fun y => { y with state := .opened }) pl.settle.blocks := by
  simp only [Plane.settle, Plane.resumeBlock_eq_some h hfirst]
  refine ⟨rfl, settledTo_modify fun y hy => ?_⟩
  obtain ⟨x, -, hx, hstate, -⟩ := h
  obtain rfl := Option.some.inj (hx.symm.trans hy)
  rw [Block.settle, if_pos hstate]

theorem Plane.settle_of_erased {e : Nat} (h : ∀ j, ¬ pl.resumes j) (he : pl.findBlock .erased = some e) :
    pl.settle.stalled = false ∧ pl.SettledTo (some e) (fun _ => ⟨.opened, 0, none, none, none⟩) pl.settle.blocks := by
  simp only [Plane.settle, Plane.resumeBlock_eq_none h, he]
  exact ⟨rfl, settledTo_modify fun _ _ => rfl⟩

theorem Plane.settle_of_none (h : ∀ j, ¬ pl.resumes j) (he : pl.findBlock .erased = none) :
    pl.settle.stalled = true ∧ pl.SettledTo none (fun y => y) pl.settle.blocks := by
  simp only [Plane.settle, Plane.resumeBlock_eq_none h, he]
  exact ⟨trivial, settledTo_none⟩

theorem Plane.settle_marks : pl.settle.prev = .none ∧ pl.settle.cur = .none := by
  simp only [Plane.settle]
  repeat' split
  all_goals exact ⟨rfl, rfl⟩

end Settle

/-! ## A record offered leaves the planes' tables (R147, R149) -/

/-- The same but for its buffers, its program and the notice it owes. -/
structure TableKept (old new : Plane) : Prop where
  blocks : new.blocks = old.blocks
  prev : new.prev = old.prev
  cur : new.cur = old.cur
  stalled : new.stalled = old.stalled

theorem TableKept.refl (pl : Plane) : TableKept pl pl := ⟨rfl, rfl, rfl, rfl⟩

theorem State.offer_table (s : State) (kind : RecordKind) (body : List Field) (now : Nat) (p : PlaneId) :
    TableKept (s.arch.plane p) ((s.offer kind body now).arch.plane p) := by
  unfold State.offer
  split
  · by_cases hp : p = planeOf s.arch.seqCounter
    · subst hp
      have hpipe := Archive.pump_pipe (s.queued kind body) (planeOf s.arch.seqCounter)
      rw [s.queued_plane kind body] at hpipe
      obtain ⟨hblocks, hprev, hcur, hstalled, -⟩ := hpipe.fields
      rw [s.enqueue_plane kind body now]
      exact ⟨hblocks, hprev, hcur, hstalled⟩
    · rw [(s.enqueue_arch kind body now).plane hp, s.queued_plane kind body]
      exact TableKept.refl _
  · cases p <;> exact TableKept.refl _

/-- What a record offered leaves of the archive beside its queue and its planes. -/
theorem State.offer_rest (s : State) (kind : RecordKind) (body : List Field) (now : Nat) :
    let t := s.offer kind body now
    t.arch.lastStored = s.arch.lastStored ∧ t.arch.exported = s.arch.exported ∧ t.arch.mem = s.arch.mem
      ∧ t.hall = s.hall := by
  intro t
  simp only [t, State.offer]
  split
  · obtain ⟨hmem, -, -, hlast, hexported, -⟩ := (s.enqueue_arch kind body now).fields
    exact ⟨hlast, hexported, hmem, (s.enqueue_same kind body now).hall⟩
  · exact ⟨rfl, rfl, rfl, rfl⟩

/-! ## SCAN_END (R160) -/

section ScanEnd
variable {s : State} {c : Scan}

theorem State.lostSession_of_open {q n : Nat} (h : c.sessionSeen = some (q, 1, n)) :
    s.lostSession c =
      s.offer .sessionLost [⟨2, n⟩, ⟨4, q⟩, ⟨4, c.high⟩, ⟨4, s.arch.torn⟩, ⟨4, s.hall.time⟩] := by
  simp only [State.lostSession, h]
  rfl

theorem State.lostSession_of_other (h : ∀ q n, c.sessionSeen ≠ some (q, 1, n)) : s.lostSession c = s := by
  unfold State.lostSession
  split
  · next q n hseen => exact absurd hseen (h q n)
  · rfl

/-- What SESSION_LOST, queued or not, leaves. -/
theorem State.lostSession_rest :
    let t := s.lostSession c
    t.arch.lastStored = s.arch.lastStored ∧ t.arch.exported = s.arch.exported ∧ t.arch.mem = s.arch.mem
      ∧ t.hall = s.hall ∧ ∀ p, TableKept (s.arch.plane p) (t.arch.plane p) := by
  intro t
  simp only [t, State.lostSession]
  split
  · obtain ⟨hlast, hexported, hmem, hhall⟩ := s.offer_rest _ _ _
    exact ⟨hlast, hexported, hmem, hhall, s.offer_table _ _ _⟩
  · exact ⟨rfl, rfl, rfl, rfl, fun p => TableKept.refl _⟩

/-- The plane that the scan's end leaves: settled, but for its buffers and the notice it owes. -/
theorem State.scanEnd_plane (p : PlaneId) : TableKept (s.arch.plane p).settle ((s.scanEnd c).arch.plane p) := by
  obtain ⟨-, -, -, -, htable⟩ := State.lostSession_rest (s := s.mapArch (fun a => a.settle c)) (c := c)
  obtain ⟨hblocks, hprev, hcur, hstalled⟩ := htable p
  cases p <;> exact ⟨hblocks, hprev, hcur, hstalled⟩

end ScanEnd

/-- Settles O56: the block's entry by R159's lines, the scan's marks page by page, the planes as they settle. -/
theorem scanRuns : Obligations.ScanRuns := by
  unfold Obligations.ScanRuns
  refine ⟨fun s p b c x hscan hx hunread => ?_, fun s c hscan hread => ?_⟩
  · intro pages tail blank valid allBlank found
    have hpages : pages = blockPages s.arch.mem p b := rfl
    obtain ⟨hscan', hmem, htorn, hblocks⟩ := s.classify_rest p b c
    obtain ⟨hexport, hsession, hwritten, hle, habove, htail, hhigh⟩ := c.block_spec pages tail
    obtain ⟨hfirst, hhighest⟩ := classifyBlock_seqs (pages := pages) (tail := tail) blockPages_ne_nil
    have hblankiff : allBlank ↔ (pages.all pageBlank && pageBlank tail) = true := by
      simp only [allBlank, blank, Bool.and_eq_true, List.all_eq_true, pageBlank_iff]
    refine ⟨s.classify p b c, classifyBlock pages tail, c.block pages tail, ?_, hscan', hmem, ?_, ?_, ?_, ?_, ?_, ?_, ?_,
      hle, htail, hhigh, fun hall => ⟨?_, ?_⟩, fun hnot => ?_, fun hr => classifyBlock_retired_used hr,
      fun hr hnot => classifyBlock_other_used hr hnot⟩
    · have harm : exec (.scanBlockClassify p b) s = execScanBlockClassify p b s := rfl
      rw [harm]
      simp only [execScanBlockClassify, hscan, hx, hunread, if_true]
    · exact hblocks.trans (List.modify_eq_set_of_getElem? hx _)
    · rw [htorn, ← tornTail_eq, Nat.add_assoc, List.countP_eq_length_filter]
      rfl
    · rw [hfirst, validSeqs, List.head?_map]
    · intro bs hbs
      obtain ⟨h, hh, hle'⟩ := exists_highestOf (List.mem_map_of_mem (f := pageSeq) hbs)
      exact ⟨⟨h, hhighest.trans hh, hle'⟩, habove bs hbs⟩
    · intro h hh
      obtain ⟨hmem', -⟩ := (highestOf_spec _).1 h (hhighest.symm.trans hh)
      exact List.mem_map.mp hmem'
    · have := foldl_later exportPage pageSeq (fun bs => bodyNumber bs 2 4) pages c.exportSeen
      rw [← hexport, filter_exportPage] at this
      exact this
    · have := foldl_later sessionPage pageSeq (fun bs => (pageKind bs, bodyNumber bs 2 2)) pages c.sessionSeen
      rw [← hsession, filter_sessionPage] at this
      exact this
    · obtain ⟨hp, ht⟩ := hall
      exact classifyBlock_of_blank blockPages_ne_nil (fun bs hbs => (pageBlank_iff bs).mpr (hp bs hbs))
        ((pageBlank_iff tail).mpr ht)
    · rw [hwritten, hblankiff.mp hall]
      simp
    · rw [hwritten, Bool.eq_false_iff.mpr (fun h => hnot (hblankiff.mpr h))]
      simp
  · intro counter
    obtain ⟨hlast, hexported, hmem, hhall, -⟩ := State.lostSession_rest (s := s.mapArch (fun a => a.settle c)) (c := c)
    refine ⟨s.scanEnd c, ?_, rfl, hlast, ?_, hmem, hhall, fun hother => ?_, fun q n hopen hroom => ?_, fun p => ?_⟩
    · have hall : s.arch.allRead = true := by
        simp only [Archive.allRead, Bool.and_eq_true, List.all_eq_true, decide_eq_true_eq]
        exact ⟨hread .p0, hread .p1⟩
      have harm : exec .scanEnd s = execScanEnd s := rfl
      rw [harm]
      simp only [execScanEnd, hscan, hall]
    · refine hexported.trans ?_
      cases hseen : c.exportSeen <;> simp [State.mapArch, Archive.settle, hseen]
    · have heq := State.lostSession_of_other (s := s.mapArch (fun a => a.settle c)) hother
      have : (s.scanEnd c).arch.seqCounter = ((s.mapArch (fun a => a.settle c)).lostSession c).arch.seqCounter
          ∧ (s.scanEnd c).arch.queue = ((s.mapArch (fun a => a.settle c)).lostSession c).arch.queue := ⟨rfl, rfl⟩
      rw [heq] at this
      exact this
    · have heq := (State.lostSession_of_open (s := s.mapArch (fun a => a.settle c)) hopen).trans
        (State.offer_of_room _ _ _ _ hroom)
      obtain ⟨-, hqueue, hseq, -⟩ := ((s.mapArch (fun a => a.settle c)).enqueue_arch .sessionLost
        [⟨2, n⟩, ⟨4, q⟩, ⟨4, c.high⟩, ⟨4, s.arch.torn⟩, ⟨4, s.hall.time⟩] s.hall.time).fields
      have hend : (s.scanEnd c).arch.seqCounter = ((s.mapArch (fun a => a.settle c)).lostSession c).arch.seqCounter
          ∧ (s.scanEnd c).arch.queue = ((s.mapArch (fun a => a.settle c)).lostSession c).arch.queue := ⟨rfl, rfl⟩
      rw [heq] at hend
      exact ⟨hend.1.trans hseq, hend.2.trans hqueue⟩
    · obtain ⟨hblocks, hprev, hcur, hstalled⟩ := State.scanEnd_plane (s := s) (c := c) p
      obtain ⟨hp, hc⟩ := Plane.settle_marks (pl := s.arch.plane p)
      refine ⟨hprev.trans hp, hcur.trans hc, ?_⟩
      intro pl resumes becomes
      refine ⟨fun b hb hbefore => ?_, fun hnone => ⟨fun e he => ?_, fun he => ?_⟩⟩
      · obtain ⟨hst, hset⟩ := Plane.settle_of_resumes hb hbefore
        exact ⟨hstalled.trans hst, fun j y hy => hblocks ▸ hset j y hy⟩
      · obtain ⟨hst, hset⟩ := Plane.settle_of_erased hnone he
        exact ⟨hstalled.trans hst, fun j y hy => hblocks ▸ hset j y hy⟩
      · obtain ⟨hst, hset⟩ := Plane.settle_of_none hnone he
        exact ⟨hstalled.trans hst, fun j y hy => hblocks ▸ hset j y hy⟩

end Sys2Proof.Machine
end

section
/-! SUPPORT. ARCHIVE_READ, ARCHIVE_EXPORTED and ARCHIVE_ERASE (R154 to R156): their tests in order. -/

namespace Sys2Proof.Machine

/-! ## The block ARCHIVE_READ searches (R154) -/

section Choose
variable {seq : Nat}

theorem Block.readable_iff (x : Block) :
    x.readable = true ↔ x.state = .opened ∨ x.state = .full ∨ x.state = .retired := by
  unfold Block.readable
  cases x.state <;> simp

/-- A block that may hold a number, by its first sequence. -/
def Block.mayHold (seq : Nat) (x : Block) (f : Nat) : Prop := x.readable = true ∧ x.first = some f ∧ f ≤ seq

/-- One block weighed against the best so far. -/
def weigh (seq : Nat) (best : Option (Nat × Block × Nat)) (g : Block × Nat) : Option (Nat × Block × Nat) :=
  match g.1.first with
  | none => best
  | some f => if g.1.readable ∧ f ≤ seq ∧ best.all (fun b => b.2.2 < f) then some (g.2, g.1, f) else best

theorem Plane.choose_eq (pl : Plane) : pl.choose seq = pl.blocks.zipIdx.foldl (weigh seq) none := rfl

theorem weigh_of_taken {best : Option (Nat × Block × Nat)} {g : Block × Nat} {f : Nat} (h : g.1.mayHold seq f)
    (hbest : ∀ e, best = some e → e.2.2 < f) : weigh seq best g = some (g.2, g.1, f) := by
  obtain ⟨hread, hfirst, hle⟩ := h
  have hall : best.all (fun b => b.2.2 < f) = true := by
    cases hb : best with
    | none => rfl
    | some e => simpa using hbest e hb
  simp only [weigh, hfirst, if_pos (show g.1.readable = true ∧ f ≤ seq ∧ _ from ⟨hread, hle, hall⟩)]

/-- A block that may not hold the number, or whose first sequence is below the best one's, leaves the best. -/
theorem weigh_of_passed {best : Option (Nat × Block × Nat)} {g : Block × Nat}
    (h : ∀ f, g.1.mayHold seq f → ∃ e, best = some e ∧ f ≤ e.2.2) : weigh seq best g = best := by
  unfold weigh
  split
  · rfl
  · next f hf =>
    refine if_neg ?_
    rintro ⟨hread, hle, hall⟩
    obtain ⟨e, he, hfe⟩ := h f ⟨hread, hf, hle⟩
    have hlt : e.2.2 < f := by simpa [he] using hall
    omega

theorem foldl_weigh_of_passed {best : Option (Nat × Block × Nat)} {l : List (Block × Nat)}
    (h : ∀ g ∈ l, ∀ f, g.1.mayHold seq f → ∃ e, best = some e ∧ f ≤ e.2.2) : l.foldl (weigh seq) best = best := by
  induction l with
  | nil => rfl
  | cons g l ih =>
    rw [List.foldl_cons, weigh_of_passed (h g (List.mem_cons_self ..))]
    exact ih fun g hg => h g (List.mem_cons_of_mem _ hg)

/-- Blocks with lower first sequences leave a best of lower first sequence. -/
theorem foldl_weigh_lt {f : Nat} {l : List (Block × Nat)} (h : ∀ g ∈ l, ∀ k, g.1.mayHold seq k → k < f) :
    ∀ best : Option (Nat × Block × Nat), (∀ e, best = some e → e.2.2 < f) →
      ∀ e, l.foldl (weigh seq) best = some e → e.2.2 < f := by
  induction l with
  | nil => exact fun best hbest => hbest
  | cons g l ih =>
    intro best hbest
    refine ih (fun g hg => h g (List.mem_cons_of_mem _ hg)) _ fun e he => ?_
    unfold weigh at he
    split at he
    · exact hbest e he
    · next k hk =>
      split at he
      · next htaken =>
        obtain rfl := Option.some.inj he
        exact h g (List.mem_cons_self ..) k ⟨htaken.1, hk, htaken.2.1⟩
      · exact hbest e he

variable {pl : Plane}

theorem Plane.choose_eq_none (h : ∀ x ∈ pl.blocks, ∀ f, ¬ x.mayHold seq f) : pl.choose seq = none := by
  rw [Plane.choose_eq]
  exact foldl_weigh_of_passed fun g hg f hf => absurd hf (h g.1 (List.fst_mem_of_mem_zipIdx hg) f)

/-- The block with the greatest first sequence not above the number is chosen. -/
theorem Plane.choose_eq_some {b f : Nat} {x : Block} (hx : pl.blocks[b]? = some x) (h : x.mayHold seq f)
    (hothers : ∀ j y g, j ≠ b → pl.blocks[j]? = some y → y.mayHold seq g → g < f) : pl.choose seq = some (b, x, f) := by
  obtain ⟨l₁, l₂, hsplit⟩ := List.append_of_mem (List.mem_zipIdx_iff_getElem?.mpr hx : (x, b) ∈ pl.blocks.zipIdx)
  have hnodup : (pl.blocks.zipIdx.map Prod.snd).Nodup := by
    rw [List.zipIdx_map_snd]
    exact List.nodup_range'
  rw [hsplit, List.map_append, List.map_cons, List.nodup_append] at hnodup
  obtain ⟨-, hcons, hdisjoint⟩ := hnodup
  have hother : ∀ g ∈ pl.blocks.zipIdx, g.2 ≠ b → ∀ k, g.1.mayHold seq k → k < f := fun g hg hne k hk =>
    hothers g.2 g.1 k hne (List.mem_zipIdx_iff_getElem?.mp hg) hk
  have hbefore : ∀ g ∈ l₁, ∀ k, g.1.mayHold seq k → k < f := fun g hg =>
    hother g (by rw [hsplit]; exact List.mem_append_left _ hg)
      (hdisjoint g.2 (List.mem_map_of_mem hg) b (List.mem_cons_self ..))
  have hafter : ∀ g ∈ l₂, ∀ k, g.1.mayHold seq k → k < f := fun g hg =>
    hother g (by rw [hsplit]; exact List.mem_append_right _ (List.mem_cons_of_mem _ hg))
      (fun heq => (List.nodup_cons.mp hcons).1 (List.mem_map.mpr ⟨g, hg, heq⟩))
  rw [Plane.choose_eq, hsplit, List.foldl_append, List.foldl_cons,
    weigh_of_taken (g := (x, b)) h (foldl_weigh_lt hbefore none nofun)]
  exact foldl_weigh_of_passed fun g hg k hk => ⟨_, rfl, Nat.le_of_lt (hafter g hg k hk)⟩

end Choose

/-! ## The page ARCHIVE_READ finds (R154) -/

section Search
variable {seq : Nat} {void : Option Nat}

/-- A page the search goes past: void, blank, or of another number with no valid page's higher one. -/
def pagePassed (seq : Nat) (void : Option Nat) (n : Nat) (bs : List Byte) : Prop :=
  (void = some n ∨ pageBlank bs = true) ∨ (pageSeq bs ≠ seq ∧ ¬ (pageValid bs = true ∧ seq < pageSeq bs))

theorem searchPages_cons_of_passed {bs : List Byte} {rest : List (List Byte)} {n : Nat} (h : pagePassed seq void n bs) :
    searchPages seq void (bs :: rest) n = searchPages seq void rest (n + 1) := by
  rw [searchPages]
  by_cases hskip : void = some n ∨ pageBlank bs = true
  · rw [if_pos hskip]
  · obtain hskip' | ⟨hseq, hhigher⟩ := h
    · exact absurd hskip' hskip
    · rw [if_neg hskip, if_neg hseq, if_neg hhigher]

/-- The search goes past a run of passed pages. -/
theorem searchPages_drop {pages : List (List Byte)} {n k : Nat}
    (h : ∀ m bs, m < n → pages[m]? = some bs → pagePassed seq void (k + m) bs) :
    searchPages seq void pages k = searchPages seq void (pages.drop n) (k + n) := by
  induction n generalizing pages k with
  | zero => rfl
  | succ n ih =>
    cases pages with
    | nil => simp [searchPages]
    | cons bs rest =>
      rw [searchPages_cons_of_passed (n := k) (h 0 bs (by omega) rfl), List.drop_succ_cons, ih fun m cs hm hcs => ?_]
      · congr 1
        omega
      · have := h (m + 1) cs (by omega) (by simpa using hcs)
        rwa [← Nat.add_assoc, Nat.add_right_comm] at this

section Found
variable {pages : List (List Byte)} {n : Nat} {bs : List Byte} (hn : pages[n]? = some bs)
  (hbefore : ∀ m cs, m < n → pages[m]? = some cs → pagePassed seq void m cs)
  (hskip : ¬ (void = some n ∨ pageBlank bs = true))
include hn hbefore hskip

theorem searchPages_reach :
    searchPages seq void pages 0 = if pageSeq bs = seq then some (n, bs)
      else if pageValid bs ∧ seq < pageSeq bs then none else searchPages seq void (pages.drop (n + 1)) (n + 1) := by
  obtain ⟨hlt, rfl⟩ := List.getElem?_eq_some_iff.mp hn
  rw [searchPages_drop (n := n) (k := 0) (by simpa using hbefore), List.drop_eq_getElem_cons hlt, searchPages,
    Nat.zero_add, if_neg hskip]

end Found

theorem searchPages_of_passed {pages : List (List Byte)}
    (h : ∀ m bs, pages[m]? = some bs → pagePassed seq void m bs) : searchPages seq void pages 0 = none := by
  rw [searchPages_drop (n := pages.length) (k := 0) (fun m bs _ => by simpa using h m bs), List.drop_length]
  rfl

end Search

theorem Block.voidPage_eq_some {x : Block} {n : Nat} :
    x.voidPage = some n ↔ x.state = .retired ∧ x.failed.isSome = true ∧ n = x.used - 1 := by
  unfold Block.voidPage
  split
  · next h =>
    obtain ⟨hstate, hfailed⟩ := h
    simp only [Option.some.injEq, hstate, hfailed, true_and]
    exact eq_comm
  · next h => exact ⟨nofun, fun ⟨hstate, hfailed, _⟩ => absurd ⟨hstate, hfailed⟩ h⟩

/-! ## Blocks in a state -/

theorem Plane.findBlock_isSome {pl : Plane} {st : BlockState} :
    (pl.findBlock st).isSome = true ↔ ∃ x ∈ pl.blocks, x.state = st := by
  simp [Plane.findBlock, List.findIdx?_isSome]

/-! ## The answers of ARCHIVE_READ (R154) -/

section ArchiveRead
variable {s : State} {seq : Nat}

theorem cmdArchiveRead_of_pending (hpos : 1 ≤ seq) (h : ∃ r ∈ s.arch.queue, r.seq = seq) :
    cmdArchiveRead seq s = refuse s .pending := by
  rw [cmdArchiveRead, if_neg (by omega), if_pos (by simpa using h)]

theorem cmdArchiveRead_of_erasing (hpos : 1 ≤ seq) (hqueue : ∀ r ∈ s.arch.queue, r.seq ≠ seq)
    (h : ∃ x ∈ (s.arch.plane (planeOf seq)).blocks, x.state = .erasing) : cmdArchiveRead seq s = refuse s .busy := by
  rw [cmdArchiveRead, if_neg (by omega), if_neg (by simpa using hqueue), if_pos (Plane.findBlock_isSome.mpr h)]

/-- What ARCHIVE_READ answers once its first two tests are passed. -/
theorem cmdArchiveRead_of_idle (hpos : 1 ≤ seq) (hqueue : ∀ r ∈ s.arch.queue, r.seq ≠ seq)
    (h : ∀ x ∈ (s.arch.plane (planeOf seq)).blocks, x.state ≠ .erasing) :
    cmdArchiveRead seq s = if s.arch.seqCounter ≤ seq then refuse s .notFound else s.findRecord seq := by
  have hnone : ¬ ((s.arch.plane (planeOf seq)).findBlock .erasing).isSome = true := by
    rw [Plane.findBlock_isSome]
    rintro ⟨x, hx, hstate⟩
    exact h x hx hstate
  rw [cmdArchiveRead, if_neg (by omega), if_neg (by simpa using hqueue), if_neg hnone]

theorem State.findRecord_of_none
    (h : ∀ x ∈ (s.arch.plane (planeOf seq)).blocks, ∀ f, ¬ x.mayHold seq f) : s.findRecord seq = refuse s .notFound := by
  simp only [State.findRecord, Plane.choose_eq_none h]

section Block
variable {b f : Nat} {x : Block} (hchoose : (s.arch.plane (planeOf seq)).choose seq = some (b, x, f))
include hchoose

theorem State.findRecord_of_unfound
    (hsearch : searchPages seq x.voidPage (blockPages s.arch.mem (planeOf seq) b) 0 = none) :
    s.findRecord seq = refuse s .notFound := by
  simp only [State.findRecord, hchoose, hsearch]

theorem State.findRecord_of_found {page : Nat} {bs : List Byte}
    (hsearch : searchPages seq x.voidPage (blockPages s.arch.mem (planeOf seq) b) 0 = some (page, bs)) :
    s.findRecord seq = okay s (foundFields (planeOf seq) b page bs) := by
  simp only [State.findRecord, hchoose, hsearch]

end Block

end ArchiveRead

/-! ## The answers of ARCHIVE_EXPORTED and ARCHIVE_ERASE (R155, R156) -/

section ExportErase
variable {s : State} {seq : Nat}

theorem cmdArchiveExported_of_range (h : seq < s.arch.exported ∨ s.arch.lastStored < seq) :
    cmdArchiveExported seq s = refuse s .range := if_pos h

/-- A number in range is judged by the queue. -/
theorem cmdArchiveExported_of_inRange (hlo : s.arch.exported ≤ seq) (hhi : seq ≤ s.arch.lastStored) :
    cmdArchiveExported seq s =
      if s.arch.queue.any (fun r => r.seq ≤ seq) then refuse s .pending
      else if ¬ s.arch.canTake then refuse s .full
      else okay ((s.mapArch (fun a => { a with exported := seq })).enqueue .exportMark
        [⟨4, seq⟩, s.sessionField, s.timeField]) [⟨4, seq⟩, ⟨4, s.arch.seqCounter⟩] := by
  rw [cmdArchiveExported, if_neg (by omega)]

theorem planeOfNat_of_mem {n : Nat} {p : PlaneId} (h : (n, p) ∈ [(0, PlaneId.p0), (1, PlaneId.p1)]) :
    planeOfNat n = some p := by
  simp only [List.mem_cons, Prod.mk.injEq, List.not_mem_nil, or_false] at h
  obtain ⟨rfl, rfl⟩ | ⟨rfl, rfl⟩ := h <;> rfl

theorem cmdArchiveErase_of_block {n b : Nat} {p : PlaneId} {x : Block} (hp : planeOfNat n = some p)
    (hx : (s.arch.plane p).blocks[b]? = some x) :
    cmdArchiveErase n b s =
      if x.state ≠ .full then refuse s .state
      else if x.highest.any (fun h => s.arch.exported ≤ h) then refuse s .notExported
      else if ((s.arch.plane p).findBlock .erasing).isSome then refuse s .busy
      else ⟨s.mapPlane p (fun pl => pl.mapBlock b (fun y => { y with state := .erasing })), .accepted, []⟩ := by
  simp only [cmdArchiveErase, hp, hx]

end ExportErase

/-- Settles O57: each command is judged test by test; a read goes through the pages of the block it chooses. -/
theorem archiveCommands : Obligations.ArchiveCommands := by
  unfold Obligations.ArchiveCommands
  refine ⟨fun q tag seq s hready hq hpos => ?_, fun tag seq s hready hsession => ?_,
    fun tag plane b p x s hready hsession hplane hx => ?_⟩
  · have hport : PortTakes q (.archiveRead seq) := by
      cases q with
      | k => exact absurd rfl hq
      | desk d => exact ⟨rfl, rfl, rfl⟩
      | g => exact ⟨rfl, rfl, rfl⟩
    intro p answers readable
    have hanswer : ∀ r fields, cmdArchiveRead seq s = ⟨s, r, fields⟩ → answers r fields := fun r fields h =>
      exec_taken rfl hready hport rfl h
    have hmay : ∀ x f, x.mayHold seq f ↔ readable x f := fun x f => by
      rw [Block.mayHold, Block.readable_iff]
    refine ⟨fun h => hanswer _ _ (cmdArchiveRead_of_pending hpos h), fun hqueue =>
      ⟨fun h => hanswer _ _ (cmdArchiveRead_of_erasing hpos hqueue h), fun hidle => ?_⟩⟩
    have hcmd := cmdArchiveRead_of_idle hpos hqueue hidle
    refine ⟨fun hle => hanswer _ _ (hcmd.trans (if_pos hle)), fun hlt hnone => hanswer _ _ ?_,
      fun b x f hlt hx hread hothers => ?_⟩
    · rw [hcmd, if_neg (by omega)]
      exact State.findRecord_of_none fun x hx f h => hnone x hx f ((hmay x f).mp h)
    · intro passed other
      have hchoose := Plane.choose_eq_some hx ((hmay x f).mpr hread)
        (fun j y g hj hy hg => hothers j y g hj hy ((hmay y g).mp hg))
      rw [if_neg (by omega)] at hcmd
      have hskip : ∀ n bs, x.voidPage = some n ∨ pageBlank bs = true ↔ passed n bs := fun n bs => by
        rw [Block.voidPage_eq_some]
      have hpassed : ∀ n, n ≤ 30 → passed n (readPage s.arch.mem p b n) ∨ other (readPage s.arch.mem p b n) →
          pagePassed seq x.voidPage n (readPage s.arch.mem p b n) := fun n _ h => h.imp_left (hskip _ _).mpr
      refine ⟨fun hall => hanswer _ _ (hcmd.trans ?_), fun n hn hbefore => ?_⟩
      · refine State.findRecord_of_unfound hchoose (searchPages_of_passed fun m bs hm => ?_)
        have hlt : m < 31 := by
          have := (List.getElem?_eq_some_iff.mp hm).1
          rwa [blockPages_length] at this
        obtain rfl := Option.some.inj ((blockPages_getElem? hlt).symm.trans hm)
        exact hpassed m (by omega) (hall m (by omega))
      · intro bs hnot
        have hreach := searchPages_reach (seq := seq) (void := x.voidPage)
          (blockPages_getElem? (m := s.arch.mem) (p := p) (b := b) (n := n) (by omega))
          (fun m cs hm hcs => by
            obtain rfl := Option.some.inj ((blockPages_getElem? (by omega)).symm.trans hcs)
            exact hpassed m (by omega) (hbefore m hm))
          (fun h => hnot ((hskip n bs).mp h))
        refine ⟨fun hne hvalid hhigher => hanswer _ _ ?_, fun heq hvalid => hanswer _ _ ?_,
          fun heq hvalid => hanswer _ _ ?_⟩
        · rw [if_neg hne, if_pos ⟨hvalid, hhigher⟩] at hreach
          exact hcmd.trans (State.findRecord_of_unfound hchoose hreach)
        · rw [if_pos heq] at hreach
          rw [hcmd, State.findRecord_of_found hchoose hreach]
          simp only [okay, foundFields]
          rw [if_pos hvalid]
          simp only [heq, bodyNumber, List.drop_zero, List.cons_append, List.nil_append, bs]
          rfl
        · rw [if_pos heq] at hreach
          rw [hcmd, State.findRecord_of_found hchoose hreach]
          simp only [okay, foundFields]
          rw [if_neg (Bool.eq_false_iff.mp hvalid)]
  · have hgate : sessionTakes (.archiveExported seq) s.hall.session = true := by simp [sessionTakes, hsession]
    intro answers
    have hanswer : ∀ r, cmdArchiveExported seq s = refuse s r → answers r := fun r h =>
      exec_taken rfl hready ⟨rfl, rfl, rfl⟩ hgate h
    refine ⟨fun h => hanswer _ (cmdArchiveExported_of_range h), fun hlo hhi => ?_⟩
    have hcmd := cmdArchiveExported_of_inRange hlo hhi
    refine ⟨fun h => hanswer _ (hcmd.trans (if_pos (by simpa using h))), fun hqueue => ?_⟩
    have hnone : ¬ s.arch.queue.any (fun r => r.seq ≤ seq) = true := by simpa using hqueue
    refine ⟨fun hfull => hanswer _ ?_, fun hroom => ?_⟩
    · rw [hcmd, if_neg hnone, if_pos (by rw [s.arch.canTake_iff]; omega)]
    · rw [if_neg hnone, if_neg (by rw [s.arch.canTake_iff]; omega)] at hcmd
      have hoffer := State.offer_of_room (s.mapArch (fun a => { a with exported := seq })) .exportMark
        [⟨4, seq⟩, s.sessionField, s.timeField] s.hall.time hroom
      exact exec_taken rfl hready ⟨rfl, rfl, rfl⟩ hgate
        (hcmd.trans (congrArg (okay · [⟨4, seq⟩, ⟨4, s.arch.seqCounter⟩]) hoffer.symm))
  · have hgate : sessionTakes (.archiveErase plane b) s.hall.session = true := by simp [sessionTakes, hsession]
    have hcmd := cmdArchiveErase_of_block (planeOfNat_of_mem hplane) hx
    intro answers
    have hanswer : ∀ r, cmdArchiveErase plane b s = refuse s r → answers r := fun r h =>
      exec_taken rfl hready ⟨rfl, rfl, rfl⟩ hgate h
    refine ⟨fun h => hanswer _ (hcmd.trans (if_pos h)), fun hstate hkept => hanswer _ ?_, fun hstate hbelow => ?_⟩
    · obtain ⟨h, hh, hle⟩ := hkept
      rw [hcmd, if_neg (by simp [hstate]), if_pos (by simp [hh, hle])]
    · have hexported : ¬ x.highest.any (fun h => s.arch.exported ≤ h) = true := by
        cases hh : x.highest with
        | none => simp
        | some h => simpa using hbelow h hh
      rw [if_neg (by simp [hstate]), if_neg hexported] at hcmd
      refine ⟨fun herasing => hanswer _ (hcmd.trans (if_pos (Plane.findBlock_isSome.mpr herasing))), fun hnone => ?_⟩
      have hidle : ¬ ((s.arch.plane p).findBlock .erasing).isSome = true := by
        rw [Plane.findBlock_isSome]
        rintro ⟨y, hy, hys⟩
        exact hnone y hy hys
      rw [if_neg hidle] at hcmd
      have hset : (s.arch.plane p).mapBlock b (fun y => { y with state := .erasing }) =
          { s.arch.plane p with blocks := (s.arch.plane p).blocks.set b { x with state := .erasing } } := by
        rw [Plane.mapBlock, List.modify_eq_set_of_getElem? hx]
      simp only [State.mapPlane, State.mapArch, hset] at hcmd
      exact exec_taken rfl hready ⟨rfl, rfl, rfl⟩ hgate hcmd

end Sys2Proof.Machine
end

section
/-! SUPPORT. Scoring begun and ended, and a result queued (R126, R139 to R141, R182). -/

namespace Sys2Proof.Machine

/-! ## The responses of a slot (R131) -/

/-- With no key twice, the entry of a key is the one found. -/
theorem find?_of_key {α : Type} {l : List (Nat × α)} (hl : l.Pairwise (fun a b => a.1 ≠ b.1)) {g : Nat × α}
    (hg : g ∈ l) : l.find? (fun a => a.1 == g.1) = some g := by
  induction l with
  | nil => exact absurd hg List.not_mem_nil
  | cons a l ih =>
    obtain ⟨ha, hl⟩ := List.pairwise_cons.mp hl
    obtain rfl | hg := List.mem_cons.mp hg
    · exact List.find?_cons_of_pos (by simp)
    · rw [List.find?_cons_of_neg (by simpa using ha g hg)]
      exact ih hl hg

theorem Slot.responses_eq {y : Slot} {rs : List (List Response)} (hlen : rs.length = y.pageCount)
    (hpages : ∀ n r, rs[n]? = some r → (n + 1, r) ∈ y.pages) (hkeys : y.pages.Pairwise (fun a b => a.1 ≠ b.1)) :
    y.responses = rs.flatten := by
  rw [Slot.responses]
  congr 1
  refine List.ext_getElem (by simp [hlen]) fun n _ hn => ?_
  have hfind := find?_of_key hkeys (hpages n _ (List.getElem?_eq_getElem hn))
  simp only [List.getElem_map, List.getElem_range]
  rw [hfind]
  rfl

/-! ## The room for a RESULT record (R147) -/

theorem Archive.canTakeResult_iff (a : Archive) :
    a.canTakeResult = true ↔ a.queue.length < 32 ∧ a.queue.countP (fun r => decide (r.kind = .result)) < 24 := by
  rw [Archive.canTakeResult, Bool.and_eq_true, Archive.results, ← List.countP_eq_length_filter]
  exact and_congr decide_eq_true_iff decide_eq_true_iff

section Scoring
variable {s : State}

theorem State.takeSlot_of_head {k : Nat} {ks : List Nat} {y : Slot} {x : Sitting} (hjob : s.marking.job = none)
    (horder : s.marking.order = k :: ks) (hy : s.marking.slots[k]? = some y) (hx : s.sitting? y.sitting = some x) :
    s.takeSlot = { s with marking := { s.marking with order := ks, job := some ⟨k, scoreSlot x y⟩ } } := by
  simp only [State.takeSlot, hjob, horder, hy, hx]

theorem State.releaseSlot_of_room {k : Nat} {r : SheetResult} (hwait : s.marking.waiting = [])
    (hroom : s.arch.canTakeResult = true) : s.releaseSlot k r = s.queueResult k r := if_pos ⟨hwait, hroom⟩

theorem State.releaseSlot_of_full {k : Nat} {r : SheetResult}
    (h : ¬ (s.marking.waiting = [] ∧ s.arch.canTakeResult = true)) :
    s.releaseSlot k r =
      let v := s.mapSlot k (fun y => { y with state := .waiting, result := some r })
      { v with marking := { v.marking with waiting := v.marking.waiting ++ [k] } } := if_neg h

theorem State.serveWaiting_of_head {k : Nat} {ks : List Nat} {y : Slot} {r : SheetResult}
    (hwait : s.marking.waiting = k :: ks) (hy : s.marking.slots[k]? = some y) (hr : y.result = some r) :
    s.serveWaiting =
      if s.arch.canTakeResult then { s with marking := { s.marking with waiting := ks } }.queueResult k r else s := by
  simp only [State.serveWaiting, hwait, hy, Option.bind_some, hr]

end Scoring

/-- Settles O49. -/
theorem sheetsScored : Obligations.SheetsScored := by
  unfold Obligations.SheetsScored
  refine ⟨fun s k ks y x hjob horder hy hx => congrArg _ (State.takeSlot_of_head hjob horder hy hx),
    fun y rs hlen hpages hkeys => Slot.responses_eq hlen hpages hkeys, fun s j hjob => ?_,
    fun s k ks y r hwait hy hr => ?_⟩
  · intro u room
    refine ⟨(u.releaseSlot j.slot j.working).takeSlot, ?_, fun hroom => ?_, fun hfull => ?_⟩
    · have harm : exec .scoringEnd s = execScoringEnd s := rfl
      rw [harm]
      simp only [execScoringEnd, hjob]
      rfl
    · rw [State.releaseSlot_of_room (s := u) hroom.1 (u.arch.canTakeResult_iff.mpr hroom.2)]
      rfl
    · rw [State.releaseSlot_of_full (s := u) fun h => hfull ⟨h.1, u.arch.canTakeResult_iff.mp h.2⟩]
      rfl
  · have hserve := State.serveWaiting_of_head hwait hy hr
    refine ⟨fun hroom => ?_, fun hfull => ?_⟩
    · rw [if_pos (s.arch.canTakeResult_iff.mpr hroom)] at hserve
      exact congrArg _ hserve
    · rw [if_neg fun h => hfull (s.arch.canTakeResult_iff.mp h)] at hserve
      exact congrArg _ hserve

/-! ## The outcome list packed (R182) -/

/-- The bits of a byte gathered from eight of them. -/
theorem byteBits_ofBits (a b c d e f g h : Bool) :
    byteBits (BitVec.ofNat 8 ([a, b, c, d, e, f, g, h].foldl (fun n x => 2 * n + (if x then 1 else 0)) 0)) =
      [a, b, c, d, e, f, g, h] := by
  revert a b c d e f g h
  decide

theorem byteAt_eq (bits : List Bool) (i : Nat) :
    byteAt bits i = ((List.range 8).map (fun k => bits.getD (i + k) false)).foldl
      (fun n x => 2 * n + (if x then 1 else 0)) 0 := by
  rw [byteAt, List.foldl_map]

theorem byteBits_byteAt (bits : List Bool) (i : Nat) :
    byteBits (BitVec.ofNat 8 (byteAt bits i)) = (List.range 8).map (fun k => bits.getD (i + k) false) := by
  rw [byteAt_eq]
  exact byteBits_ofBits ..

theorem foldBits_lt (a b c d e f g h : Bool) :
    [a, b, c, d, e, f, g, h].foldl (fun n x => 2 * n + (if x then 1 else 0)) 0 < 256 := by
  revert a b c d e f g h
  decide

theorem byteAt_lt (bits : List Bool) (i : Nat) : byteAt bits i < 256 := by
  rw [byteAt_eq]
  exact foldBits_lt ..

/-- Runs of eight laid end to end. -/
theorem flatten_range_eight {α : Type} (f : Nat → α) (m : Nat) :
    ((List.range m).map (fun j => (List.range 8).map (fun k => f (8 * j + k)))).flatten = (List.range (8 * m)).map f := by
  induction m with
  | zero => rfl
  | succ m ih =>
    rw [List.range_succ (n := m), List.map_append, List.flatten_append, ih, Nat.mul_succ, List.range_add, List.map_append]
    simp [List.map_map, Function.comp_def]

/-- A run of bits, and the places past its end. -/
theorem map_getD_range {bits : List Bool} {n : Nat} (h : bits.length ≤ n) :
    (List.range n).map (fun i => bits.getD i false) = bits ++ List.replicate (n - bits.length) false := by
  refine List.ext_getElem (by simp; omega) fun i hi _ => ?_
  by_cases hlt : i < bits.length
  · simp [List.getElem_append_left hlt, hlt]
  · simp [List.getElem_append_right (Nat.not_lt.mp hlt), Nat.not_lt.mp hlt]

/-- The outcome bits of a sheet (R182). -/
def outcomeBits (os : List ItemOutcome) : List Bool := (os.map (fun o => natBits 3 (ItemOutcome.code o))).flatten

theorem outcomeBits_length (os : List ItemOutcome) : (outcomeBits os).length = 3 * os.length := by
  induction os with
  | nil => rfl
  | cons o os ih =>
    have hcons : outcomeBits (o :: os) = natBits 3 (ItemOutcome.code o) ++ outcomeBits os := rfl
    have hthree : (natBits 3 (ItemOutcome.code o)).length = 3 := rfl
    rw [hcons, List.length_append, ih, hthree, List.length_cons]
    omega

/-- The bytes an outcome list is packed in. -/
def packedBytes (os : List ItemOutcome) : List Byte :=
  (List.range ((3 * os.length + 7) / 8)).map (fun j => BitVec.ofNat 8 (byteAt (outcomeBits os) (8 * j)))

theorem packedBytes_length (os : List ItemOutcome) : (packedBytes os).length = (3 * os.length + 7) / 8 := by
  simp [packedBytes]

theorem packOutcomes_eq (os : List ItemOutcome) : packOutcomes os = (packedBytes os).map (fun v => ⟨1, v.toNat⟩) := by
  rw [packedBytes, List.map_map]
  refine List.map_congr_left fun j _ => ?_
  have hlt := byteAt_lt (outcomeBits os) (8 * j)
  simp only [Function.comp_def, BitVec.toNat_ofNat, Nat.mod_eq_of_lt hlt]
  rfl

/-- The packed bytes hold the outcome bits, and no set bit after them. -/
theorem packedBytes_bits (os : List ItemOutcome) :
    ((packedBytes os).map byteBits).flatten =
      outcomeBits os ++ List.replicate (8 * (packedBytes os).length - (outcomeBits os).length) false := by
  rw [packedBytes_length, ← map_getD_range (by rw [outcomeBits_length]; omega), ← flatten_range_eight, packedBytes,
    List.map_map]
  congr 1
  exact List.map_congr_left fun j _ => byteBits_byteAt _ _

/-! ## A result queued (R141) -/

section QueueResult
variable {s : State} {k : Nat} {r : SheetResult} {y : Slot} {c : Cand}

/-- The state after a result is queued, before its slot is freed. -/
def State.resultFiled (s : State) (r : SheetResult) (y : Slot) (c : Cand) : State :=
  ((((s.enqueue .result (s.resultBody c y r (c.version + 1))).mapCand y.cand (fun d =>
    { d with version := c.version + 1
             summary := some { script := y.script, version := c.version + 1, seq := s.arch.seqCounter
                               batch := s.marking.batch.number, reported := r.reported, standing := r.standing
                               flags := resultFlags s.marking.batch r } })).mapEntry y.script
    (fun e => { e with state := .marked })).mapBatch (fun b => b.countResult r.clamped)).notify .k
      (.sheetScored y.script c.number y.sitting s.marking.batch.number (c.version + 1) s.arch.seqCounter r.reported
        r.standing (resultFlags s.marking.batch r) r.invalid s.hall.time)

theorem State.queueResult_eq (hy : s.marking.slots[k]? = some y) (hc : s.cand? y.cand = some c) :
    s.queueResult k r = (s.resultFiled r y c).mapSlot k (fun _ => {}) := by
  simp only [State.queueResult, hy, hc]
  rfl

theorem State.resultFiled_arch :
    (s.resultFiled r y c).arch = (s.enqueue .result (s.resultBody c y r (c.version + 1))).arch := rfl

theorem State.notify_port (s : State) (p q : Port) (n : Notice) :
    (s.notify p n).port q = if q = p then (s.port p).notify n else s.port q := by
  unfold State.notify State.mapPort State.port
  split
  · next h => subst h; exact Links.port_set ..
  · next h => exact Links.port_set_of_ne _ _ h

/-- The ports after a result is queued: G may have the plane's owed notice, K has SHEET_SCORED. -/
theorem State.resultFiled_port (p : Port) :
    (s.resultFiled r y c).port p =
      if p = .k then ((s.enqueue .result (s.resultBody c y r (c.version + 1))).port .k).notify
        (.sheetScored y.script c.number y.sitting s.marking.batch.number (c.version + 1) s.arch.seqCounter r.reported
          r.standing (resultFlags s.marking.batch r) r.invalid s.hall.time)
      else (s.enqueue .result (s.resultBody c y r (c.version + 1))).port p :=
  State.notify_port ..

end QueueResult

theorem State.enqueue_port_of_ne {s : State} {kind : RecordKind} {body : List Field} {now : Nat} {p : Port}
    (hp : p ≠ .g) : (s.enqueue kind body now).port p = s.port p := by
  rw [State.port, State.enqueue_links]
  dsimp only
  split
  · exact Links.port_set_of_ne _ _ hp
  · rfl

theorem State.enqueue_port_g {s : State} {kind : RecordKind} {body : List Field} {now : Nat} :
    (s.enqueue kind body now).port .g =
      let old := s.arch.plane (planeOf s.arch.seqCounter)
      if old.stallAlertDue = true ∧ old.stalled = true then
        (s.port .g).notify (.archiveAlert (.stalled (planeNo (planeOf s.arch.seqCounter))
          (old.blocks.countP (fun x => decide (x.state = .retired)))) now)
      else s.port .g := by
  rw [State.port, State.enqueue_links]
  dsimp only
  rw [Plane.countBlocks_eq]
  split
  · exact Links.port_set ..
  · rfl

/-- Settles O50: every part of the next state is read off the one equation of `State.queueResult`. -/
theorem resultQueued : Obligations.ResultQueued := by
  unfold Obligations.ResultQueued
  intro s k r y c hy hc t b flags bits
  have ht : t = (s.resultFiled r y c).mapSlot k (fun _ => {}) := State.queueResult_eq hy hc
  have hsame := s.enqueue_same .result (s.resultBody c y r (c.version + 1)) s.hall.time
  have harch := s.enqueue_arch .result (s.resultBody c y r (c.version + 1)) s.hall.time
  have htarch : t.arch = (s.enqueue .result (s.resultBody c y r (c.version + 1))).arch := by rw [ht]; rfl
  have htport : ∀ p, t.port p = (s.resultFiled r y c).port p := fun p => by rw [ht]; rfl
  obtain ⟨hmem, hqueue, hseq, hstored, hexported, hlost, htorn, hscan, -⟩ := harch.fields
  have hhall : t.hall = { s.hall with cands := s.hall.cands.modify y.cand (fun d =>
      { d with version := c.version + 1
               summary := some ⟨y.script, c.version + 1, s.arch.seqCounter, b.number, r.reported, r.standing, flags⟩ }) } := by
    rw [ht, ← hsame.hall]
    rfl
  have hmarking : t.marking =
      { s.marking with batch := b.countResult r.clamped, slots := s.marking.slots.modify k (fun _ => {}) } := by
    simp only [ht, b, ← hsame.marking]
    rfl
  refine ⟨?_, fun j hj => ?_, ⟨packedBytes r.outcomes, packedBytes_length _, packedBytes_bits _, ?_⟩, ?_, ?_, ?_, ?_, ?_,
    ?_, fun j hj => ?_, ?_, ?_, ?_, ?_, ?_, ?_, fun d => ?_, ?_⟩
  · rw [State.cand?, hhall, List.getElem?_modify_eq]
    exact (congrArg _ hc).trans rfl
  · rw [State.cand?, hhall, List.getElem?_modify_ne _ _ (Ne.symm hj)]
    rfl
  · rw [htarch, hqueue, ← packOutcomes_eq]
    rfl
  · rw [htarch, hseq]; rfl
  · rw [htarch, hlost]; rfl
  · rw [ht]
    exact congrArg (fun l : List Custody => l.map _) hsame.custody
  · rw [hmarking]
    rfl
  · rw [htport, State.resultFiled_port, if_pos rfl, State.enqueue_port_of_ne (by decide)]
    rfl
  · rw [hmarking, List.getElem?_modify_eq, hy]
    rfl
  · rw [hmarking, List.getElem?_modify_ne _ _ (Ne.symm hj)]
  · rw [hhall]
  · rw [ht]; exact hsame.alloc
  · rw [ht]; exact hsame.line
  · rw [ht]; exact hsame.clock
  · rw [hmarking]
  · rw [ht]; exact hsame.pending
  · rw [htport, State.resultFiled_port, if_neg (by simp), State.enqueue_port_of_ne (by simp)]
  · intro p old
    have hplane := s.enqueue_plane .result (s.resultBody c y r (c.version + 1)) s.hall.time
    have hpipe : PipeOnly old ((s.pumped .result (s.resultBody c y r (c.version + 1))).plane p) := by
      have := (s.queued .result (s.resultBody c y r (c.version + 1))).pump_pipe p
      rwa [s.queued_plane] at this
    obtain ⟨hblocks, hprev, hcur, hstalled, -, hbegun⟩ := hpipe.fields
    have htplane : t.arch.plane p = { (s.pumped .result (s.resultBody c y r (c.version + 1))).plane p with
        stallAlertDue := false } := by rw [htarch]; exact hplane
    rw [htplane]
    refine ⟨htarch ▸ hmem, htarch ▸ hstored, htarch ▸ hexported, htarch ▸ htorn, htarch ▸ hscan, fun q hq => ?_, hblocks,
      hstalled, hprev, hcur, hbegun, ?_⟩
    · rw [htarch]
      exact (harch.plane hq).trans (s.queued_plane _ _ q)
    · rw [htport, State.resultFiled_port, if_neg (by decide)]
      exact State.enqueue_port_g

end Sys2Proof.Machine
end

section
/-! SUPPORT. REMARK and FINALISE (R142, R143): their tests in order, and the counts of a FINALISE. -/

namespace Sys2Proof.Machine

theorem scriptOk_of_inRange {t : Nat} (hlo : 1 ≤ t / 10000000) (hhi : t ≤ 99999999) : scriptOk t = true := by
  have hdigit : t / 10000000 ≤ 9 := by omega
  simp [scriptOk, leadingDigit, hlo, hdigit]

section Remark
variable {s : State} {t i : Nat} {e : Custody} {c : Cand} {x : Sitting} {m : Summary}

/-- A MARKED entry of a candidate whose sitting is not FINAL is judged by its summary's record. -/
theorem cmdRemark_of_marked (hlo : 1 ≤ t / 10000000) (hhi : t ≤ 99999999) (he : s.entry? t = some e)
    (hstate : e.state = .marked) (hi : e.cand = some i) (hc : s.cand? i = some c)
    (hx : s.sitting? c.sitting = some x) (hopen : x.state ≠ .final) :
    cmdRemark t s =
      if s.resultPending c then refuse s .pending
      else okay (s.mapEntry t (fun x => { x with state := .returned, remarks := min 255 (e.remarks + 1) }))
        [⟨4, c.number⟩, ⟨1, min 255 (e.remarks + 1)⟩, ⟨4, c.version⟩] := by
  have hfinal : s.inFinal c = false := by simp [State.inFinal, hx, hopen]
  rw [cmdRemark, if_neg (by simp [scriptOk_of_inRange hlo hhi])]
  simp only [he, hi, Option.bind_some, hc]
  rw [if_neg (by simp [hstate]), if_neg (by simp [hfinal])]

theorem State.resultPending_iff (hm : c.summary = some m) :
    s.resultPending c = true ↔ ∃ r ∈ s.arch.queue, r.kind = .result ∧ r.seq = m.seq := by
  simp [State.resultPending, hm]

end Remark

/-! ## The counts of a FINALISE (R143) -/

section FinalCounts
variable (s : State) (n : Nat)

/-- A SHEET entry that names a candidate of a sitting, with a test of the candidate. -/
def State.sheetOf (e : Custody) (q : Cand → Bool) : Bool :=
  decide (e.kind = .sheet) && e.cand.any (fun i => (s.cand? i).any (fun c => c.sitting == n && q c))

/-- A count over the sheets of a sitting, as a count over the custody list. -/
theorem State.length_filter_sheetsOf (q : Custody → Cand → Bool) :
    ((s.sheetsOf n).filter (fun p => q p.1 p.2)).length = s.custody.countP (fun e => s.sheetOf n e (q e)) := by
  rw [← List.countP_eq_length_filter, State.sheetsOf, List.countP_filterMap]
  refine List.countP_congr fun e _ => ?_
  cases hk : e.kind <;> cases hi : e.cand <;> simp [State.sheetOf, hk, hi]
  next i => cases hc : s.cand? i <;> simp; split <;> simp_all

theorem State.sheets_inState (v : TagState) :
    ((s.sheetsOf n).filter (fun p => decide (p.1.state = v))).length =
      s.custody.countP (fun e => s.sheetOf n e (fun _ => true) && decide (e.state = v)) := by
  rw [s.length_filter_sheetsOf n (fun e _ => decide (e.state = v))]
  refine List.countP_congr fun e _ => ?_
  by_cases hv : e.state = v <;> simp [State.sheetOf, hv]

theorem State.sheets_stand (v : Standing) :
    (((s.sheetsOf n).filter (fun p => decide (p.1.state = .marked))).filter
      (fun p => p.2.summary.any (fun m => decide (m.standing = v)))).length =
      s.custody.countP (fun e => decide (e.state = .marked) &&
        s.sheetOf n e (fun c => c.summary.any (fun m => decide (m.standing = v)))) := by
  rw [List.filter_filter, s.length_filter_sheetsOf n
    (fun e c => c.summary.any (fun m => decide (m.standing = v)) && decide (e.state = .marked))]
  refine List.countP_congr fun e _ => ?_
  by_cases hv : e.state = .marked <;> simp [State.sheetOf, hv]

end FinalCounts

section Finalise
variable {s : State} {n : Nat} {x : Sitting}

theorem State.slotInUse_iff :
    s.slotInUse n = true ↔ ∃ y ∈ s.marking.slots, y.state ≠ .free ∧ y.sitting = n := by
  simp [State.slotInUse]

/-- A CLOSED sitting is judged by the slots. -/
theorem cmdFinalise_of_closed (hlo : 1 ≤ n) (hhi : n ≤ 12) (hx : s.sitting? n = some x) (hstate : x.state = .closed) :
    cmdFinalise n s =
      if s.slotInUse n then refuse s .state
      else okay ((s.mapSitting n (fun y => { y with state := .final })).offer .sittingFinal
        ([s.sessionField, ⟨1, n⟩] ++ s.finalCounts n ++ [s.timeField])) (s.finalCounts n) := by
  rw [cmdFinalise, if_neg (by simp [sittingOk_of_inRange hlo hhi])]
  simp only [hx]
  rw [if_neg (by simp [hstate])]

end Finalise

/-- Settles O51. -/
theorem remarkedAndFinalised : Obligations.RemarkedAndFinalised := by
  unfold Obligations.RemarkedAndFinalised
  refine ⟨fun tag t i e c x m s hready hsession hlo hhi he hstate hi hc hx hopen hm => ?_,
    fun tag n x s hready hsession hlo hhi hx hstate => ?_⟩
  · have hgate : sessionTakes (.remark t) s.hall.session = true := by simp [sessionTakes, hsession]
    have hcmd := cmdRemark_of_marked hlo hhi he hstate hi hc hx hopen
    intro waits
    refine ⟨fun hwaits => exec_taken rfl hready ⟨rfl, rfl, rfl⟩ hgate
      (hcmd.trans (if_pos ((State.resultPending_iff hm).mpr hwaits))), fun hnot => ?_⟩
    intro n
    have hn : min 255 (e.remarks + 1) = n := by simp only [n]; split <;> omega
    rw [if_neg fun h => hnot ((State.resultPending_iff hm).mp h), hn] at hcmd
    exact exec_taken rfl hready ⟨rfl, rfl, rfl⟩ hgate hcmd
  · have hgate : sessionTakes (.finalise n) s.hall.session = true := by simp [sessionTakes, hsession]
    have hcmd := cmdFinalise_of_closed hlo hhi hx hstate
    refine ⟨fun hslot => exec_taken rfl hready ⟨rfl, rfl, rfl⟩ hgate
      (hcmd.trans (if_pos (State.slotInUse_iff.mpr hslot))), fun hfree => ?_⟩
    intro sheet inState stands counts
    have hcounts : s.finalCounts n = counts := by
      simp only [State.finalCounts, State.sheets_inState, State.sheets_stand]
      rfl
    have hnone : ¬ s.slotInUse n = true := by
      rw [State.slotInUse_iff]
      rintro ⟨y, hy, hused, hn⟩
      exact (hfree y hy).elim hused (fun h => h hn)
    rw [if_neg hnone, hcounts] at hcmd
    exact exec_taken rfl hready ⟨rfl, rfl, rfl⟩ hgate hcmd

end Sys2Proof.Machine
end

section
/-! SUPPORT. Layouts and keys (R113 to R118): what the four key commands answer, test by test. -/

namespace Sys2Proof.Machine

/-! ## LAYOUT_DEFINE (R114) -/

theorem cmdLayoutDefine_of_empty {s : State} {n : Nat} {counts : List Nat} {x : Sitting} (hlo : 1 ≤ n) (hhi : n ≤ 12)
    (hx : s.sitting? n = some x) (hopen : x.state ≠ .final) (hkey : x.keyState = .empty) (hlen1 : 1 ≤ counts.length)
    (hlen4 : counts.length ≤ 4) (hcounts : ∀ k ∈ counts, 1 ≤ k ∧ k ≤ 50) (hsum : counts.sum ≤ 200) :
    cmdLayoutDefine n counts.length counts s =
      okay (s.mapSitting n (fun y => { y with layout := some counts })) [⟨1, counts.sum⟩] := by
  have hall : counts.all (fun n => 1 ≤ n && n ≤ 50) = true :=
    List.all_eq_true.mpr fun k hk => by simpa using hcounts k hk
  have hrange : layoutInRange n counts.length counts = true := by
    simp only [layoutInRange, sittingOk_of_inRange hlo hhi, hlen1, hlen4, hall, hsum, beq_self_eq_true, decide_true,
      Bool.and_true]
  rw [cmdLayoutDefine, if_neg (by simp [hrange])]
  simp only [hx]
  rw [if_neg (by simp [hopen, hkey])]
  rfl

/-! ## The option set of a KEY_ITEM (R115) -/

/-- A set of options below 2 to the option count marks none beyond it. -/
theorem keyed_within {n m : Nat} (hn : n ≤ 8) (hm : m < 2 ^ n) : BitVec.ofNat 8 m &&& beyondOptions n = 0#8 := by
  have hbeyond : 256 - 2 ^ n = 2 ^ n * (2 ^ (8 - n) - 1) := by
    rw [Nat.mul_sub, ← Nat.pow_add, Nat.add_sub_cancel' hn, Nat.mul_one]
  refine BitVec.eq_of_getLsbD_eq fun i hi => ?_
  rw [BitVec.getLsbD_and, beyondOptions, hbeyond, BitVec.getLsbD_ofNat, BitVec.getLsbD_ofNat, Nat.testBit_two_pow_mul]
  by_cases hin : n ≤ i
  · have hbit : m.testBit i = false := Nat.testBit_lt_two_pow (lt_of_lt_of_le hm (Nat.pow_le_pow_right (by omega) hin))
    simp [hbit]
  · simp [hin]

/-- A set of options that is not empty marks one. -/
theorem one_le_markCount {m : Nat} (hpos : 0 < m) (hm : m < 256) : 1 ≤ markCount (BitVec.ofNat 8 m) := by
  by_contra hzero
  have hnil : (List.range 8).filter (fun i => (BitVec.ofNat 8 m).getLsbD i) = [] :=
    List.length_eq_zero_iff.mp (by simpa [markCount] using hzero)
  have hbits : BitVec.ofNat 8 m = 0#8 := by
    refine BitVec.eq_of_getLsbD_eq fun i hi => ?_
    have := List.filter_eq_nil_iff.mp hnil i (List.mem_range.mpr hi)
    simpa using this
  have hval := congrArg BitVec.toNat hbits
  rw [BitVec.toNat_ofNat, Nat.mod_eq_of_lt hm] at hval
  simp at hval
  omega

/-- A power of two marks one option. -/
theorem markCount_two_pow : ∀ j : Fin 8, markCount (BitVec.ofNat 8 (2 ^ j.val)) = 1 := by decide

/-- What KEY_ITEM's statement asks of the fields it reads for the kind, and the entry they make (R115, R116). -/
def KeyItemFits (f : KeyItemFields) (e : ItemEntry) : Prop :=
  (2 ≤ f.optionCount ∧ f.optionCount ≤ 8 ∧
    ((f.kind = 0 ∧ (∃ j, j < f.optionCount ∧ f.keyed = 2 ^ j) ∧
        e = ⟨.single, f.weight, f.optionCount, BitVec.ofNat 8 f.keyed, 0, 0, 0⟩)
      ∨ (f.kind = 1 ∧ 0 < f.keyed ∧ f.keyed < 2 ^ f.optionCount ∧
        e = ⟨.multi, f.weight, f.optionCount, BitVec.ofNat 8 f.keyed, 0, 0, 0⟩)))
  ∨ (f.kind = 2 ∧ f.numericKey < 10 ^ f.columns ∧ f.tolerance ≤ 999999 ∧ 1 ≤ f.columns ∧ f.columns ≤ 6 ∧
    e = ⟨.numeric, f.weight, 0, 0#8, f.numericKey, f.tolerance, f.columns⟩)

/-- Such fields pass both RANGE tests of their kind and make that entry. -/
theorem KeyItemFits.kind {f : KeyItemFields} {e : ItemEntry} (h : KeyItemFits f e) (hlo : 1 ≤ f.sitting)
    (hhi : f.sitting ≤ 12) (hitem1 : 1 ≤ f.item) (hitem : f.item ≤ 200) (hweight : f.weight ≤ 255) :
    ∃ k, itemKindOf f.kind = some k ∧ keyItemInRange f k = true ∧ keyedOk f k = true ∧ itemEntry f k = e := by
  have hsitting := sittingOk_of_inRange hlo hhi
  obtain ⟨hopt2, hopt8, ⟨hkind, ⟨j, hj, hkeyed⟩, rfl⟩ | ⟨hkind, hpos, hlt, rfl⟩⟩ |
    ⟨hkind, hnum, htol, hcol1, hcol6, rfl⟩ := h
  · have hkeyed256 : f.keyed < 2 ^ f.optionCount := hkeyed ▸ Nat.pow_lt_pow_right (by omega) hj
    have h256 : 2 ^ f.optionCount ≤ 2 ^ 8 := Nat.pow_le_pow_right (by omega) hopt8
    have hle : f.keyed ≤ 255 := by omega
    have hone : markCount (BitVec.ofNat 8 f.keyed) = 1 := hkeyed ▸ markCount_two_pow ⟨j, by omega⟩
    refine ⟨.single, by rw [hkind]; rfl, ?_, ?_, rfl⟩
    · simp [keyItemInRange, hsitting, hitem1, hitem, hweight, hopt2, hopt8, hle]
    · simp [keyedOk, hone, keyed_within hopt8 hkeyed256]
  · have h256 : 2 ^ f.optionCount ≤ 2 ^ 8 := Nat.pow_le_pow_right (by omega) hopt8
    have hle : f.keyed ≤ 255 := by omega
    refine ⟨.multi, by rw [hkind]; rfl, ?_, ?_, rfl⟩
    · simp [keyItemInRange, hsitting, hitem1, hitem, hweight, hopt2, hopt8, hle]
    · simp [keyedOk, one_le_markCount hpos (by omega), keyed_within hopt8 hlt]
  · have h6 : 10 ^ f.columns ≤ 10 ^ 6 := Nat.pow_le_pow_right (by omega) hcol6
    have hle : f.numericKey ≤ 999999 := by omega
    refine ⟨.numeric, by rw [hkind]; rfl, ?_, ?_, rfl⟩
    · simp [keyItemInRange, hsitting, hitem1, hitem, hweight, hle, htol, hcol1, hcol6]
    · simp [keyedOk, hnum]

/-! ## KEY_ITEM (R115, R116) -/

/-- The sitting's record with an item's entry in its place. -/
def putItem (i : Nat) (e : ItemEntry) (y : Sitting) : Sitting :=
  { y with items := insertItem i e y.items, keyState := y.keyState.loaded }

theorem cmdKeyItem_of_fits {s : State} {f : KeyItemFields} {k : ItemKind} {x : Sitting} {counts : List Nat}
    (hkind : itemKindOf f.kind = some k) (hrange : keyItemInRange f k = true) (hx : s.sitting? f.sitting = some x)
    (hopen : x.state ≠ .final) (hlayout : x.layout = some counts) (hkey : x.keyState ≠ .sealed)
    (hitem : f.item ≤ counts.sum) (hkeyed : keyedOk f k = true) :
    cmdKeyItem f s = okay (s.mapSitting f.sitting (putItem f.item (itemEntry f k)))
      [⟨1, (putItem f.item (itemEntry f k) x).definedItems⟩] := by
  have hwithin : ¬ itemCount counts < f.item := Nat.not_lt.mpr hitem
  simp only [cmdKeyItem, hkind]
  rw [if_neg (by simp [hrange])]
  simp only [hx]
  rw [hlayout]
  simp only []
  rw [if_neg (by simp [hopen, hkey]), if_neg hwithin, if_neg (by simp [hkeyed])]
  rw [← hlayout]
  rfl

theorem KeyState.loaded_of_ne {k : KeyState} (h : k ≠ .sealed) : k.loaded = .loading := by
  cases k with
  | empty => rfl
  | loading => rfl
  | sealed => exact absurd rfl h

/-- A list kept where its keys pass a test finds a key that passes it. -/
theorem find?_filter_key {l : List (Nat × ItemEntry)} {q : Nat → Bool} {j : Nat} (hj : q j = true) :
    (l.filter (fun g => q g.1)).find? (fun g => g.1 == j) = l.find? (fun g => g.1 == j) := by
  rw [List.find?_filter]
  congr 1
  funext g
  by_cases hg : g.1 = j
  · simp [hg, hj]
  · simp [hg]

/-- And no key that fails it. -/
theorem find?_filter_key_none {l : List (Nat × ItemEntry)} {q : Nat → Bool} {j : Nat} (hj : q j = false) :
    (l.filter (fun g => q g.1)).find? (fun g => g.1 == j) = none := by
  rw [List.find?_eq_none]
  intro g hg
  have hq := (List.mem_filter.mp hg).2
  simp only [beq_iff_eq]
  rintro rfl
  rw [hj] at hq
  cases hq

/-- The entry found after an item is put in its place: the one put there, and every other as it was. -/
theorem putItem_item? (i : Nat) (e : ItemEntry) (y : Sitting) (j : Nat) :
    (putItem i e y).item? j = if j = i then some e else y.item? j := by
  have hfind : (insertItem i e y.items).find? (fun g => g.1 == j) =
      if j = i then some (i, e) else y.items.find? (fun g => g.1 == j) := by
    rw [insertItem, List.find?_append]
    obtain hlt | rfl | hgt := Nat.lt_trichotomy j i
    · rw [find?_filter_key (q := fun k => decide (k < i)) (by simpa using hlt), if_neg (by omega),
        List.find?_cons_of_neg (by simpa using Nat.ne_of_gt hlt),
        find?_filter_key_none (q := fun k => decide (i < k)) (by simp; omega), Option.or_none]
    · rw [find?_filter_key_none (q := fun k => decide (k < j)) (by simp), if_pos rfl,
        List.find?_cons_of_pos (by simp)]
      rfl
    · rw [find?_filter_key_none (q := fun k => decide (k < i)) (by simp; omega), if_neg (by omega),
        List.find?_cons_of_neg (by simpa using Nat.ne_of_lt hgt),
        find?_filter_key (q := fun k => decide (i < k)) (by simpa using hgt), Option.none_or]
  rw [Sitting.item?, putItem, hfind, Sitting.item?]
  split <;> rfl

/-! ## KEY_SEAL and KEY_UNSEAL (R117, R118) -/

theorem Sitting.firstMissing_eq_some {x : Sitting} {n i : Nat} (hlo : 1 ≤ i) (hhi : i ≤ n) (hi : x.item? i = none)
    (hbefore : ∀ j, 1 ≤ j → j < i → x.item? j ≠ none) : x.firstMissing n = some i := by
  have hfound : (List.range n).find? ((fun i => (x.item? i).isNone) ∘ (· + 1)) = some (i - 1) := by
    rw [List.find?_range_eq_some]
    refine ⟨?_, List.mem_range.mpr (by omega), fun j hj => ?_⟩
    · simp [Nat.sub_add_cancel hlo, hi]
    · simpa [Option.isSome_iff_ne_none] using hbefore (j + 1) (by omega) (by omega)
  rw [Sitting.firstMissing, List.find?_map, hfound]
  simp [Nat.sub_add_cancel hlo]

theorem Sitting.firstMissing_eq_none {x : Sitting} {n : Nat} (h : ∀ i, 1 ≤ i → i ≤ n → x.item? i ≠ none) :
    x.firstMissing n = none := by
  rw [Sitting.firstMissing, List.find?_eq_none]
  intro i hi
  obtain ⟨j, hj, rfl⟩ := List.mem_map.mp hi
  have hlt := List.mem_range.mp hj
  simpa using h (j + 1) (by omega) (by omega)

theorem Sitting.weightSum_eq (x : Sitting) (n : Nat) :
    x.weightSum n = ((List.range n).map (fun j => ((x.item? (j + 1)).map (fun e => e.weight)).getD 0)).sum := by
  rw [Sitting.weightSum, List.map_map]
  rfl

section Seal
variable {s : State} {n : Nat} {x : Sitting} (hlo : 1 ≤ n) (hhi : n ≤ 12) (hx : s.sitting? n = some x)
  (hopen : x.state ≠ .final)
include hlo hhi hx hopen

theorem cmdKeySeal_of_missing {i : Nat} (hkey : x.keyState = .loading)
    (hmissing : x.firstMissing (itemCount (x.layout.getD [])) = some i) :
    cmdKeySeal n s = ⟨s, .notFound, [⟨1, i⟩]⟩ := by
  rw [cmdKeySeal, if_neg (by simp [sittingOk_of_inRange hlo hhi])]
  simp only [hx, hmissing]
  exact if_neg (by simp [hopen, hkey])

theorem cmdKeySeal_of_complete {m : Nat} (hkey : x.keyState = .loading) (hm : itemCount (x.layout.getD []) = m)
    (hmissing : x.firstMissing m = none) :
    cmdKeySeal n s = if 256 * x.weightSum m = 0 then refuse s .range
      else okay (s.mapSitting n (fun y => { y with rawMax := 256 * x.weightSum m, keyState := .sealed }))
        [⟨1, m⟩, ⟨4, 256 * x.weightSum m⟩] := by
  subst hm
  rw [cmdKeySeal, if_neg (by simp [sittingOk_of_inRange hlo hhi])]
  simp only [hx, hmissing]
  exact if_neg (by simp [hopen, hkey])

theorem cmdKeyUnseal_of_sealed (hkey : x.keyState = .sealed) :
    cmdKeyUnseal n s =
      if s.hall.cands.any (fun c => c.sitting == n && decide (0 < c.version)) then refuse s .state
      else if s.slotInUse n then refuse s .state
      else okay (s.mapSitting n (fun y => { y with keyState := .loading })) := by
  rw [cmdKeyUnseal, if_neg (by simp [sittingOk_of_inRange hlo hhi])]
  simp only [hx]
  rw [if_neg (by simp [hopen, hkey])]

end Seal

/-- Settles O43. -/
theorem keysSealed : Obligations.KeysSealed := by
  unfold Obligations.KeysSealed
  intro tag n x s hready hsession hlo hhi hx hopen
  have hgate : ∀ c : Cmd, (∀ st, sessionTakes c st = (decide (st = .loading) || decide (st = .live))) →
      sessionTakes c s.hall.session = true := by
    intro c hc
    rw [hc]
    obtain h | h := hsession <;> simp [h]
  refine ⟨fun counts hkey hlen1 hlen4 hcounts hsum => ?_, fun f counts e hf hlayout hkey hitem1 hitem hitem2 hweight hfits =>
    ?_, fun counts hkey hlayout => ⟨fun i hi1 hi hnone hbefore => ?_, fun hall => ?_⟩, fun hkey => ?_⟩
  · exact exec_taken rfl hready ⟨rfl, rfl, rfl⟩ (hgate _ fun _ => rfl)
      (cmdLayoutDefine_of_empty hlo hhi hx hopen hkey hlen1 hlen4 hcounts hsum)
  · subst hf
    obtain ⟨k, hkind, hrange, hkeyed, rfl⟩ := KeyItemFits.kind hfits hlo hhi hitem1 hitem2 hweight
    refine ⟨putItem f.item (itemEntry f k), ?_, fun y hy => ⟨?_, ?_, fun j hj => ?_⟩⟩
    · have hcmd := cmdKeyItem_of_fits hkind hrange hx hopen hlayout hkey hitem hkeyed
      have hdefined : (putItem f.item (itemEntry f k) x).definedItems =
          ((putItem f.item (itemEntry f k) x).items.filter (fun g => g.1 ≤ counts.sum)).length := by
        rw [Sitting.definedItems, putItem, hlayout]
        rfl
      rw [hdefined] at hcmd
      exact exec_taken rfl hready ⟨rfl, rfl, rfl⟩ (hgate _ fun _ => rfl) hcmd
    · rw [putItem, KeyState.loaded_of_ne hy]
    · rw [putItem_item?, if_pos rfl]
    · rw [putItem_item?, if_neg hj]
  · have hmissing : x.firstMissing (itemCount (x.layout.getD [])) = some i := by
      rw [hlayout]
      exact Sitting.firstMissing_eq_some hi1 hi hnone hbefore
    exact exec_taken rfl hready ⟨rfl, rfl, rfl⟩ (hgate _ fun _ => rfl)
      (cmdKeySeal_of_missing hlo hhi hx hopen hkey hmissing)
  · have hcmd := cmdKeySeal_of_complete hlo hhi hx hopen hkey (m := counts.sum) (by rw [hlayout]; rfl)
      (Sitting.firstMissing_eq_none hall)
    intro r
    have hr : 256 * x.weightSum counts.sum = r := by
      rw [Sitting.weightSum_eq]
    rw [hr] at hcmd
    refine ⟨fun hzero => exec_taken rfl hready ⟨rfl, rfl, rfl⟩ (hgate _ fun _ => rfl) (hcmd.trans (if_pos hzero)),
      fun hpos => ?_⟩
    rw [if_neg (by omega)] at hcmd
    exact exec_taken rfl hready ⟨rfl, rfl, rfl⟩ (hgate _ fun _ => rfl) hcmd
  · intro marked slot
    have hcmd := cmdKeyUnseal_of_sealed hlo hhi hx hopen hkey
    have hmarked : s.hall.cands.any (fun c => c.sitting == n && decide (0 < c.version)) = true ↔ marked := by
      simp [marked]
    have hslot : s.slotInUse n = true ↔ slot := State.slotInUse_iff
    refine ⟨fun h => ?_, fun hm hs => ?_⟩
    · have hrefused : cmdKeyUnseal n s = refuse s .state := by
        rw [hcmd]
        by_cases hm : marked
        · rw [if_pos (hmarked.mpr hm)]
        · rw [if_neg (fun h => hm (hmarked.mp h)), if_pos (hslot.mpr (h.resolve_left hm))]
      exact exec_taken rfl hready ⟨rfl, rfl, rfl⟩ (hgate _ fun _ => rfl) hrefused
    · rw [if_neg (fun h => hm (hmarked.mp h)), if_neg (fun h => hs (hslot.mp h))] at hcmd
      exact exec_taken rfl hready ⟨rfl, rfl, rfl⟩ (hgate _ fun _ => rfl) hcmd

end Sys2Proof.Machine
end

section
/-! SUPPORT. PAGE, SHEET_DISCARD and SHEET_QUERY (R123 to R128): the checks of a page in order, and where it is
placed. -/

namespace Sys2Proof.Machine

/-! ## The fields of a page -/

/-- A page whose fields are in range (R123). -/
structure PageInRange (f : PageFields) : Prop where
  script_ge : 1 ≤ f.script / 10000000
  script_le : f.script ≤ 99999999
  flags : f.flags ≤ 1
  read : f.flags = 1 → 1 ≤ f.numberRead ∧ f.numberRead ≤ 999999999
  pageNo_ge : 1 ≤ f.pageNo
  pageNo_le : f.pageNo ≤ 4
  pageCount_ge : 1 ≤ f.pageCount
  pageCount_le : f.pageCount ≤ 4
  count_ge : 1 ≤ f.responseCount
  count_le : f.responseCount ≤ 50
  length : f.responses.length = f.responseCount
  wf : ∀ r ∈ f.responses, r.wf = true

theorem responseInRange_eq (r : Response) : responseInRange r = r.wf := by
  cases r <;> rfl

section Read
variable {f : PageFields}

theorem pageRead_of_flag (h : f.flags = 1) : pageRead f = some f.numberRead := by simp [pageRead, h]

theorem pageRead_isSome (h : f.flags ≤ 1) : (pageRead f).isSome = (f.flags == 1) := by
  obtain h | h : f.flags = 0 ∨ f.flags = 1 := by omega
  · simp [pageRead, h]
  · simp [pageRead, h]

/-- The number read agrees with the candidate's when none was read or it is the same. -/
theorem pageRead_any_ne {n : Nat} (h : f.flags ≤ 1) :
    (pageRead f).any (fun m => m != n) = true ↔ f.flags = 1 ∧ f.numberRead ≠ n := by
  obtain h | h : f.flags = 0 ∨ f.flags = 1 := by omega
  · simp [pageRead, h]
  · simp [pageRead, h]

theorem PageInRange.pageInRange (h : PageInRange f) : pageInRange f = true := by
  have hread : (f.flags == 0 || numberOk f.numberRead) = true := by
    obtain h0 | h1 : f.flags = 0 ∨ f.flags = 1 := by have := h.flags; omega
    · simp [h0]
    · obtain ⟨hlo, hhi⟩ := h.read h1
      simp [numberOk, hlo, hhi]
  have hresponses : f.responses.all responseInRange = true := by
    simp only [List.all_eq_true, responseInRange_eq]
    exact h.wf
  simp [Machine.pageInRange, scriptOk_of_inRange h.script_ge h.script_le, hread, hresponses, h.flags, h.pageNo_ge,
    h.pageNo_le, h.pageCount_ge, h.pageCount_le, h.count_ge, h.count_le, h.length]

end Read

/-! ## The layout check (R124) -/

theorem responseFits_iff (g : ItemEntry) (r : Response) :
    responseFits g r = true ↔ ((g.kind = .single ∨ g.kind = .multi) ∧ ∃ m, r = .option m)
      ∨ (g.kind = .numeric ∧ ∃ cols, r = .column g.columns cols) := by
  cases hk : g.kind with
  | single => cases r <;> simp [responseFits, hk]
  | multi => cases r <;> simp [responseFits, hk]
  | numeric =>
    cases r with
    | option m => simp [responseFits, hk]
    | malformed => simp [responseFits, hk]
    | column c cols => simp [responseFits, hk]

/-- The responses fit exactly when each one fits the entry of its item. -/
theorem Sitting.responsesFit_iff (x : Sitting) (i : Nat) (rs : List Response) :
    x.responsesFit i rs = true ↔
      ∀ j r, rs[j]? = some r → ∃ g, x.item? (i + j) = some g ∧ responseFits g r = true := by
  induction rs generalizing i with
  | nil => simp [Sitting.responsesFit]
  | cons r rs ih =>
    have hhead : (match x.item? i with | some e => responseFits e r | none => false) = true ↔
        ∃ g, x.item? i = some g ∧ responseFits g r = true := by
      cases x.item? i <;> simp
    rw [Sitting.responsesFit, Bool.and_eq_true, ih]
    constructor
    · rintro ⟨hr, hrs⟩ j q hj
      cases j with
      | zero =>
        obtain rfl : r = q := by simpa using hj
        exact hhead.mp hr
      | succ j =>
        have := hrs j q (by simpa using hj)
        rwa [Nat.add_right_comm] at this
    · intro h
      refine ⟨hhead.mpr (h 0 r rfl), fun j q hj => ?_⟩
      have := h (j + 1) q (by simpa using hj)
      rwa [Nat.add_right_comm]

/-- The layout check against a layout of one count a page. -/
theorem Sitting.pageFits_iff {x : Sitting} {f : PageFields} {counts : List Nat} (hlayout : x.layout = some counts)
    (hcount : 1 ≤ f.responseCount) :
    x.pageFits f = true ↔ f.pageCount = counts.length ∧ f.pageNo ≤ counts.length
      ∧ counts[f.pageNo - 1]? = some f.responseCount
      ∧ ∀ j r, f.responses[j]? = some r → ∃ g, x.item? (1 + (counts.take (f.pageNo - 1)).sum + j) = some g
        ∧ (((g.kind = .single ∨ g.kind = .multi) ∧ ∃ m, r = .option m)
          ∨ (g.kind = .numeric ∧ ∃ cols, r = .column g.columns cols)) := by
  have hpage : f.responseCount = counts.getD (f.pageNo - 1) 0 ↔ counts[f.pageNo - 1]? = some f.responseCount := by
    rw [List.getD_eq_getElem?_getD]
    cases counts[f.pageNo - 1]? with
    | none => simp; omega
    | some m => simpa using eq_comm
  simp only [Sitting.pageFits, hlayout, Option.getD_some, Bool.and_eq_true, beq_iff_eq, decide_eq_true_eq, hpage,
    firstItem, Sitting.responsesFit_iff, responseFits_iff, and_assoc]

/-! ## The checks in order (R123) -/

section Checks
variable {s : State} {f : PageFields}

theorem cmdPage_of_open (hf : PageInRange f) (hopen : s.marking.batch.opened = true) : cmdPage f s = pageCustody f s := by
  rw [cmdPage, if_neg (by simp [hf.pageInRange]), if_neg (by simp [hopen])]

theorem pageCustody_of_none (h : s.entry? f.script = none) : pageCustody f s = refuse s .notFound := by
  simp [pageCustody, h]

section Entry
variable {e : Custody} (he : s.entry? f.script = some e)
include he

theorem pageCustody_of_marked (h : e.state = .marked) : pageCustody f s = refuse s .alreadyMarked := by
  simp only [pageCustody, he]
  exact if_pos h

theorem pageCustody_of_unreturned (hm : e.state ≠ .marked) (h : e.kind = .booklet ∨ e.state ≠ .returned) :
    pageCustody f s = refuse s .state := by
  simp only [pageCustody, he]
  rw [if_neg hm, if_pos h]

theorem pageCustody_of_unnamed (hk : e.kind = .sheet) (hr : e.state = .returned) (hi : e.cand = none) :
    pageCustody f s = refuse s .state := by
  simp [pageCustody, he, hk, hr, hi]

variable {i : Nat} {c : Cand} (hk : e.kind = .sheet) (hr : e.state = .returned) (hi : e.cand = some i)
  (hc : s.cand? i = some c)
include hk hr hi hc

theorem pageCustody_of_uncollected (h : c.state ≠ .collected) : pageCustody f s = refuse s .state := by
  simp [pageCustody, he, hk, hr, hi, hc, h]

theorem pageCustody_of_collected {x : Sitting} (h : c.state = .collected) (hx : s.sitting? c.sitting = some x) :
    pageCustody f s = pageChecked f i c x s := by
  simp [pageCustody, he, hk, hr, hi, hc, h, hx]

end Entry

section Checked
variable {i : Nat} {c : Cand} {x : Sitting}

theorem pageChecked_of_mismatch (hf : f.flags = 1) (hne : f.numberRead ≠ c.number) :
    pageChecked f i c x s = ⟨s.mismatch f.script, .mismatch, []⟩ :=
  if_pos ((pageRead_any_ne (by omega)).mpr ⟨hf, hne⟩)

variable (hf : f.flags ≤ 1) (hread : f.flags = 1 → f.numberRead = c.number)
include hf hread

theorem pageChecked_of_identity :
    pageChecked f i c x s = if x.keyState ≠ .sealed ∨ x.state = .final then refuse s .state
      else if ¬ x.pageFits f then refuse s .layout else pagePlace f i x s :=
  if_neg (fun h => by
    obtain ⟨h1, hne⟩ := (pageRead_any_ne hf).mp h
    exact hne (hread h1))

theorem pageChecked_of_unsealed (h : x.keyState ≠ .sealed ∨ x.state = .final) :
    pageChecked f i c x s = refuse s .state := by
  rw [pageChecked_of_identity hf hread, if_pos h]

theorem pageChecked_of_sealed (hkey : x.keyState = .sealed) (hopen : x.state ≠ .final) :
    pageChecked f i c x s = if ¬ x.pageFits f then refuse s .layout else pagePlace f i x s := by
  rw [pageChecked_of_identity hf hread, if_neg (by simp [hkey, hopen])]

end Checked

/-! ## The placement (R125) -/

section Place
variable {i k : Nat} {x : Sitting} {y : Slot}

theorem State.slotOf_bind (hk : s.slotOf t = some k) (hy : s.marking.slots[k]? = some y) :
    (s.slotOf t).bind (fun k => (s.marking.slots[k]?).map (fun y => (k, y))) = some (k, y) := by
  rw [hk, Option.bind_some, hy, Option.map_some]

theorem pagePlace_of_held (hk : s.slotOf f.script = some k) (hy : s.marking.slots[k]? = some y) :
    pagePlace f i x s = if y.pages.any (fun g => g.1 == f.pageNo) then refuse s .duplicate else s.placePage k y f := by
  simp only [pagePlace, State.slotOf_bind hk hy]

theorem pagePlace_of_full (hk : s.slotOf f.script = none) (hfull : ∀ y ∈ s.marking.slots, y.state ≠ .free) :
    pagePlace f i x s = refuse s .full := by
  have hfree : s.marking.slots.findIdx? (fun y => decide (y.state = .free)) = none := by
    rw [List.findIdx?_eq_none_iff]
    simpa using hfull
  simp only [pagePlace, hk, Option.bind_none, hfree]

theorem pagePlace_of_free (hk : s.slotOf f.script = none) (hy : s.marking.slots[k]? = some y) (hfree : y.state = .free)
    (hbefore : ∀ j z, j < k → s.marking.slots[j]? = some z → z.state ≠ .free) :
    pagePlace f i x s = s.placePage k (newSlot f.script i x.number ((x.layout.getD []).length)) f := by
  have hfind : s.marking.slots.findIdx? (fun y => decide (y.state = .free)) = some k := by
    obtain ⟨hlt, rfl⟩ := List.getElem?_eq_some_iff.mp hy
    rw [List.findIdx?_eq_some_iff_getElem]
    refine ⟨hlt, by simpa using hfree, fun j hj => ?_⟩
    simpa using hbefore j _ hj (List.getElem?_eq_getElem _)
  simp only [pagePlace, hk, Option.bind_none, hfind]

/-- A page that makes the sheet whole puts the slot at the tail of the scoring order. -/
theorem State.placePage_of_whole (h : y.pages.length + 1 = y.pageCount) :
    s.placePage k y f =
      okay (let v := s.mapSlot k (fun _ => { y.hold f with state := .scoring })
        { v with marking := { v.marking with order := v.marking.order ++ [k] } })
        [⟨1, k⟩, ⟨1, y.pages.length + 1⟩, ⟨1, 2⟩] := by
  have hwhole : (y.hold f).whole = true := by simp [Slot.whole, Slot.hold, h]
  simp only [State.placePage, hwhole, if_true]
  simp [Slot.hold, SlotState.code]

theorem State.placePage_of_part (h : y.pages.length + 1 ≠ y.pageCount) :
    s.placePage k y f = okay (s.mapSlot k (fun _ => y.hold f))
      [⟨1, k⟩, ⟨1, y.pages.length + 1⟩, ⟨1, SlotState.code y.state⟩] := by
  have hwhole : (y.hold f).whole = false := by simp [Slot.whole, Slot.hold, h]
  simp only [State.placePage, hwhole, Bool.false_eq_true, if_false]
  simp [Slot.hold]

end Place
end Checks

/-- Settles O45: the checks of R123 and R124 in order, and the placement of R125. -/
theorem pagesTaken : Obligations.PagesTaken := by
  unfold Obligations.PagesTaken
  intro tag f s hready hsession hopen hs1 hs2 hflags hnum hp1 hp2 hc1 hc2 hr1 hr2 hlen hwf answers held
  have hf : PageInRange f := ⟨hs1, hs2, hflags, hnum, hp1, hp2, hc1, hc2, hr1, hr2, hlen, hwf⟩
  have taken : ∀ {t r fields}, pageCustody f s = ⟨t, r, fields⟩ →
      exec (.page .k tag f) s = .next (t.replied .k tag (.page f) r fields) := fun h =>
    exec_taken rfl hready ⟨rfl, rfl, rfl⟩ (by simp [sessionTakes, hsession]) ((cmdPage_of_open hf hopen).trans h)
  refine ⟨fun he => taken (pageCustody_of_none he), fun e he => ⟨fun h => taken (pageCustody_of_marked he h),
    fun hm h => taken (pageCustody_of_unreturned he hm h), fun hk hr hi => taken (pageCustody_of_unnamed he hk hr hi),
    fun i c hk hr hi hc => ⟨fun h => taken (pageCustody_of_uncollected he hk hr hi hc h), fun x hcol hx => ?_⟩⟩⟩
  have hchecks := pageCustody_of_collected he hk hr hi hc hcol hx
  refine ⟨fun h1 hne => ?_, fun hread => ⟨fun h => taken (hchecks.trans (pageChecked_of_unsealed hflags hread h)),
    fun counts hkey hfinal hlayout => ?_⟩⟩
  · have := taken (hchecks.trans (pageChecked_of_mismatch h1 hne))
    rw [this]
    simp only [State.mismatch, bump]
    cases hslot : s.slotOf f.script <;> rfl
  intro fits
  have hplace := hchecks.trans (pageChecked_of_sealed hflags hread hkey hfinal)
  have hfits : x.pageFits f = true ↔ fits := Sitting.pageFits_iff hlayout hr1
  refine ⟨fun h => taken (hplace.trans (if_pos (by rwa [hfits]))), fun h => ?_⟩
  rw [if_neg (by rwa [hfits, not_not])] at hplace
  have placed : ∀ k y, pagePlace f i x s = s.placePage k y f → exec (.page .k tag f) s = .next (held s k y) := by
    intro k y hpage
    have hhold : y.hold f =
        { y with pages := y.pages ++ [(f.pageNo, f.responses)], readSeen := y.readSeen || f.flags == 1 } := by
      rw [Slot.hold, pageRead_isSome hflags]
    have hanswer := hplace.trans hpage
    by_cases hwhole : y.pages.length + 1 = y.pageCount
    · rw [State.placePage_of_whole hwhole, hhold] at hanswer
      exact (taken hanswer).trans (congrArg _ (if_pos hwhole).symm)
    · rw [State.placePage_of_part hwhole, hhold] at hanswer
      exact (taken hanswer).trans (congrArg _ (if_neg hwhole).symm)
  refine ⟨fun k y hk hy => ⟨fun hdup => ?_, fun hnew => ?_⟩, fun hk hfull => taken (hplace.trans (pagePlace_of_full hk hfull)),
    fun k y hk hy hfree hbefore => ?_⟩
  · have hany : y.pages.any (fun g => g.1 == f.pageNo) = true := by simpa using hdup
    exact taken (hplace.trans ((pagePlace_of_held hk hy).trans (if_pos hany)))
  · have hany : ¬ y.pages.any (fun g => g.1 == f.pageNo) = true := by
      simp only [List.any_eq_true, beq_iff_eq, not_exists, not_and]
      exact hnew
    exact placed k y ((pagePlace_of_held hk hy).trans (if_neg hany))
  · refine placed k _ ((pagePlace_of_free hk hy hfree hbefore).trans ?_)
    rw [hlayout]
    rfl

end Sys2Proof.Machine
end

section
/-! SUPPORT. SHEET_DISCARD and SHEET_QUERY (R127, R128). -/

namespace Sys2Proof.Machine

section Sheets
variable {s : State} {t k : Nat} {y : Slot}

theorem cmdSheetDiscard_of_slot (ht : scriptOk t = true) (hk : s.slotOf t = some k) (hy : s.marking.slots[k]? = some y) :
    cmdSheetDiscard t s = if y.holdsBatch then refuse s .busy
      else okay ((s.mapSlot k (fun _ => {})).mapBatch (fun b => { b with discarded := bump b.discarded }))
        [⟨1, y.pages.length⟩] := by
  rw [cmdSheetDiscard, if_neg (by simp [ht])]
  simp only [State.slotOf_bind hk hy]

theorem cmdSheetDiscard_of_none (ht : scriptOk t = true) (hk : s.slotOf t = none) :
    cmdSheetDiscard t s = refuse s .notFound := by
  rw [cmdSheetDiscard, if_neg (by simp [ht])]
  simp only [hk, Option.bind_none]

theorem cmdSheetQuery_of_slot (ht : scriptOk t = true) (hk : s.slotOf t = some k) (hy : s.marking.slots[k]? = some y) :
    cmdSheetQuery t s = okay s (slotFields s k y) := by
  rw [cmdSheetQuery, if_neg (by simp [ht])]
  simp only [State.slotOf_bind hk hy]

theorem cmdSheetQuery_of_entry {e : Custody} (ht : scriptOk t = true) (hk : s.slotOf t = none)
    (he : s.entry? t = some e) : cmdSheetQuery t s = okay s (entryFields s e) := by
  rw [cmdSheetQuery, if_neg (by simp [ht])]
  simp only [hk, Option.bind_none, he]

theorem cmdSheetQuery_of_none (ht : scriptOk t = true) (hk : s.slotOf t = none) (he : s.entry? t = none) :
    cmdSheetQuery t s = refuse s .notFound := by
  rw [cmdSheetQuery, if_neg (by simp [ht])]
  simp only [hk, Option.bind_none, he]

/-- The slot that holds a tag: whether it holds the batch open, by its state. -/
theorem Slot.holdsBatch_of_taken (h : y.state = .scoring ∨ y.state = .waiting) : y.holdsBatch = true := by
  obtain h | h := h <;> simp [Slot.holdsBatch, h]

theorem Slot.pageMarks_eq (y : Slot) (has : Nat → Nat)
    (hhas : ∀ n, has n = if y.pages.any (fun g => g.1 == n) then 1 else 0) :
    y.pageMarks = has 1 + 2 * has 2 + 4 * has 3 + 8 * has 4 := by
  simp only [Slot.pageMarks, List.map_cons, List.map_nil, flagsValue, ← hhas]
  omega

theorem Marking.position_of_taken {m : Marking} (h : k ∉ m.order) : m.position k = [⟨1, 0⟩, ⟨1, 0⟩] := by
  have hfind : m.order.findIdx? (fun j => j == k) = none := by
    rw [List.findIdx?_eq_none_iff]
    intro j hj
    simp only [beq_eq_false_iff_ne]
    rintro rfl
    exact h hj
  rw [Marking.position, hfind]

theorem Marking.position_of_waiting {m : Marking} {n : Nat} (h : m.order[n]? = some k) (hfirst : k ∉ m.order.take n) :
    m.position k = [⟨1, 1⟩, ⟨1, n⟩] := by
  have hfind : m.order.findIdx? (fun j => j == k) = some n := by
    obtain ⟨hlt, hk⟩ := List.getElem?_eq_some_iff.mp h
    rw [List.findIdx?_eq_some_iff_getElem]
    refine ⟨hlt, by simpa using hk, fun j hj => ?_⟩
    simp only [beq_iff_eq]
    intro hjk
    exact hfirst (List.mem_take_iff_getElem.mpr ⟨j, by omega, hjk⟩)
  rw [Marking.position, hfind]

/-- The summary told: none for a BOOKLET tag, a stray, and a candidate with no result. -/
theorem State.summaryOf_eq_none {e : Custody}
    (h : e.kind = .booklet ∨ e.cand = none ∨ ∃ i c, e.cand = some i ∧ s.cand? i = some c ∧ c.version = 0) :
    s.summaryOf e = none := by
  obtain hk | hi | ⟨i, c, hi, hc, hv⟩ := h
  · simp [State.summaryOf, hk]
  · cases hk : e.kind <;> simp [State.summaryOf, hk, hi]
  · cases hk : e.kind <;> simp [State.summaryOf, hk, hi, hc, hv]

theorem State.summaryOf_of_result {e : Custody} {i : Nat} {c : Cand} (hk : e.kind = .sheet) (hi : e.cand = some i)
    (hc : s.cand? i = some c) (hv : 0 < c.version) : s.summaryOf e = c.summary := by
  simp [State.summaryOf, hk, hi, hc, hv]

theorem State.numberOf_getD {e : Custody} {number : Nat}
    (h : (e.cand = none ∧ number = 0) ∨ (∃ i c, e.cand = some i ∧ s.cand? i = some c ∧ number = c.number)) :
    (s.numberOf e.cand).getD 0 = number := by
  obtain ⟨hi, rfl⟩ | ⟨i, c, hi, hc, rfl⟩ := h
  · rw [hi]
    rfl
  · simp [State.numberOf, hi, hc]

end Sheets

/-- Settles O46: the slot that holds the tag, its place in the scoring order, or the tag's custody entry. -/
theorem sheetsAsked : Obligations.SheetsAsked := by
  unfold Obligations.SheetsAsked
  intro tag t s hready hsession hlo hhi
  have ht := scriptOk_of_inRange hlo hhi
  have discarded : ∀ {u r fields}, cmdSheetDiscard t s = ⟨u, r, fields⟩ →
      exec (.sheetDiscard .k tag t) s = .next (u.replied .k tag (.sheetDiscard t) r fields) :=
    fun h => exec_taken rfl hready ⟨rfl, rfl, rfl⟩ (by simp [sessionTakes, hsession]) h
  have queried : ∀ {u r fields}, cmdSheetQuery t s = ⟨u, r, fields⟩ →
      exec (.sheetQuery .k tag t) s = .next (u.replied .k tag (.sheetQuery t) r fields) :=
    fun h => exec_taken rfl hready ⟨rfl, rfl, rfl⟩ (by simp [sessionTakes, hsession]) h
  refine ⟨fun k y hk hy => ⟨fun hstate => ?_, fun hstate => ?_, fun place hother htaken hwaiting => ?_⟩,
    fun hk => ⟨discarded (cmdSheetDiscard_of_none ht hk), fun he => queried (cmdSheetQuery_of_none ht hk he),
      fun e number he hnumber => ?_⟩⟩
  · have hfree : ¬ y.holdsBatch = true := by simp [Slot.holdsBatch, hstate]
    exact discarded ((cmdSheetDiscard_of_slot ht hk hy).trans (if_neg hfree))
  · exact discarded ((cmdSheetDiscard_of_slot ht hk hy).trans (if_pos (Slot.holdsBatch_of_taken hstate)))
  · intro has shown
    have hshown : slotFields s k y = shown ++ place := by
      have hplace : (if y.state = .scoring then s.marking.position k else []) = place := by
        by_cases hscoring : y.state = .scoring
        · rw [if_pos hscoring]
          by_cases hmem : k ∈ s.marking.order
          · obtain ⟨n, hn⟩ : ∃ n, s.marking.order.findIdx? (fun j => j == k) = some n :=
              Option.isSome_iff_exists.mp (by rw [List.findIdx?_isSome]; simpa using hmem)
            obtain ⟨hlt, hkn, hbefore⟩ := List.findIdx?_eq_some_iff_getElem.mp hn
            have hget : s.marking.order[n]? = some k := by
              rw [List.getElem?_eq_getElem hlt, beq_iff_eq.mp hkn]
            have hfirst : k ∉ s.marking.order.take n := by
              intro hmem'
              obtain ⟨j, hj, hjk⟩ := List.mem_take_iff_getElem.mp hmem'
              exact hbefore j (by omega) (by simpa using hjk)
            rw [hwaiting n hscoring hget hfirst, Marking.position_of_waiting hget hfirst]
          · rw [htaken hscoring hmem, Marking.position_of_taken hmem]
        · rw [if_neg hscoring, hother hscoring]
      have hmarks := y.pageMarks_eq has (fun n => by simp only [has, List.any_eq_true, beq_iff_eq])
      rw [slotFields, hplace, hmarks]
      rfl
    rw [← hshown]
    exact queried (cmdSheetQuery_of_slot ht hk hy)
  · intro fields
    have hquery := cmdSheetQuery_of_entry ht hk he
    have hfields : entryFields s e = fields ++ ((s.summaryOf e).map Summary.queryFields).getD [] := by
      rw [entryFields, optField, State.numberOf_getD hnumber]
      rfl
    rw [hfields] at hquery
    refine ⟨fun hnone => ?_, fun i c m hkind hi hc hv hm => ?_⟩
    · rw [State.summaryOf_eq_none hnone] at hquery
      exact (queried hquery).trans (by simp)
    · rw [State.summaryOf_of_result hkind hi hc hv, hm] at hquery
      exact queried hquery

end Sys2Proof.Machine
end

section
/-! SUPPORT. The READ and status commands (R157, R172 to R175): the record as it stands. -/

namespace Sys2Proof.Machine

/-! ## A command at a port with nothing in service, whether or not the scan runs -/

theorem State.arrive_idle {s : State} {p : Port} {tag : Byte} (c : Cmd) (htag : tag ≠ 0)
    (hservice : (s.port p).inService = none) (hbuffer : (s.port p).buffer = none) :
    s.arrive p tag c = (s.judge p c).state.replied p tag c (s.judge p c).result (s.judge p c).fields := by
  simp only [State.arrive, State.intake, hservice, hbuffer, if_neg htag]
  rfl

/-- A status command passes every gate on every port, in the scan and outside it (R2, R3, R167). -/
theorem exec_status {i : Instr} {p : Port} {tag : Byte} {c : Cmd} {s t : State} {fields : List Field}
    (hi : linkCommand i = some (p, tag, c)) (htag : tag ≠ 0) (hservice : (s.port p).inService = none)
    (hbuffer : (s.port p).buffer = none) (hc : c = .portStatus ∨ c = .archiveStatus)
    (hjudge : judgeCmd p c s = okay t fields) :
    exec i s = .next (t.replied p tag c .ok fields) := by
  have hgate : s.gate p c = none := by
    obtain rfl | rfl := hc
    · simp [State.gate, Cmd.code, statusCode, Cmd.isUnknown, roleTakes, Cmd.isBadLength, sessionTakes]
    · simp [State.gate, Cmd.code, statusCode, Cmd.isUnknown, roleTakes, Cmd.isBadLength, sessionTakes]
  rw [exec_of_linkCommand hi, State.arrive_idle c htag hservice hbuffer, State.judge, hgate]
  simp only [hjudge]
  rfl

/-! ## Fields -/

section Fields

theorem flagsValue_four (a b c d : Bool) :
    flagsValue [a, b, c, d] =
      (if a then 1 else 0) + 2 * (if b then 1 else 0) + 4 * (if c then 1 else 0) + 8 * (if d then 1 else 0) := by
  simp only [flagsValue]
  omega

variable (s : State)

theorem cmdReadCandidate_of_index {i : Nat} {c : Cand} (hi : i ≤ 639) (hc : s.cand? i = some c) :
    cmdReadCandidate 1 i s = okay s (s.candFields i c) := by
  simp only [cmdReadCandidate, hc]
  exact if_neg (by omega)

theorem cmdReadCandidate_of_number {i : Nat} {c : Cand} (hlo : 1 ≤ c.number) (hhi : c.number ≤ 999999999)
    (hi : s.findCand c.number = some i) (hc : s.cand? i = some c) :
    cmdReadCandidate 0 c.number s = okay s (s.candFields i c) := by
  simp only [cmdReadCandidate, State.candByNumber_eq_some hi hc]
  exact if_neg (by simp [numberOk, hlo, hhi])

theorem cmdReadSeat_of_seat {n : Nat} {x : Seat} (hlo : 1 ≤ n) (hhi : n ≤ 511) (hx : s.seat? n = some x) :
    cmdReadSeat n s = okay s (s.seatFields x) := by
  simp only [cmdReadSeat, hx]
  exact if_neg (by simp [seatOk, hlo, hhi])

theorem cmdReadSitting_of_sitting {n : Nat} {x : Sitting} (hlo : 1 ≤ n) (hhi : n ≤ 12) (hx : s.sitting? n = some x) :
    cmdReadSitting n s = okay s (s.sittingFields x) := by
  simp only [cmdReadSitting, hx]
  exact if_neg (by simp [sittingOk, hlo, hhi])

/-- The READ commands pass the gates of every port but K. -/
theorem roleTakes_read {p : Port} (hp : p ≠ .k) {code : Byte} (h : code = 0x60 ∨ code = 0x61 ∨ code = 0x62 ∨ code = 0x63) :
    roleTakes p code = true := by
  cases p with
  | k => exact absurd rfl hp
  | g => obtain rfl | rfl | rfl | rfl := h <;> rfl
  | desk d => obtain rfl | rfl | rfl | rfl := h <;> rfl

theorem Sitting.definedItems_eq (x : Sitting) :
    x.definedItems = x.items.countP (fun g => decide (g.1 ≤ (x.layout.getD []).sum)) :=
  List.countP_eq_length_filter.symm

theorem State.isChief_desk (d : Desk) : s.isChief (.desk d) = decide (d = s.hall.chief) := by
  simp [State.isChief]

end Fields

/-- Settles O60: each reply's fields as the record stands. -/
theorem recordsRead : Obligations.RecordsRead := by
  unfold Obligations.RecordsRead
  intro p tag s htag hservice hbuffer flag
  refine ⟨fun hscan hp => ?_, ?_, ?_⟩
  · have hready : s.ready p tag := ⟨hscan, hservice, hbuffer, htag⟩
    refine ⟨fun i c hc => ?_, fun n x hlo hhi hx => ?_, fun n x hlo hhi hx => ?_⟩
    · intro result seated fields
      have hfields : s.candFields i c = fields := by
        have hresult : summaryFields c.summary = result := by
          simp only [result]
          cases c.summary <;> rfl
        have hseated : s.seatedFields c = seated := by
          simp only [State.seatedFields, seated]
          cases c.seat.bind s.seat? <;> rfl
        rw [State.candFields, flagsValue_four, hresult, hseated]
        rfl
      rw [← hfields]
      exact ⟨fun hi => exec_taken rfl hready ⟨rfl, roleTakes_read hp (by simp [Cmd.code]), rfl⟩ rfl
          (cmdReadCandidate_of_index s hi hc),
        fun hlo hhi hi => exec_taken rfl hready ⟨rfl, roleTakes_read hp (by simp [Cmd.code]), rfl⟩ rfl
          (cmdReadCandidate_of_number s hlo hhi hi hc)⟩
    · have hread := exec_taken (i := .readSeat p tag n) rfl hready ⟨rfl, roleTakes_read hp (by simp [Cmd.code]), rfl⟩ rfl
        (cmdReadSeat_of_seat s hlo hhi hx)
      rw [hread, State.seatFields]
      cases hg : x.unitGroup <;> rfl
    · intro counts cues
      have hread := exec_taken (i := .readSitting p tag n) rfl hready ⟨rfl, roleTakes_read hp (by simp [Cmd.code]), rfl⟩ rfl
        (cmdReadSitting_of_sitting s hlo hhi hx)
      rw [hread, State.sittingFields, Sitting.definedItems_eq]
      simp [counts, cues, flag, Counts.fields, markField, cueFields, itemCount]
  · intro ps grant
    have hstatus := exec_status (i := .portStatus p tag) rfl htag hservice hbuffer (.inl rfl)
      (t := s.mapPort p (fun v => { v with errorFlag := false, lostFlag := false })) (fields := s.portFields p) rfl
    have hgrant : s.deskFields p = grant := by
      cases p with
      | desk d => simp only [State.deskFields, State.isChief_desk]; rfl
      | g => rfl
      | k => rfl
    rw [hstatus, State.portFields, hgrant]
    rfl
  · intro a plane
    have hstatus := exec_status (i := .archiveStatus p tag) rfl htag hservice hbuffer (.inr rfl) rfl
    rw [hstatus]
    have hresults : s.arch.results = s.arch.queue.countP (fun r => decide (r.kind = .result)) :=
      List.countP_eq_length_filter.symm
    have hscan : (if s.scanning then [⟨1, 0⟩, ⟨2, s.arch.classified⟩] else [⟨1, 1⟩, ⟨2, 0⟩] : List Field) =
        [⟨1, flag a.scan.isNone⟩, ⟨2, if a.scan.isSome then
          256 - (a.p0.countBlocks .unread + a.p1.countBlocks .unread) else 0⟩] := by
      rw [State.scanning]
      cases h : s.arch.scan <;> simp [a, flag, Archive.classified]
    rw [hscan, hresults]
    rfl

end Sys2Proof.Machine
end

section
/-! SUPPORT. A port's receive assembly, its transmitter, its notice queue and the bytes it sends (R163 to R171,
R176 to R178). -/

namespace Sys2Proof.Machine

/-! ## Receiving -/

theorem State.mapPort_of_same {s : State} {p : Port} {f : PortState → PortState} (h : f (s.port p) = s.port p) :
    s.mapPort p f = s := by
  have hset : s.links.set p (s.port p) = s.links := by
    cases p with
    | desk d => cases d <;> rfl
    | g => rfl
    | k => rfl
  have h' : f (s.links.port p) = s.port p := h
  rw [State.mapPort, h', hset]

section Receive
variable (s : State) (p : Port)

theorem State.badFrame_eq :
    s.badFrame p = s.mapPort p (fun ps => { ps with asm := .hunting, errorFlag := true }) := by
  rw [State.badFrame, State.assemble, State.flagError, State.mapPort_mapPort]

variable {s p}

theorem State.receiveByte_hunting (h : (s.port p).asm = .hunting) (b : Byte) (bad : Bool) :
    s.receiveByte p b false bad =
      let s' := if bad then s.flagError p else s
      if b = syncByte then s'.assemble p (.collecting [] bad) else s' := by
  simp only [State.receiveByte, h]

theorem State.receiveByte_hunting_framing (h : (s.port p).asm = .hunting) (b : Byte) (bad : Bool) :
    s.receiveByte p b true bad = s.flagError p := by
  simp only [State.receiveByte, h]

theorem State.receiveByte_collecting {got : List Byte} {bad' : Bool} (h : (s.port p).asm = .collecting got bad')
    (b : Byte) (bad : Bool) :
    s.receiveByte p b false bad = s.collectByte p (got ++ [b]) (bad' || bad) := by
  simp only [State.receiveByte, h]

theorem State.receiveByte_collecting_framing {got : List Byte} {bad' : Bool}
    (h : (s.port p).asm = .collecting got bad') (b : Byte) (bad : Bool) :
    s.receiveByte p b true bad = s.badFrame p := by
  simp only [State.receiveByte, h]

/-- A byte passed over sets the flag where it came with an error. -/
theorem State.receiveByte_passed (h : (s.port p).asm = .hunting) {b : Byte} (hb : b ≠ 0xA5) (fr bad : Bool) :
    s.receiveByte p b fr bad = s.mapPort p (fun ps => { ps with errorFlag := ps.errorFlag || fr || bad }) := by
  cases fr with
  | true =>
    rw [State.receiveByte_hunting_framing h, State.flagError]
    simp
  | false =>
    have hsync : b ≠ syncByte := hb
    rw [State.receiveByte_hunting h]
    simp only [if_neg hsync]
    cases bad with
    | true => simp [State.flagError]
    | false =>
      refine (State.mapPort_of_same ?_).symm
      simp only [Bool.or_false]

section Collect
variable {len : Byte} {got : List Byte} {bad : Bool}

theorem State.collectByte_of_len (h : len.toNat < 2 ∨ 240 < len.toNat) :
    s.collectByte p (len :: got) bad = s.badFrame p := if_pos h

theorem State.collectByte_of_short (hlo : 2 ≤ len.toNat) (hhi : len.toNat ≤ 240)
    (h : (len :: got).length < len.toNat + 3) :
    s.collectByte p (len :: got) bad = s.assemble p (.collecting (len :: got) bad) := by
  rw [State.collectByte, if_neg (by omega), if_neg (by omega)]

theorem State.collectByte_of_complete (hlo : 2 ≤ len.toNat) (hhi : len.toNat ≤ 240)
    (h : (len :: got).length = len.toNat + 3) :
    s.collectByte p (len :: got) bad = s.completeFrame p (len :: got) bad := by
  rw [State.collectByte, if_neg (by omega), if_pos (by omega)]

end Collect

/-- The CRC of a complete frame, its two bytes read most significant first. -/
theorem crcGood_iff (body : List Byte) (c1 b : Byte) :
    crcGood (body ++ [c1, b]) = true ↔ c1.toNat * 256 + b.toNat = (crc16 body).toNat := by
  have hn : (body ++ [c1, b]).length - 2 = body.length := by simp
  rw [crcGood, hn, List.drop_left, List.take_left]
  simp [ofBytes]

/-- A complete frame is judged by its errors, its TAG and its CRC. -/
theorem State.completeFrame_eq (len tag code c1 b : Byte) (fields : List Byte) (bad : Bool) :
    s.completeFrame p (len :: tag :: code :: fields ++ [c1, b]) bad =
      if bad = false ∧ tag ≠ 0 ∧ c1.toNat * 256 + b.toNat = (crc16 (len :: tag :: code :: fields)).toNat then
        (s.assemble p .hunting).arrive p tag (decodeCommand code fields)
      else s.badFrame p := by
  have hcrc := crcGood_iff (len :: tag :: code :: fields) c1 b
  have hfields : (fields ++ [c1, b]).take ((fields ++ [c1, b]).length - 2) = fields := by
    rw [show (fields ++ [c1, b]).length - 2 = fields.length by simp, List.take_left]
  have hjudge : s.completeFrame p (len :: tag :: code :: fields ++ [c1, b]) bad =
      if bad ∨ ¬ crcGood (len :: tag :: code :: fields ++ [c1, b]) then s.badFrame p
      else if tag = 0 then s.badFrame p
      else (s.assemble p .hunting).intake p
        ⟨tag, decodeCommand code ((fields ++ [c1, b]).take ((fields ++ [c1, b]).length - 2))⟩ := rfl
  rw [hjudge, hfields]
  simp only [hcrc]
  by_cases htag : tag = 0
  · simp [htag]
  · cases bad with
    | true => simp
    | false =>
      by_cases hgood : c1.toNat * 256 + b.toNat = (crc16 (len :: tag :: code :: fields)).toNat
      · rw [if_neg (by simp [hgood]), if_neg htag, if_pos ⟨rfl, htag, hgood⟩, State.arrive, if_neg htag]
      · simp [hgood]

end Receive

/-! ## Sending -/

section Send
variable {ps : PortState}

theorem PortState.startSending_reply {r : Reply} (h : ps.sending = .none) (hr : ps.replySlot = some r) :
    ps.startSending = { ps with sending := .reply } := by
  simp only [PortState.startSending, h, hr]

theorem PortState.startSending_notice {n : Notice} {ns : List Notice} (h : ps.sending = .none)
    (hr : ps.replySlot = none) (hn : ps.notices = n :: ns) :
    ps.startSending = { ps with sending := .notice n, notices := ns } := by
  simp only [PortState.startSending, h, hr, hn]

theorem PortState.startSending_same (h : ps.sending ≠ .none ∨ (ps.replySlot = none ∧ ps.notices = [])) :
    ps.startSending = ps := by
  obtain h | ⟨hr, hn⟩ := h
  · cases hs : ps.sending with
    | none => exact absurd hs h
    | reply => simp only [PortState.startSending, hs]
    | notice n => simp only [PortState.startSending, hs]
  · cases hs : ps.sending <;> simp only [PortState.startSending, hs, hr, hn]

/-- A buffered frame is taken in the event that ends the reply, as its command's arrival at the emptied port. -/
theorem State.endReply_of_buffer {s : State} {p : Port} {i : Instr} {tag : Byte} {c : Cmd}
    (hbuffer : (s.port p).buffer = some ⟨tag, c⟩) (htag : tag ≠ 0) (hi : linkCommand i = some (p, tag, c)) :
    exec i (s.mapPort p (fun ps => { ps with sending := .none, replySlot := none, inService := none, buffer := none })) =
      .next (s.endReply p) := by
  rw [exec_of_linkCommand hi]
  simp only [State.endReply, hbuffer, State.arrive, if_neg htag, State.intake, State.mapPort_port,
    State.mapPort_mapPort]

end Send

/-! ## Bytes -/

section Bytes

theorem beBytes_eq_map (w v : Nat) : beBytes w v = (List.range w).map (fun k => BitVec.ofNat 8 (v / 256 ^ (w - 1 - k))) := by
  induction w with
  | zero => rfl
  | succ w ih =>
    rw [beBytes, ih, List.range_succ_eq_map, List.map_cons, List.map_map]
    congr 1
    refine List.map_congr_left fun k _ => ?_
    simp only [Function.comp_apply, Nat.succ_eq_add_one]
    rw [show w + 1 - 1 - (k + 1) = w - 1 - k by omega]

theorem fieldBytes_eq_flatMap (fs : List Field) :
    fieldBytes fs = fs.flatMap (fun f => (List.range f.width).map (fun k => BitVec.ofNat 8 (f.value / 256 ^ (f.width - 1 - k)))) := by
  induction fs with
  | nil => rfl
  | cons f fs ih => rw [fieldBytes, ih, List.flatMap_cons, Field.bytes, beBytes_eq_map]

theorem frameBytes_eq (tag code : Byte) (rest : List Byte) :
    frameBytes tag code rest =
      0xA5#8 :: (BitVec.ofNat 8 (rest.length + 2) :: tag :: code :: rest) ++
        [BitVec.ofNat 8 ((crc16 (BitVec.ofNat 8 (rest.length + 2) :: tag :: code :: rest)).toNat / 256),
          BitVec.ofNat 8 (crc16 (BitVec.ofNat 8 (rest.length + 2) :: tag :: code :: rest)).toNat] := by
  simp [frameBytes, beBytes, syncByte]

/-- The result codes in their order, each at its own place. -/
def resultCodes : List ResultCode :=
  [.ok, .accepted, .unknown, .role, .length, .range, .state, .notFound, .duplicate, .full, .busy, .zone, .adjacent,
    .mismatch, .tooLate, .alreadyMarked, .pending, .notExported, .layout]

theorem ResultCode.code_of_getElem? {k : Nat} {r : ResultCode} (h : resultCodes[k]? = some r) : r.code = k := by
  have hget : ∀ j : Fin 19, (resultCodes[j]).code = j := by decide
  obtain ⟨hk, rfl⟩ := List.getElem?_eq_some_iff.mp h
  exact hget ⟨k, hk⟩

theorem replyCode_eq (c : Byte) (h : c.toNat < 0x80) : replyCode c = c + 0x80 := by
  have hand : c &&& 0x80#8 = 0#8 := by
    have hlt : c < 0x80#8 := h
    revert c
    decide
  exact (BitVec.add_eq_or_of_and_eq_zero _ _ hand).symm

theorem PortState.transmitting_notice {ps : PortState} {n : Notice} (h : ps.sending = .notice n) :
    ps.transmitting = some n.frame := by
  simp only [PortState.transmitting, h]

theorem PortState.transmitting_reply {ps : PortState} {r : Reply} (h : ps.sending = .reply) (hr : ps.replySlot = some r) :
    ps.transmitting = some r.frame := by
  simp only [PortState.transmitting, h, hr, Option.map_some]

end Bytes

/-- Settles O59: each byte received, each start and end of the transmitter, and the bytes of each frame sent. -/
theorem portsReceiveAndSend : Obligations.PortsReceiveAndSend := by
  unfold Obligations.PortsReceiveAndSend
  refine ⟨fun p s => ?_, fun p s => ?_, fun ps n => ⟨fun h => if_pos h, fun h => if_neg (Nat.not_lt.mpr h)⟩, ?_⟩
  · intro ends
    have hbad : s.badFrame p = ends := s.badFrame_eq p
    have received : ∀ {b : Byte} {par fr ov : Bool} {t : State}, s.receiveByte p b fr (par || ov) = t →
        exec (.linkByteReceived p b par fr ov) s = .next t := fun h => congrArg _ h
    refine ⟨fun b par fr ov h hb => ?_, fun h => ?_, fun par ov h herr => ?_, fun par ov h => ?_,
      fun b par ov got bad h => ?_, fun b par ov bad h => ⟨fun hlen => ?_, fun hlo hhi => ?_⟩,
      fun b par ov bad len got h hlo hhi => ⟨fun hshort => ?_, fun tag code fields c1 hlen hgot => ?_⟩,
      fun got bad h => ?_, fun h => ?_, rfl⟩
    · refine received ((State.receiveByte_passed h hb fr (par || ov)).trans ?_)
      congr 1
      funext ps
      cases ps.errorFlag <;> cases par <;> cases fr <;> rfl
    · exact received ((State.receiveByte_hunting h _ _).trans rfl)
    · refine received ((State.receiveByte_hunting h _ _).trans ?_)
      simp [herr, syncByte, State.assemble, State.flagError]
    · exact received (State.receiveByte_hunting_framing h _ _)
    · exact received ((State.receiveByte_collecting_framing h _ _).trans hbad)
    · exact received ((State.receiveByte_collecting h _ _).trans ((State.collectByte_of_len hlen).trans hbad))
    · refine received ((State.receiveByte_collecting h _ _).trans
        ((State.collectByte_of_short hlo hhi (by simp)).trans ?_))
      rw [Bool.or_assoc]
      rfl
    · refine received ((State.receiveByte_collecting h _ _).trans
        ((State.collectByte_of_short hlo hhi (by simp; omega)).trans ?_))
      rw [Bool.or_assoc]
      rfl
    · intro crc good
      have hjudged : exec (.linkByteReceived p b par false ov) s = .next
          (s.completeFrame p (len :: tag :: code :: fields ++ [c1, b]) (bad || (par || ov))) := by
        refine received ((State.receiveByte_collecting h _ _).trans
          ((State.collectByte_of_complete hlo hhi (by simp; omega)).trans ?_))
        rw [hgot]
        simp
      have hgood : (bad || (par || ov)) = false ∧ tag ≠ 0 ∧
          c1.toNat * 256 + b.toNat = (crc16 (len :: tag :: code :: fields)).toNat ↔ good := by
        simp only [Bool.or_eq_false_iff, and_assoc]
        rfl
      rw [hjudged, State.completeFrame_eq, hbad]
      exact ⟨fun h => congrArg _ (if_neg (mt hgood.mp h)), fun h => congrArg _ (if_pos (hgood.mpr h))⟩
    · simp only [exec, execFrameGapTimeout, h, hbad]
    · simp only [exec, execFrameGapTimeout, h]
  · intro ps put
    have mapped : ∀ {v : PortState}, ps.startSending = v → exec (.transmitterStart p) s = .next (put v) := by
      rintro v rfl
      rfl
    refine ⟨fun r h hr => mapped (PortState.startSending_reply h hr),
      fun n ns h hr hn => mapped (PortState.startSending_notice h hr hn),
      fun h => congrArg _ (State.mapPort_of_same (PortState.startSending_same h)), fun n h => ?_, fun h hb => ?_,
      fun i tag c h hb htag hi => ?_⟩
    · have h' : (s.port p).sending = .notice n := h
      simp only [exec, execNoticeSent, h']
      rfl
    · have h' : (s.port p).sending = .reply := h
      have hb' : (s.port p).buffer = none := hb
      simp only [exec, execReplyComplete, h', State.endReply, hb']
      rfl
    · have h' : (s.port p).sending = .reply := h
      have hend : exec (.replyComplete p) s = .next (s.endReply p) := by
        simp only [exec, execReplyComplete, h']
      exact hend.trans (State.endReply_of_buffer hb htag hi).symm
  · intro framed bytes results
    have hframe : ∀ tag code (fs : List Field), frameBytes tag code (fieldBytes fs) = framed tag code (bytes fs) :=
      fun tag code fs => by rw [fieldBytes_eq_flatMap]; exact frameBytes_eq ..
    refine ⟨fun ps h => ?_, fun ps r k h hr hk => ?_, replyCode_eq, fun ps n h => ?_⟩
    · simp only [PortState.transmitting, h]
    · rw [PortState.transmitting_reply h hr, Reply.frame, ResultCode.code_of_getElem? hk, hframe]
      simp [bytes]
    · intro sent
      have hsent : sent n.code n.fields := (PortState.transmitting_notice h).trans (congrArg some (hframe ..))
      cases n with
      | seatFault cause seat num t => cases cause <;> exact hsent
      | archiveAlert cause t => cases cause <;> exact hsent
      | _ => exact hsent

end Sys2Proof.Machine
end

section
/-! SUPPORT. Link commands read back from the bytes of their frames (R163, R164, R177 to R179). -/

namespace Sys2Proof

/-! ## Fields read by their widths -/

theorem length_fieldBytes (fs : List Field) : (fieldBytes fs).length = (fs.map Field.width).sum := by
  induction fs with
  | nil => rfl
  | cons f fs ih => simp [fieldBytes, Field.bytes, ih]

/-- Fields that fit their bytes are read back by their widths. -/
theorem readFields_fieldBytes {ws : List Nat} {fs : List Field} (hw : ws = fs.map Field.width)
    (hfits : ∀ f ∈ fs, fits f.width f.value = true) : readFields ws (fieldBytes fs) = some (fs.map Field.value) := by
  subst hw
  induction fs with
  | nil => rfl
  | cons f fs ih =>
    have hf : ofBytes (beBytes f.width f.value) = f.value :=
      ofBytes_beBytes (by simpa [fits] using hfits f List.mem_cons_self)
    have hlen : ¬ (beBytes f.width f.value ++ fieldBytes fs).length < f.width := by simp
    have htake : (beBytes f.width f.value ++ fieldBytes fs).take f.width = beBytes f.width f.value :=
      List.take_left' (length_beBytes ..)
    have hdrop : (beBytes f.width f.value ++ fieldBytes fs).drop f.width = fieldBytes fs :=
      List.drop_left' (length_beBytes ..)
    rw [List.map_cons, fieldBytes, Field.bytes, readFields, if_neg hlen, htake, hdrop,
      ih fun g hg => hfits g (List.mem_cons_of_mem _ hg), hf]
    rfl

@[simp] theorem width_comp_mk (w : Nat) : Field.width ∘ Field.mk w = fun _ => w := rfl

@[simp] theorem value_comp_mk (w : Nat) : Field.value ∘ Field.mk w = id := rfl

/-! ## Responses of a page (R179) -/

theorem length_columns (cols : List (BitVec 16)) : ((cols.map (fun m => beBytes 2 m.toNat)).flatten).length = 2 * cols.length := by
  induction cols with
  | nil => rfl
  | cons m cols ih => simp [ih]; omega

theorem readColumns_columns (cols : List (BitVec 16)) (bs : List Byte) :
    readColumns cols.length ((cols.map (fun m => beBytes 2 m.toNat)).flatten ++ bs) = some (cols, bs) := by
  induction cols with
  | nil => rfl
  | cons m cols ih =>
    have hm : BitVec.ofNat 16 (ofBytes [BitVec.ofNat 8 (m.toNat / 256 ^ 1), BitVec.ofNat 8 (m.toNat / 256 ^ 0)]) = m := by
      have : ofBytes (beBytes 2 m.toNat) = m.toNat := ofBytes_beBytes m.isLt
      exact (congrArg (BitVec.ofNat 16) this).trans (by simp)
    have hbytes : beBytes 2 m.toNat = [BitVec.ofNat 8 (m.toNat / 256 ^ 1), BitVec.ofNat 8 (m.toNat / 256 ^ 0)] := rfl
    simp only [List.map_cons, List.flatten_cons, hbytes, List.cons_append, List.nil_append, List.length_cons,
      readColumns, ih, Option.map_some, hm]

theorem Response.length_bytes {r : Response} (h : r.wf = true) : r.bytes.length = r.size := by
  cases r with
  | option m => rfl
  | malformed => rfl
  | column c cols =>
    have hlen : cols.length = c := by
      simp only [Response.wf, Bool.and_eq_true, beq_iff_eq] at h
      exact h.1.2
    simp only [Response.bytes, Response.size, List.length_cons, length_columns, hlen]
    omega

theorem length_responses {rs : List Response} (h : ∀ r ∈ rs, r.wf = true) :
    ((rs.map Response.bytes).flatten).length = (rs.map Response.size).sum := by
  induction rs with
  | nil => rfl
  | cons r rs ih =>
    simp [Response.length_bytes (h r List.mem_cons_self), ← ih fun q hq => h q (List.mem_cons_of_mem _ hq)]

/-- Every response takes an even number of bytes, at least 2. -/
theorem sum_sizes (rs : List Response) :
    (rs.map Response.size).sum % 2 = 0 ∧ 2 * rs.length ≤ (rs.map Response.size).sum := by
  induction rs with
  | nil => simp
  | cons r rs ih =>
    obtain ⟨heven, hlen⟩ := ih
    cases r <;> simp only [List.map_cons, List.sum_cons, List.length_cons, Response.size] <;> omega

theorem readResponses_bytes {rs : List Response} (h : ∀ r ∈ rs, r.wf = true) {fuel : Nat} (hfuel : rs.length ≤ fuel) :
    readResponses fuel ((rs.map Response.bytes).flatten) = rs := by
  induction rs generalizing fuel with
  | nil => cases fuel <;> rfl
  | cons r rs ih =>
    obtain ⟨fuel, rfl⟩ : ∃ n, fuel = n + 1 := ⟨fuel - 1, by simp at hfuel; omega⟩
    have htail := ih (fun q hq => h q (List.mem_cons_of_mem _ hq)) (fuel := fuel) (by simpa using hfuel)
    have hr := h r List.mem_cons_self
    cases r with
    | option m =>
      simp only [List.map_cons, List.flatten_cons, Response.bytes, List.cons_append, List.nil_append, readResponses,
        if_true, htail]
    | malformed => cases hr
    | column c cols =>
      simp only [Response.wf, Bool.and_eq_true, decide_eq_true_eq, beq_iff_eq] at hr
      obtain ⟨⟨⟨-, hc⟩, hlen⟩, -⟩ := hr
      have hcount : (BitVec.ofNat 8 c).toNat = cols.length := by
        rw [hlen, BitVec.toNat_ofNat, Nat.mod_eq_of_lt (by omega)]
      have hread := readColumns_columns cols ((rs.map Response.bytes).flatten)
      simp only [List.map_cons, List.flatten_cons, Response.bytes, List.cons_append, readResponses, hcount, hread, htail]
      rw [if_neg (by decide), if_pos trivial, hlen]

/-! ## Commands -/

theorem decode_layoutDefine {a b : Nat} {cs : List Nat} (h : (Cmd.layoutDefine a b cs).wf = true) :
    decodeCommand 0x09 (Cmd.layoutDefine a b cs).fieldBytes = .layoutDefine a b cs := by
  simp only [Cmd.wf, Bool.and_eq_true, decide_eq_true_eq, List.all_eq_true] at h
  obtain ⟨⟨⟨⟨ha, hb⟩, hlo⟩, hhi⟩, hcs⟩ := h
  have hlen : (Cmd.layoutDefine a b cs).fieldBytes.length = cs.length + 2 := by
    simp [Cmd.fieldBytes, length_fieldBytes, Function.comp_def, List.map_const', List.sum_replicate]
    omega
  have hread : readFields (List.replicate (cs.length + 2) 1) (Cmd.layoutDefine a b cs).fieldBytes = some (a :: b :: cs) := by
    have := readFields_fieldBytes (ws := List.replicate (cs.length + 2) 1) (fs := ⟨1, a⟩ :: ⟨1, b⟩ :: cs.map (Field.mk 1))
      (by simp [List.map_const', List.replicate_succ]) (by simpa [ha, hb] using hcs)
    simpa [Cmd.fieldBytes] using this
  have hdecode : decodeCommand 0x09 (Cmd.layoutDefine a b cs).fieldBytes =
      if (Cmd.layoutDefine a b cs).fieldBytes.length < 3 ∨ 6 < (Cmd.layoutDefine a b cs).fieldBytes.length then
        .badLength 0x09
      else match readFields (List.replicate (Cmd.layoutDefine a b cs).fieldBytes.length 1)
          (Cmd.layoutDefine a b cs).fieldBytes with
        | some (a :: b :: counts) => .layoutDefine a b counts
        | _ => .badLength 0x09 := rfl
  rw [hdecode, hlen, if_neg (by omega), hread]

theorem decode_returnTags {n : Nat} {ts : List Nat} (h : (Cmd.returnTags n ts).wf = true) :
    decodeCommand 0x2C (Cmd.returnTags n ts).fieldBytes = .returnTags n ts := by
  simp only [Cmd.wf, Bool.and_eq_true, decide_eq_true_eq, List.all_eq_true] at h
  obtain ⟨⟨⟨hn, hlo⟩, hhi⟩, hts⟩ := h
  have hlen : (Cmd.returnTags n ts).fieldBytes.length = 1 + 4 * ts.length := by
    simp [Cmd.fieldBytes, length_fieldBytes, Function.comp_def, List.map_const', List.sum_replicate]
    omega
  have hread : readFields (1 :: List.replicate ts.length 4) (Cmd.returnTags n ts).fieldBytes = some (n :: ts) := by
    have := readFields_fieldBytes (ws := 1 :: List.replicate ts.length 4) (fs := ⟨1, n⟩ :: ts.map (Field.mk 4))
      (by simp [List.map_const']) (by simpa [hn] using hts)
    simpa [Cmd.fieldBytes] using this
  have hcount : ((Cmd.returnTags n ts).fieldBytes.length - 1) / 4 = ts.length := by omega
  have hdecode : decodeCommand 0x2C (Cmd.returnTags n ts).fieldBytes =
      let k := ((Cmd.returnTags n ts).fieldBytes.length - 1) / 4
      if (Cmd.returnTags n ts).fieldBytes.length ≠ 1 + 4 * k ∨ k = 0 ∨ 16 < k then .badLength 0x2C
      else match readFields (1 :: List.replicate k 4) (Cmd.returnTags n ts).fieldBytes with
        | some (n :: scripts) => .returnTags n scripts
        | _ => .badLength 0x2C := rfl
  simp only [hdecode, hcount, hread]
  exact if_neg (by omega)

/-- The numbers of a SITTING_DEFINE in the order they are carried. -/
def SittingFields.values (f : SittingFields) : List Nat :=
  f.sitting :: (f.paper ++ (f.base :: f.reading :: f.pauseLimit :: f.zoneCount :: (f.zones ++
    [f.outMax, f.passMark, f.penalty, f.invalidPolicy, f.floorPolicy])))

section SittingValues
variable {f : SittingFields} (hpaper : f.paper.length = 8)
include hpaper

theorem SittingFields.values_paper : (f.values.drop 1).take 8 = f.paper :=
  List.take_left' hpaper

theorem SittingFields.values_base (n : Nat) :
    f.values.getD (9 + n) 0 = (f.base :: f.reading :: f.pauseLimit :: f.zoneCount :: (f.zones ++
      [f.outMax, f.passMark, f.penalty, f.invalidPolicy, f.floorPolicy])).getD n 0 := by
  rw [SittingFields.values, show 9 + n = (8 + n) + 1 by omega, List.getD_cons_succ, List.getD_append_right _ _ _ _ (by omega),
    hpaper, Nat.add_sub_cancel_left]

theorem SittingFields.values_zones : f.values.drop 13 = f.zones ++
    [f.outMax, f.passMark, f.penalty, f.invalidPolicy, f.floorPolicy] := by
  rw [SittingFields.values, show 13 = (8 + 4) + 1 by rfl, List.drop_succ_cons, ← List.drop_drop, List.drop_left' hpaper]
  rfl

end SittingValues

theorem readFields_sittingDefine {f : SittingFields} (h : f.wf = true) :
    readFields (List.replicate 9 1 ++ [2, 2, 2, 1] ++ List.replicate f.zones.length 1 ++ [2, 2, 1, 1, 1])
      (Cmd.sittingDefine f).fieldBytes = some f.values := by
  simp only [SittingFields.wf, Bool.and_eq_true, decide_eq_true_eq, List.all_eq_true, beq_iff_eq] at h
  obtain ⟨⟨⟨⟨⟨⟨⟨⟨⟨⟨⟨⟨⟨⟨hsitting, hpaper⟩, hchars⟩, hbase⟩, hreading⟩, hpause⟩, hcount⟩, -⟩, -⟩, hzones⟩, hout⟩, hpass⟩,
    hpenalty⟩, hinvalid⟩, hfloor⟩ := h
  refine (readFields_fieldBytes ?_ ?_).trans ?_
  · simp [List.map_const', hpaper, List.replicate_succ]
  · simp only [List.forall_mem_append, List.forall_mem_cons, List.forall_mem_map]
    exact ⟨⟨⟨⟨hsitting, hchars⟩, hbase, hreading, hpause, hcount, nofun⟩, hzones⟩, hout, hpass, hpenalty, hinvalid, hfloor,
      nofun⟩
  · simp [SittingFields.values]

theorem decode_sittingDefine {f : SittingFields} (h : f.wf = true) :
    decodeCommand 0x07 (Cmd.sittingDefine f).fieldBytes = .sittingDefine f := by
  have hread := readFields_sittingDefine h
  simp only [SittingFields.wf, Bool.and_eq_true, decide_eq_true_eq, beq_iff_eq] at h
  obtain ⟨⟨⟨⟨⟨⟨⟨⟨⟨⟨⟨⟨⟨⟨-, hpaper⟩, -⟩, -⟩, -⟩, -⟩, -⟩, hlo⟩, hhi⟩, -⟩, -⟩, -⟩, -⟩, -⟩, -⟩ := h
  have hlen : (Cmd.sittingDefine f).fieldBytes.length = f.zones.length + 23 := by
    simp [Cmd.fieldBytes, length_fieldBytes, List.map_const', List.sum_replicate, hpaper]
    omega
  have hzones : (f.values.drop 13).take f.zones.length = f.zones := by
    rw [SittingFields.values_zones hpaper, List.take_left]
  have htail : f.values.drop (13 + f.zones.length) = [f.outMax, f.passMark, f.penalty, f.invalidPolicy, f.floorPolicy] := by
    rw [← List.drop_drop, SittingFields.values_zones hpaper, List.drop_left]
  have hdecode : decodeCommand 0x07 (Cmd.sittingDefine f).fieldBytes =
      readSitting 0x07 (Cmd.sittingDefine f).fieldBytes := rfl
  rw [hdecode, readSitting]
  simp only [hlen, Nat.add_sub_cancel, hread, hzones, htail, SittingFields.values_paper hpaper]
  rw [if_neg (by omega), SittingFields.values_base hpaper 0, SittingFields.values_base hpaper 1,
    SittingFields.values_base hpaper 2, SittingFields.values_base hpaper 3]
  rfl

theorem decode_page {f : PageFields} (h : f.wf = true) :
    decodeCommand 0x41 (Cmd.page f).fieldBytes = .page f := by
  simp only [PageFields.wf, Bool.and_eq_true, decide_eq_true_eq, List.all_eq_true] at h
  obtain ⟨⟨⟨⟨⟨⟨⟨⟨hscript, hflags⟩, hnumber⟩, hpageNo⟩, hpageCount⟩, hcount⟩, hwf⟩, hone⟩, -⟩ := h
  have hhead : (fieldBytes [⟨4, f.script⟩, ⟨1, f.flags⟩, ⟨4, f.numberRead⟩, ⟨1, f.pageNo⟩, ⟨1, f.pageCount⟩,
      ⟨1, f.responseCount⟩]).length = 12 := by simp [length_fieldBytes]
  obtain ⟨heven, hlen⟩ := sum_sizes f.responses
  have htotal : (Cmd.page f).fieldBytes.length = 12 + (f.responses.map Response.size).sum := by
    rw [Cmd.fieldBytes, List.length_append, hhead, length_responses hwf]
  have hread : readFields [4, 1, 4, 1, 1, 1] ((Cmd.page f).fieldBytes.take 12) =
      some [f.script, f.flags, f.numberRead, f.pageNo, f.pageCount, f.responseCount] := by
    rw [Cmd.fieldBytes, List.take_left' hhead]
    exact readFields_fieldBytes rfl (by simp [hscript, hflags, hnumber, hpageNo, hpageCount, hcount])
  have hrest : readResponses (Cmd.page f).fieldBytes.length ((Cmd.page f).fieldBytes.drop 12) = f.responses := by
    rw [htotal, Cmd.fieldBytes, List.drop_left' hhead]
    exact readResponses_bytes hwf (by omega)
  have hdecode : decodeCommand 0x41 (Cmd.page f).fieldBytes = readPage 0x41 (Cmd.page f).fieldBytes := rfl
  rw [hdecode, readPage, if_neg (by omega)]
  simp only [hread, hrest]

/-- The field bytes of a well-formed command, read under its code, are that command. -/
theorem decodeCommand_fieldBytes {c : Cmd} (h : c.wf = true) : decodeCommand c.code c.fieldBytes = c := by
  cases c with
  | layoutDefine a b cs => exact decode_layoutDefine h
  | returnTags n ts => exact decode_returnTags h
  | sittingDefine f => exact decode_sittingDefine h
  | page f => exact decode_page h
  | keyItem f =>
    simp only [Cmd.wf, KeyItemFields.wf, Bool.and_eq_true] at h
    simp [decodeCommand, Cmd.code, Cmd.fieldBytes, readFields_fieldBytes, h]
  | unknown c => cases h
  | badLength c => cases h
  | _ =>
    simp only [Cmd.wf, Bool.and_eq_true] at h
    simp [decodeCommand, Cmd.code, Cmd.fieldBytes, readFields_fieldBytes, h]

end Sys2Proof
end

section
/-! SUPPORT. A whole frame received byte by byte (R163, R164). -/

namespace Sys2Proof

/-- The fields of a well-formed command fit one frame (R163, R179). -/
theorem Cmd.length_fieldBytes_le {c : Cmd} (h : c.wf = true) : c.fieldBytes.length ≤ 238 := by
  cases c with
  | layoutDefine a b cs =>
    simp only [Cmd.wf, Bool.and_eq_true, decide_eq_true_eq] at h
    obtain ⟨⟨-, hcs⟩, -⟩ := h
    simp [Cmd.fieldBytes, length_fieldBytes, List.map_const', List.sum_replicate]
    omega
  | returnTags n ts =>
    simp only [Cmd.wf, Bool.and_eq_true, decide_eq_true_eq] at h
    obtain ⟨⟨-, hts⟩, -⟩ := h
    simp [Cmd.fieldBytes, length_fieldBytes, List.map_const', List.sum_replicate]
    omega
  | sittingDefine f =>
    simp only [Cmd.wf, SittingFields.wf, Bool.and_eq_true, decide_eq_true_eq, beq_iff_eq] at h
    obtain ⟨⟨⟨⟨⟨⟨⟨⟨⟨⟨⟨⟨⟨⟨-, hpaper⟩, -⟩, -⟩, -⟩, -⟩, -⟩, -⟩, hzones⟩, -⟩, -⟩, -⟩, -⟩, -⟩, -⟩ := h
    simp [Cmd.fieldBytes, length_fieldBytes, List.map_const', List.sum_replicate, hpaper]
    omega
  | page f =>
    simp only [Cmd.wf, PageFields.wf, Bool.and_eq_true, decide_eq_true_eq, List.all_eq_true] at h
    obtain ⟨⟨⟨-, hwf⟩, -⟩, hsum⟩ := h
    simp only [Cmd.fieldBytes, List.length_append, length_responses hwf]
    simp [length_fieldBytes]
    omega
  | _ => simp [Cmd.fieldBytes, length_fieldBytes]

end Sys2Proof

namespace Sys2Proof.Machine

section Bytes
variable (s : State) (p : Port)

/-- The bytes of a run received one after the other without error. -/
def State.receiveBytes (s : State) (p : Port) (bs : List Byte) : State :=
  bs.foldl (fun u b => u.receiveByte p b false false) s

/-- A run of bytes received by events is the run received by the assembly. -/
theorem foldl_linkByteReceived (bs : List Byte) :
    bs.foldl (fun o b => match o with
      | some u => (match exec (.linkByteReceived p b false false false) u with
                   | .next v => some v
                   | _ => none)
      | none => none) (some s) = some (s.receiveBytes p bs) := by
  induction bs generalizing s with
  | nil => rfl
  | cons b bs ih => exact ih (s.receiveByte p b false false)

theorem State.receiveBytes_append (bs cs : List Byte) :
    s.receiveBytes p (bs ++ cs) = (s.receiveBytes p bs).receiveBytes p cs := List.foldl_append

@[simp] theorem State.assemble_asm (a : Assembly) : ((s.assemble p a).port p).asm = a := by
  simp [State.assemble]

@[simp] theorem State.assemble_assemble (a b : Assembly) : (s.assemble p a).assemble p b = s.assemble p b := by
  simp [State.assemble]

variable {p}

/-- While the frame is not complete its bytes are gathered (R163). -/
theorem State.receiveBytes_gather {len : Byte} (hlo : 2 ≤ len.toNat) (hhi : len.toNat ≤ 240) (got bs : List Byte)
    (h : (got ++ bs).length < len.toNat + 2) :
    (s.assemble p (.collecting (len :: got) false)).receiveBytes p bs =
      s.assemble p (.collecting (len :: (got ++ bs)) false) := by
  induction bs generalizing got with
  | nil => simp [State.receiveBytes]
  | cons b bs ih =>
    simp only [List.length_append, List.length_cons] at h
    have hb : (s.assemble p (.collecting (len :: got) false)).receiveByte p b false false =
        s.assemble p (.collecting (len :: (got ++ [b])) false) := by
      rw [State.receiveByte_collecting (State.assemble_asm ..), List.cons_append, State.collectByte_of_short hlo hhi,
        State.assemble_assemble]
      · rfl
      · simp
        omega
    have := ih (got ++ [b]) (by simp; omega)
    rw [List.append_assoc] at this
    exact (congrArg (fun u => u.receiveBytes p bs) hb).trans this

theorem State.assemble_of_hunting {s : State} (h : (s.port p).asm = .hunting) : s.assemble p .hunting = s :=
  State.mapPort_of_same (by rw [← h])

/-- A whole frame received without error on a port that is HUNTING is its command's arrival. -/
theorem State.receiveBytes_frame {s : State} {tag code : Byte} {fields : List Byte} (h : (s.port p).asm = .hunting)
    (htag : tag ≠ 0) (hlen : fields.length ≤ 238) :
    s.receiveBytes p (frameBytes tag code fields) = s.arrive p tag (decodeCommand code fields) := by
  have hn : (BitVec.ofNat 8 (fields.length + 2)).toNat = fields.length + 2 := by
    rw [BitVec.toNat_ofNat]
    omega
  generalize hlenByte : BitVec.ofNat 8 (fields.length + 2) = len at hn
  generalize hcrc : (crc16 (len :: tag :: code :: fields)).toNat = crc
  have hcrcLt : crc < 65536 := by
    rw [← hcrc]
    exact BitVec.isLt _
  have hframe : frameBytes tag code fields = [syncByte, len] ++ (tag :: code :: fields ++ [BitVec.ofNat 8 (crc / 256)]) ++
      [BitVec.ofNat 8 crc] := by
    rw [frameBytes_eq, hlenByte, hcrc]
    simp [syncByte]
  have hcheck : (BitVec.ofNat 8 (crc / 256)).toNat * 256 + (BitVec.ofNat 8 crc).toNat =
      (crc16 (len :: tag :: code :: fields)).toNat := by
    rw [hcrc, BitVec.toNat_ofNat, BitVec.toNat_ofNat]
    omega
  have hsync : s.receiveByte p syncByte false false = s.assemble p (.collecting [] false) := by
    rw [State.receiveByte_hunting h]
    rfl
  have hstart : s.receiveBytes p [syncByte, len] = s.assemble p (.collecting [len] false) := by
    have hlenTaken : (s.assemble p (.collecting [] false)).receiveByte p len false false =
        s.assemble p (.collecting [len] false) := by
      rw [State.receiveByte_collecting (State.assemble_asm ..), List.nil_append,
        State.collectByte_of_short (by omega) (by omega) (by simp), State.assemble_assemble]
      rfl
    exact (congrArg (fun u => u.receiveByte p len false false) hsync).trans hlenTaken
  rw [hframe, State.receiveBytes_append, State.receiveBytes_append, hstart,
    State.receiveBytes_gather s (by omega) (by omega) _ _ (by simp; omega)]
  have hlast := State.receiveByte_collecting (s := s.assemble p (.collecting
    (len :: ([] ++ (tag :: code :: fields ++ [BitVec.ofNat 8 (crc / 256)]))) false)) (State.assemble_asm ..)
    (BitVec.ofNat 8 crc) false
  refine hlast.trans ?_
  have hbytes : len :: ([] ++ (tag :: code :: fields ++ [BitVec.ofNat 8 (crc / 256)])) ++ [BitVec.ofNat 8 crc] =
      len :: (tag :: code :: fields ++ [BitVec.ofNat 8 (crc / 256), BitVec.ofNat 8 crc]) := by simp
  rw [hbytes, State.collectByte_of_complete (by omega) (by omega) (by simp; omega)]
  refine (State.completeFrame_eq ..).trans ?_
  rw [if_pos ⟨rfl, htag, hcheck⟩, State.assemble_assemble, State.assemble_of_hunting h]

end Bytes

/-- Settles O58: the fields read back by their widths, and the frame gathered byte by byte. -/
theorem commandFrames : Obligations.CommandFrames := by
  unfold Obligations.CommandFrames
  intro c hwf
  have hdecode := decodeCommand_fieldBytes hwf
  refine ⟨hdecode, fun tag p s htag h => ?_⟩
  have hframe := State.receiveBytes_frame (code := c.code) h htag (Cmd.length_fieldBytes_le hwf)
  rw [hdecode] at hframe
  exact (foldl_linkByteReceived s p _).trans (congrArg some hframe)

end Sys2Proof.Machine
end

section
/-! SUPPORT. The intake and the gates (R2, R3, R164 to R167), and which lengths a command's fields can have. -/

namespace Sys2Proof

/-! ## Fields read from a run of bytes of the right length, and of another -/

theorem readFields_of_length {ws : List Nat} {bs : List Byte} (h : bs.length = ws.sum) :
    ∃ vs, readFields ws bs = some vs ∧ vs.length = ws.length := by
  induction ws generalizing bs with
  | nil =>
    obtain rfl : bs = [] := List.length_eq_zero_iff.mp h
    exact ⟨[], rfl, rfl⟩
  | cons w ws ih =>
    rw [List.sum_cons] at h
    obtain ⟨vs, hvs, hlen⟩ := ih (bs := bs.drop w) (by rw [List.length_drop]; omega)
    exact ⟨ofBytes (bs.take w) :: vs, by rw [readFields, if_neg (by omega), hvs, Option.map_some], by simp [hlen]⟩

theorem readFields_of_length_ne {ws : List Nat} {bs : List Byte} (h : bs.length ≠ ws.sum) : readFields ws bs = none := by
  induction ws generalizing bs with
  | nil =>
    cases bs with
    | nil => exact absurd rfl h
    | cons b bs => rfl
  | cons w ws ih =>
    rw [List.sum_cons] at h
    by_cases hlt : bs.length < w
    · rw [readFields, if_pos hlt]
    · rw [readFields, if_neg hlt, ih (by rw [List.length_drop]; omega), Option.map_none]

end Sys2Proof

namespace Sys2Proof.Machine

/-- A command of a code, neither unknown nor of a bad length. -/
def Cmd.Known (code : Byte) (d : Cmd) : Prop := d.code = code ∧ Cmd.isUnknown d = false ∧ Cmd.isBadLength d = false

/-- What the fields of a code are read as: a command of that code where they have one of its lengths, and else a
bad length. -/
def ReadsAt (code : Byte) (lens : List Nat) (bs : List Byte) : Prop :=
  (bs.length ∈ lens → Cmd.Known code (decodeCommand code bs))
    ∧ (bs.length ∉ lens → decodeCommand code bs = .badLength code)

section Rows
variable {code : Byte} {bs : List Byte}

theorem readsAt_empty (c : Cmd) (hrow : ∀ bs, decodeCommand code bs = if bs = [] then c else .badLength code)
    (hc : Cmd.Known code c) : ReadsAt code [0] bs := by
  simp only [ReadsAt, List.mem_singleton, List.length_eq_zero_iff, hrow]
  exact ⟨fun h => by rwa [if_pos h], fun h => if_neg h⟩

/-- The fields of a row of fixed widths. -/
theorem readsAt_widths {ws : List Nat} (hnone : readFields ws bs = none → decodeCommand code bs = .badLength code)
    (hsome : ∀ vs, readFields ws bs = some vs → vs.length = ws.length → Cmd.Known code (decodeCommand code bs)) :
    ReadsAt code [ws.sum] bs := by
  simp only [ReadsAt, List.mem_singleton]
  refine ⟨fun h => ?_, fun h => hnone (readFields_of_length_ne h)⟩
  obtain ⟨vs, hvs, hlen⟩ := readFields_of_length h
  exact hsome vs hvs hlen

theorem readsAt_one (c : Nat → Cmd) {w : Nat}
    (hrow : decodeCommand code bs = match readFields [w] bs with | some [a] => c a | _ => .badLength code)
    (hc : ∀ a, Cmd.Known code (c a)) : ReadsAt code [[w].sum] bs :=
  readsAt_widths (fun h => by rw [hrow, h]) fun
    | [a], h, _ => by rw [hrow, h]; exact hc a

theorem readsAt_two (c : Nat → Nat → Cmd) {w1 w2 : Nat}
    (hrow : decodeCommand code bs = match readFields [w1, w2] bs with | some [a, b] => c a b | _ => .badLength code)
    (hc : ∀ a b, Cmd.Known code (c a b)) : ReadsAt code [[w1, w2].sum] bs :=
  readsAt_widths (fun h => by rw [hrow, h]) fun
    | [a, b], h, _ => by rw [hrow, h]; exact hc a b

theorem readsAt_three (c : Nat → Nat → Nat → Cmd) {w1 w2 w3 : Nat}
    (hrow : decodeCommand code bs =
      match readFields [w1, w2, w3] bs with | some [a, b, d] => c a b d | _ => .badLength code)
    (hc : ∀ a b d, Cmd.Known code (c a b d)) : ReadsAt code [[w1, w2, w3].sum] bs :=
  readsAt_widths (fun h => by rw [hrow, h]) fun
    | [a, b, d], h, _ => by rw [hrow, h]; exact hc a b d

theorem readsAt_four (c : Nat → Nat → Nat → Nat → Cmd) {w1 w2 w3 w4 : Nat}
    (hrow : decodeCommand code bs =
      match readFields [w1, w2, w3, w4] bs with | some [a, b, d, e] => c a b d e | _ => .badLength code)
    (hc : ∀ a b d e, Cmd.Known code (c a b d e)) : ReadsAt code [[w1, w2, w3, w4].sum] bs :=
  readsAt_widths (fun h => by rw [hrow, h]) fun
    | [a, b, d, e], h, _ => by rw [hrow, h]; exact hc a b d e

theorem readsAt_five (c : Nat → Nat → Nat → Nat → Nat → Cmd) {w1 w2 w3 w4 w5 : Nat}
    (hrow : decodeCommand code bs =
      match readFields [w1, w2, w3, w4, w5] bs with | some [a, b, d, e, f] => c a b d e f | _ => .badLength code)
    (hc : ∀ a b d e f, Cmd.Known code (c a b d e f)) : ReadsAt code [[w1, w2, w3, w4, w5].sum] bs :=
  readsAt_widths (fun h => by rw [hrow, h]) fun
    | [a, b, d, e, f], h, _ => by rw [hrow, h]; exact hc a b d e f

/-- KEY_ITEM's nine fields. -/
theorem readsAt_keyItem : ReadsAt 0x0E [15] bs := by
  have hrow : decodeCommand 0x0E bs = match readFields [1, 1, 1, 1, 1, 1, 4, 4, 1] bs with
      | some [a, b, d, e, f, g, h, i, j] => .keyItem ⟨a, b, d, e, f, g, h, i, j⟩ | _ => .badLength 0x0E := rfl
  exact readsAt_widths (ws := [1, 1, 1, 1, 1, 1, 4, 4, 1]) (fun h => by rw [hrow, h]) fun
    | [a, b, d, e, f, g, h, i, j], hvs, _ => by rw [hrow, hvs]; exact ⟨rfl, rfl, rfl⟩

theorem readsAt_layoutDefine : ReadsAt 0x09 ((List.range 4).map (fun k => 3 + k)) bs := by
  have hrow : decodeCommand 0x09 bs =
      if bs.length < 3 ∨ 6 < bs.length then .badLength 0x09
      else match readFields (List.replicate bs.length 1) bs with
        | some (a :: b :: counts) => .layoutDefine a b counts
        | _ => .badLength 0x09 := rfl
  have hlens : bs.length ∈ (List.range 4).map (fun k => 3 + k) ↔ ¬ (bs.length < 3 ∨ 6 < bs.length) := by
    simp only [List.mem_map, List.mem_range]
    exact ⟨fun ⟨k, hk, h⟩ => by omega, fun h => ⟨bs.length - 3, by omega, by omega⟩⟩
  refine ⟨fun h => ?_, fun h => ?_⟩
  · obtain ⟨vs, hvs, hlen⟩ := readFields_of_length (ws := List.replicate bs.length 1) (bs := bs) (by simp)
    rw [List.length_replicate] at hlen
    rw [hlens] at h
    rw [hrow, if_neg h, hvs]
    match vs, hlen with
    | a :: b :: counts, _ => exact ⟨rfl, rfl, rfl⟩
    | [], hlen => simp at hlen; omega
    | [a], hlen => simp at hlen; omega
  · rw [hrow, if_pos (by rwa [hlens, not_not] at h)]

theorem readsAt_returnTags : ReadsAt 0x2C ((List.range 16).map (fun k => 5 + 4 * k)) bs := by
  have hrow : decodeCommand 0x2C bs =
      let k := (bs.length - 1) / 4
      if bs.length ≠ 1 + 4 * k ∨ k = 0 ∨ 16 < k then .badLength 0x2C
      else match readFields (1 :: List.replicate k 4) bs with
        | some (n :: scripts) => .returnTags n scripts
        | _ => .badLength 0x2C := rfl
  generalize hk : (bs.length - 1) / 4 = k at hrow
  have hlens : bs.length ∈ (List.range 16).map (fun k => 5 + 4 * k) ↔ ¬ (bs.length ≠ 1 + 4 * k ∨ k = 0 ∨ 16 < k) := by
    simp only [List.mem_map, List.mem_range]
    exact ⟨fun ⟨j, hj, h⟩ => by omega, fun h => ⟨k - 1, by omega, by omega⟩⟩
  refine ⟨fun h => ?_, fun h => ?_⟩
  · rw [hlens] at h
    obtain ⟨vs, hvs, hlen⟩ := readFields_of_length (ws := 1 :: List.replicate k 4) (bs := bs)
      (by simp [List.sum_replicate]; omega)
    simp only [hrow, if_neg h, hvs]
    match vs, hlen with
    | n :: scripts, _ => exact ⟨rfl, rfl, rfl⟩
  · rw [hrow]
    exact if_pos (by rwa [hlens, not_not] at h)

theorem readsAt_sittingDefine : ReadsAt 0x07 ((List.range 8).map (fun k => 24 + k)) bs := by
  have hrow : decodeCommand 0x07 bs = readSitting 0x07 bs := rfl
  have hlens : bs.length ∈ (List.range 8).map (fun k => 24 + k) ↔ ¬ (bs.length < 24 ∨ 31 < bs.length) := by
    simp only [List.mem_map, List.mem_range]
    exact ⟨fun ⟨j, hj, h⟩ => by omega, fun h => ⟨bs.length - 24, by omega, by omega⟩⟩
  refine ⟨fun h => ?_, fun h => ?_⟩
  · rw [hlens] at h
    obtain ⟨vs, hvs, -⟩ := readFields_of_length (bs := bs)
      (ws := List.replicate 9 1 ++ [2, 2, 2, 1] ++ List.replicate (bs.length - 23) 1 ++ [2, 2, 1, 1, 1])
      (by simp [List.sum_replicate]; omega)
    rw [hrow, readSitting]
    simp only [if_neg h, hvs]
    exact ⟨rfl, rfl, rfl⟩
  · rw [hrow, readSitting]
    exact if_pos (by rwa [hlens, not_not] at h)

theorem readsAt_page (hbs : bs.length ≤ 238) : ReadsAt 0x41 ((List.range 113).map (fun k => 14 + 2 * k)) bs := by
  have hrow : decodeCommand 0x41 bs = Sys2Proof.readPage 0x41 bs := rfl
  have hlens : bs.length ∈ (List.range 113).map (fun k => 14 + 2 * k) ↔ ¬ (bs.length < 14 ∨ bs.length % 2 = 1) := by
    simp only [List.mem_map, List.mem_range]
    exact ⟨fun ⟨j, hj, h⟩ => by omega, fun h => ⟨(bs.length - 14) / 2, by omega, by omega⟩⟩
  refine ⟨fun h => ?_, fun h => ?_⟩
  · rw [hlens] at h
    obtain ⟨vs, hvs, hlen⟩ := readFields_of_length (ws := [4, 1, 4, 1, 1, 1]) (bs := bs.take 12) (by simp; omega)
    rw [hrow, Sys2Proof.readPage, if_neg h, hvs]
    match vs, hlen with
    | [a, b, c, d, e, f], _ => exact ⟨rfl, rfl, rfl⟩
  · rw [hrow, Sys2Proof.readPage, if_pos (by rwa [hlens, not_not] at h)]

/-- Every code's row (R178). -/
theorem decodeCommand_readsAt {c : Cmd} (hc : Cmd.isUnknown c = false ∧ Cmd.isBadLength c = false) (hbs : bs.length ≤ 238) :
    ReadsAt c.code (lengthsOf c.code.toNat) bs := by
  cases c with
  | sessionOpen => exact readsAt_two .sessionOpen rfl fun _ _ => ⟨rfl, rfl, rfl⟩
  | sessionGo => exact readsAt_empty .sessionGo (fun _ => rfl) ⟨rfl, rfl, rfl⟩
  | sessionClose => exact readsAt_empty .sessionClose (fun _ => rfl) ⟨rfl, rfl, rfl⟩
  | sessionDiscard => exact readsAt_empty .sessionDiscard (fun _ => rfl) ⟨rfl, rfl, rfl⟩
  | seatDefine => exact readsAt_five .seatDefine rfl fun _ _ _ _ _ => ⟨rfl, rfl, rfl⟩
  | zoneGrant => exact readsAt_three .zoneGrant rfl fun _ _ _ => ⟨rfl, rfl, rfl⟩
  | sittingDefine f => exact readsAt_sittingDefine
  | cueDefine => exact readsAt_five .cueDefine rfl fun _ _ _ _ _ => ⟨rfl, rfl, rfl⟩
  | layoutDefine => exact readsAt_layoutDefine
  | candidateAdd => exact readsAt_five .candidateAdd rfl fun _ _ _ _ _ => ⟨rfl, rfl, rfl⟩
  | candidateAmend => exact readsAt_four .candidateAmend rfl fun _ _ _ _ => ⟨rfl, rfl, rfl⟩
  | allocate => exact readsAt_one .allocate rfl fun _ => ⟨rfl, rfl, rfl⟩
  | allocAbort => exact readsAt_empty .allocAbort (fun _ => rfl) ⟨rfl, rfl, rfl⟩
  | keyItem f => exact readsAt_keyItem
  | keySeal => exact readsAt_one .keySeal rfl fun _ => ⟨rfl, rfl, rfl⟩
  | keyUnseal => exact readsAt_one .keyUnseal rfl fun _ => ⟨rfl, rfl, rfl⟩
  | remark => exact readsAt_one .remark rfl fun _ => ⟨rfl, rfl, rfl⟩
  | finalise => exact readsAt_one .finalise rfl fun _ => ⟨rfl, rfl, rfl⟩
  | archiveExported => exact readsAt_one .archiveExported rfl fun _ => ⟨rfl, rfl, rfl⟩
  | archiveErase => exact readsAt_two .archiveErase rfl fun _ _ => ⟨rfl, rfl, rfl⟩
  | openDoors => exact readsAt_one .openDoors rfl fun _ => ⟨rfl, rfl, rfl⟩
  | start => exact readsAt_one .start rfl fun _ => ⟨rfl, rfl, rfl⟩
  | pause => exact readsAt_one .pause rfl fun _ => ⟨rfl, rfl, rfl⟩
  | resume => exact readsAt_one .resume rfl fun _ => ⟨rfl, rfl, rfl⟩
  | admitDesk => exact readsAt_four .admitDesk rfl fun _ _ _ _ => ⟨rfl, rfl, rfl⟩
  | move => exact readsAt_three .move rfl fun _ _ _ => ⟨rfl, rfl, rfl⟩
  | seatService => exact readsAt_two .seatService rfl fun _ _ => ⟨rfl, rfl, rfl⟩
  | restStart => exact readsAt_one .restStart rfl fun _ => ⟨rfl, rfl, rfl⟩
  | restEnd => exact readsAt_one .restEnd rfl fun _ => ⟨rfl, rfl, rfl⟩
  | finish => exact readsAt_one .finish rfl fun _ => ⟨rfl, rfl, rfl⟩
  | withdraw => exact readsAt_one .withdraw rfl fun _ => ⟨rfl, rfl, rfl⟩
  | issueTag => exact readsAt_two .issueTag rfl fun _ _ => ⟨rfl, rfl, rfl⟩
  | returnTags => exact readsAt_returnTags
  | voidTag => exact readsAt_one .voidTag rfl fun _ => ⟨rfl, rfl, rfl⟩
  | claimTag => exact readsAt_two .claimTag rfl fun _ _ => ⟨rfl, rfl, rfl⟩
  | announce => exact readsAt_three .announce rfl fun _ _ _ => ⟨rfl, rfl, rfl⟩
  | batchOpen => exact readsAt_one .batchOpen rfl fun _ => ⟨rfl, rfl, rfl⟩
  | page f => exact readsAt_page hbs
  | sheetQuery => exact readsAt_one .sheetQuery rfl fun _ => ⟨rfl, rfl, rfl⟩
  | sheetDiscard => exact readsAt_one .sheetDiscard rfl fun _ => ⟨rfl, rfl, rfl⟩
  | batchClose => exact readsAt_empty .batchClose (fun _ => rfl) ⟨rfl, rfl, rfl⟩
  | archiveRead => exact readsAt_one .archiveRead rfl fun _ => ⟨rfl, rfl, rfl⟩
  | readCandidate => exact readsAt_two .readCandidate rfl fun _ _ => ⟨rfl, rfl, rfl⟩
  | readSeat => exact readsAt_one .readSeat rfl fun _ => ⟨rfl, rfl, rfl⟩
  | readSitting => exact readsAt_one .readSitting rfl fun _ => ⟨rfl, rfl, rfl⟩
  | portStatus => exact readsAt_empty .portStatus (fun _ => rfl) ⟨rfl, rfl, rfl⟩
  | archiveStatus => exact readsAt_empty .archiveStatus (fun _ => rfl) ⟨rfl, rfl, rfl⟩
  | unknown code => exact Bool.noConfusion hc.1
  | badLength code => exact Bool.noConfusion hc.2

end Rows

/-! ## Roles and session states -/

/-- A port's list holds a known command exactly when the port's role takes its code (R167). -/
theorem listedFor_eq {c : Cmd} (hc : Cmd.isUnknown c = false ∧ Cmd.isBadLength c = false) (p : Port) :
    listedFor p c = roleTakes p c.code := by
  cases c with
  | unknown code => exact Bool.noConfusion hc.1
  | badLength code => exact Bool.noConfusion hc.2
  | _ => cases p <;> rfl

theorem mem_markedFor_iff (c : Cmd) (st : SessionState) : st ∈ markedFor c ↔ sessionTakes c st = true := by
  have hmarked : sessionTakes c st = decide (st ∈ markedFor c) := by
    cases c <;> cases st <;> rfl
  simp [hmarked]

theorem statusCode_iff {c : Cmd} (hc : Cmd.isUnknown c = false ∧ Cmd.isBadLength c = false) :
    statusCode c.code = true ↔ c = .portStatus ∨ c = .archiveStatus := by
  cases c with
  | unknown code => exact Bool.noConfusion hc.1
  | badLength code => exact Bool.noConfusion hc.2
  | _ => simp [Cmd.code, statusCode]

theorem known_of_linkCommand {i : Instr} {p : Port} {tag : Byte} {c : Cmd} (hi : linkCommand i = some (p, tag, c)) :
    Cmd.isUnknown c = false ∧ Cmd.isBadLength c = false := by
  cases i
  all_goals cases hi
  all_goals exact ⟨rfl, rfl⟩

theorem known_iff {c : Cmd} :
    (Cmd.isUnknown c = false ∧ Cmd.isBadLength c = false) ↔ ∀ b, c ≠ .unknown b ∧ c ≠ .badLength b := by
  cases c <;> simp [Cmd.isUnknown, Cmd.isBadLength]

/-! ## The gates (R166) -/

section Gate
variable {s : State} {p : Port} {tag : Byte} {c : Cmd} {r : ResultCode}

/-- A command that a gate turns away changes nothing but its port. -/
theorem State.arrive_gated (htag : tag ≠ 0) (hservice : (s.port p).inService = none) (hbuffer : (s.port p).buffer = none)
    (hgate : s.gate p c = some r) : s.arrive p tag c = s.replied p tag c r [] := by
  rw [State.arrive_idle c htag hservice hbuffer, State.judge, hgate]
  rfl

theorem State.gate_busy (hscan : s.arch.scan.isSome = true) (hc : statusCode c.code = false) :
    s.gate p c = some .busy :=
  if_pos ⟨hscan, by simp [hc]⟩

theorem State.gate_unknown (hscan : s.arch.scan = none) (hc : Cmd.isUnknown c = true) : s.gate p c = some .unknown := by
  simp [State.gate, State.scanning, hscan, hc]

theorem State.gate_role (hscan : s.arch.scan = none) (hc : Cmd.isUnknown c = false) (hrole : roleTakes p c.code = false) :
    s.gate p c = some .role := by
  simp [State.gate, State.scanning, hscan, hc, hrole]

theorem State.gate_length (hscan : s.arch.scan = none) (hrole : roleTakes p code = true) :
    s.gate p (.badLength code) = some .length := by
  have hcode : (Cmd.badLength code).code = code := rfl
  simp [State.gate, State.scanning, hscan, Cmd.isUnknown, hcode, hrole, Cmd.isBadLength]

theorem State.gate_state (hscan : s.arch.scan = none) (hc : Cmd.isUnknown c = false ∧ Cmd.isBadLength c = false)
    (hrole : roleTakes p c.code = true) (hsession : sessionTakes c s.hall.session = false) :
    s.gate p c = some .state := by
  simp [State.gate, State.scanning, hscan, hc, hrole, hsession]

end Gate

/-- Settles O8: each gate in its order, the lengths of each code's fields, and the intake. -/
theorem intakeAndGates : Obligations.IntakeAndGates := by
  unfold Obligations.IntakeAndGates
  refine ⟨fun i p tag c s hi hservice hbuffer htag => ?_, fun p tag code s hready hcode => ?_,
    fun p tag c fields s hready hc hlen => ?_, fun i p tag c s hi => ?_⟩
  · have hc := known_of_linkCommand hi
    have hlisted := listedFor_eq hc p
    have gated : ∀ {r}, s.gate p c = some r → exec i s = .next (s.replied p tag c r []) := fun h => by
      rw [exec_of_linkCommand hi, State.arrive_gated htag hservice hbuffer h]
    refine ⟨fun hscan h1 h2 => gated (State.gate_busy hscan ?_),
      fun hscan hl => gated (State.gate_role hscan hc.1 (by rw [← hlisted, hl])),
      fun hscan hl hsession => gated (State.gate_state hscan hc (by rw [← hlisted, hl]) ?_)⟩
    · rw [Bool.eq_false_iff, Ne, statusCode_iff hc]
      exact not_or.mpr ⟨h1, h2⟩
    · rwa [mem_markedFor_iff, Bool.not_eq_true] at hsession
  · obtain ⟨hscan, hservice, hbuffer, htag⟩ := hready
    have hexec : exec (.unknownCommand p tag code) s = .next (s.arrive p tag (.unknown code)) := by
      have : exec (.unknownCommand p tag code) s = execUnknownCommand p tag code s := rfl
      rw [this, execUnknownCommand, if_neg (by simp [hcode])]
    rw [hexec, State.arrive_gated htag hservice hbuffer (State.gate_unknown hscan rfl)]
  · obtain ⟨hscan, hservice, hbuffer, htag⟩ := hready
    intro d
    have hknown := known_iff.mpr hc
    obtain ⟨hgood, hbad⟩ := decodeCommand_readsAt hknown hlen
    have hlisted := listedFor_eq hknown p
    have hd : d.code = c.code ∧ Cmd.isUnknown d = false := by
      by_cases hin : fields.length ∈ lengthsOf c.code.toNat
      · obtain ⟨hcode, hu, -⟩ := hgood hin
        exact ⟨hcode, hu⟩
      · simp only [d, hbad hin]
        exact ⟨rfl, rfl⟩
    refine ⟨fun hl => State.arrive_gated htag hservice hbuffer (State.gate_role hscan hd.2 ?_), fun hl hout => ?_,
      fun hin => ?_⟩
    · rw [hd.1, ← hlisted, hl]
    · have hdbad : d = .badLength c.code := hbad hout
      rw [hdbad]
      exact State.arrive_gated htag hservice hbuffer (State.gate_length hscan (by rw [← hlisted, hl]))
    · obtain ⟨hcode, -, hb⟩ := hgood hin
      exact ⟨hcode, (known_iff.mp ⟨hd.2, hb⟩ c.code).2⟩
  · rw [exec_of_linkCommand hi]
    refine ⟨fun htag hservice hbuffer => ?_, fun htag hbuffer => ?_, fun htag => ?_⟩
    · obtain ⟨f, hf⟩ := Option.isSome_iff_exists.mp hservice
      simp only [State.arrive, if_neg htag, State.intake, hf, hbuffer]
    · obtain ⟨f, hf⟩ := Option.isSome_iff_exists.mp hbuffer
      simp only [State.arrive, if_neg htag, State.intake, hf]
      rfl
    · rw [State.arrive, if_pos htag]
      rfl

end Sys2Proof.Machine
end

section
/-! SUPPORT. The allocation run (Chapter 2): whose turn it is, the zones tried, and how a run begins and ends. -/

namespace Sys2Proof.Machine

/-! ## Whose turn it is (R26) -/

section Turns
variable {s : State} {n : Nat} {pass : Pass} {after : Nat}

/-- The lower number of two, folded over a list, is found where one candidate has a number below every other. -/
theorem foldl_lowerNumber_of_least {l : List Cand} {c : Cand} (hleast : ∀ d ∈ l, d ≠ c → c.number < d.number)
    {best : Option Cand} (hbest : ∀ b, best = some b → b ≠ c → c.number < b.number) (hc : c ∈ l ∨ best = some c) :
    l.foldl lowerNumber best = some c := by
  induction l generalizing best with
  | nil => exact hc.resolve_left List.not_mem_nil
  | cons d l ih =>
    refine ih (fun e he => hleast e (List.mem_cons_of_mem _ he)) ?_ ?_
    · intro b hb hne
      cases best with
      | none =>
        obtain rfl : d = b := Option.some.inj hb
        exact hleast d List.mem_cons_self hne
      | some b' =>
        simp only [lowerNumber] at hb
        split at hb
        · obtain rfl : d = b := Option.some.inj hb
          exact hleast d List.mem_cons_self hne
        · obtain rfl : b' = b := Option.some.inj hb
          exact hbest b' rfl hne
    · by_cases hdc : d = c
      · subst hdc
        right
        cases best with
        | none => rfl
        | some b =>
          simp only [lowerNumber]
          by_cases hbd : b = d
          · subst hbd
            simp
          · rw [if_pos (hbest b rfl hbd)]
      · obtain hmem | hbest' := hc
        · exact .inl ((List.mem_cons.mp hmem).resolve_left (Ne.symm hdc))
        · right
          have := hleast d List.mem_cons_self hdc
          rw [hbest', lowerNumber, if_neg (by omega)]

theorem State.nextTurn_of_least {c : Cand} (hmem : c ∈ s.hall.cands) (hc : c.awaits n pass after = true)
    (hleast : ∀ d ∈ s.hall.cands, d.awaits n pass after = true → d ≠ c → c.number < d.number) :
    s.nextTurn n pass after = some c := by
  have hfilter : c ∈ s.hall.cands.filter (fun c => c.awaits n pass after) := List.mem_filter.mpr ⟨hmem, hc⟩
  refine foldl_lowerNumber_of_least (best := none) (fun d hd hne => ?_) (fun b hb => by cases hb) (.inl hfilter)
  obtain ⟨hd, hawaits⟩ := List.mem_filter.mp hd
  exact hleast d hd hawaits hne

/-- What the lower number of two, folded over a list, gives is of the list. -/
theorem mem_of_foldl_lowerNumber {l : List Cand} {best : Option Cand} {c : Cand}
    (h : l.foldl lowerNumber best = some c) : c ∈ l ∨ best = some c := by
  induction l generalizing best with
  | nil => exact .inr h
  | cons d l ih =>
    obtain hmem | hbest := ih h
    · exact .inl (List.mem_cons_of_mem _ hmem)
    · cases best with
      | none =>
        obtain rfl : d = c := Option.some.inj hbest
        exact .inl List.mem_cons_self
      | some b =>
        simp only [lowerNumber] at hbest
        split at hbest
        · obtain rfl : d = c := Option.some.inj hbest
          exact .inl List.mem_cons_self
        · exact .inr hbest

theorem State.mem_of_nextTurn {c : Cand} (h : s.nextTurn n pass after = some c) :
    c ∈ s.hall.cands ∧ c.awaits n pass after = true := by
  obtain hmem | hnone := mem_of_foldl_lowerNumber h
  · exact List.mem_filter.mp hmem
  · cases hnone

theorem foldl_lowerNumber_isSome (l : List Cand) (b : Cand) : (l.foldl lowerNumber (some b)).isSome = true := by
  induction l generalizing b with
  | nil => rfl
  | cons d l ih =>
    rw [List.foldl_cons, lowerNumber]
    split <;> exact ih _

theorem State.nextTurn_eq_none : s.nextTurn n pass after = none ↔ ∀ d ∈ s.hall.cands, d.awaits n pass after = false := by
  rw [State.nextTurn]
  cases hl : s.hall.cands.filter (fun c => c.awaits n pass after) with
  | nil => simpa using hl
  | cons d l =>
    have hd : d ∈ s.hall.cands ∧ d.awaits n pass after = true := List.mem_filter.mp (by rw [hl]; exact List.mem_cons_self)
    have hsome := foldl_lowerNumber_isSome l d
    constructor
    · intro h
      have h' : l.foldl lowerNumber (some d) = none := h
      rw [h'] at hsome
      cases hsome
    · intro h
      rw [h d hd.1] at hd
      exact absurd hd.2 (by simp)

theorem State.settlePass_eq (s : State) (n : Nat) (a : Alloc) :
    s.settlePass n a = if a.pass = .access ∧ ∀ d ∈ s.hall.cands, d.awaits n .access a.lastTurn = false then
      { a with pass := .standard, dropped := a.dropped.map (fun _ => false), lastTurn := 0 } else a := by
  simp only [State.settlePass, Option.isNone_iff_eq_none, State.nextTurn_eq_none]

/-- Nobody is left without a turn: none of the pass, and none of the pass that follows it (R31). -/
theorem State.turnsLeft_eq_zero (s : State) (n : Nat) (a : Alloc) :
    s.turnsLeft n a = 0 ↔ ¬ ((∃ d ∈ s.hall.cands, d.awaits n a.pass a.lastTurn = true) ∨
      (a.pass = .access ∧ ∃ d ∈ s.hall.cands, d.awaits n .standard 0 = true)) := by
  have hcount : ∀ pass after, (s.hall.cands.filter (fun c => c.awaits n pass after)).length = 0 ↔
      ¬ ∃ d ∈ s.hall.cands, d.awaits n pass after = true := by
    intro pass after
    simp [List.length_eq_zero_iff, List.filter_eq_nil_iff]
  cases hp : a.pass with
  | access => simp only [State.turnsLeft, hp, Nat.add_eq_zero_iff, hcount, not_or, true_and]
  | standard => simp only [State.turnsLeft, hp, hcount, reduceCtorEq, false_and, or_false]

theorem State.endIfDone_of_left {s : State} (h : s.turnsLeft n s.alloc ≠ 0) : s.endIfDone n = s := if_neg h

theorem State.endIfDone_of_none {s : State} (h : s.turnsLeft n s.alloc = 0) :
    s.endIfDone n = { s.mapSitting n (fun x => { x with inFlight := false }) with
        alloc := { s.alloc with running := false, sitting := none } }.notify .g
      (.allocDone n s.alloc.placed s.alloc.unplaced false s.hall.time) := by
  rw [State.endIfDone, if_pos h, State.endRun, h]
  rfl

end Turns

/-! ## ALLOCATE and ALLOC_ABORT (R25, R33) -/

/-- The run that ALLOCATE begins for a sitting (R25). -/
def Alloc.begun (n : Nat) (zones : List Nat) : Alloc :=
  { running := true, sitting := some n, pass := .access, cursor := 0, accessFill := zones.map (fun _ => 0),
    standardFill := zones.map (fun _ => 0), dropped := zones.map (fun _ => false) }

section Begin
variable {s : State} {n : Nat} {x : Sitting}

theorem cmdAllocate_of_free (hlo : 1 ≤ n) (hhi : n ≤ 12) (hx : s.sitting? n = some x) (hrun : s.alloc.running = false)
    (hstate : x.state = .defined ∨ x.state = .opened) :
    cmdAllocate n s =
      ⟨{ s.mapSitting n (fun y => { y with inFlight := true }) with alloc := Alloc.begun n x.zones }.endIfDone n,
        .accepted, []⟩ := by
  have hopen : ¬ (x.state ≠ .defined ∧ x.state ≠ .opened) := fun ⟨h1, h2⟩ => hstate.elim h1 h2
  rw [cmdAllocate, if_neg (by simp [sittingOk_of_inRange hlo hhi])]
  simp only [hx, hrun, Bool.false_eq_true, if_false, if_neg hopen, Alloc.begun, List.map_const']

theorem cmdAllocAbort_of_none (h : s.alloc.running = false) : cmdAllocAbort s = refuse s .state := by
  simp only [cmdAllocAbort, h]

theorem cmdAllocAbort_of_run (h : s.alloc.running = true) (hn : s.alloc.sitting = some n) :
    cmdAllocAbort s = okay ({ s with alloc := { s.alloc with abort := true } }.endRun n true) := by
  simp only [cmdAllocAbort, h, hn]

end Begin

/-- Settles O16: the run begun and, with nobody to visit, ended at once; the abort. -/
theorem runsBeginAndAbort : Obligations.RunsBeginAndAbort := by
  unfold Obligations.RunsBeginAndAbort
  have hgate : ∀ {s : State} {c : Cmd}, (s.hall.session = .loading ∨ s.hall.session = .live) →
      (∀ st, sessionTakes c st = (decide (st = .loading) || decide (st = .live))) →
      sessionTakes c s.hall.session = true := by
    rintro s c (h | h) hc <;> rw [hc, h] <;> rfl
  refine ⟨fun tag n x s hready hsession hlo hhi hx hrun hstate => ?_, fun tag s hready hsession =>
    ⟨fun hrun => ?_, fun n hrun hn => ?_⟩⟩
  · intro a t
    have hcmd := cmdAllocate_of_free hlo hhi hx hrun hstate
    have hbegun : Alloc.begun n x.zones = a := rfl
    have hleft := t.turnsLeft_eq_zero n a
    rw [hbegun] at hcmd
    refine ⟨fun ⟨c, hc, hcn, hexp, hseat, hnum⟩ => ?_, fun hnone => ?_⟩
    · have hturns : t.turnsLeft n t.alloc ≠ 0 := by
        rw [Ne, hleft, not_not]
        cases hacc : c.access with
        | true => exact .inl ⟨c, hc, by simp [Cand.awaits, hcn, hexp, hseat, hacc, hnum, a]⟩
        | false => exact .inr ⟨rfl, c, hc, by simp [Cand.awaits, hcn, hexp, hseat, hacc, hnum]⟩
      rw [State.endIfDone_of_left (s := t) hturns] at hcmd
      exact exec_taken rfl hready ⟨rfl, rfl, rfl⟩ (hgate hsession fun _ => rfl) hcmd
    · have hnobody : ∀ d ∈ t.hall.cands, ∀ pass after, ¬ d.awaits n pass after = true := by
        intro d hd pass after hawaits
        simp only [Cand.awaits, Bool.and_eq_true, beq_iff_eq, decide_eq_true_eq, Option.isNone_iff_eq_none] at hawaits
        obtain ⟨⟨⟨⟨hdn, hexp⟩, hseat⟩, -⟩, -⟩ := hawaits
        exact hnone d hd ⟨hdn, hexp, hseat⟩
      have hturns : t.turnsLeft n t.alloc = 0 := by
        rw [hleft]
        rintro (⟨d, hd, hawaits⟩ | ⟨-, d, hd, hawaits⟩)
        · exact hnobody d hd _ _ hawaits
        · exact hnobody d hd _ _ hawaits
      rw [State.endIfDone_of_none (s := t) hturns] at hcmd
      exact exec_taken rfl hready ⟨rfl, rfl, rfl⟩ (hgate hsession fun _ => rfl) hcmd
  · exact exec_taken rfl hready ⟨rfl, rfl, rfl⟩ (hgate hsession fun _ => rfl) (cmdAllocAbort_of_none hrun)
  · exact exec_taken rfl hready ⟨rfl, rfl, rfl⟩ (hgate hsession fun _ => rfl) (cmdAllocAbort_of_run hrun hn)

end Sys2Proof.Machine
end

section
/-! SUPPORT. A turn of the allocation run (R26 to R31): the zones tried in order, the fill positions and dropped
marks they leave, and the serpentine order of a zone. -/

namespace Sys2Proof.Machine

/-! ## Seats searched from a fill position on (R27) -/

section Search
variable {s : State} {n : Nat} {pass : Pass}

theorem State.searchFrom_none {l : List Seat} (h : ∀ z ∈ l, s.qualifies n pass z = false) (k : Nat) :
    s.searchFrom n pass l k = (none, k + l.length) := by
  induction l generalizing k with
  | nil => rfl
  | cons z l ih =>
    rw [State.searchFrom, if_neg (by simp [h z List.mem_cons_self]), ih fun y hy => h y (List.mem_cons_of_mem _ hy),
      List.length_cons]
    congr 1
    omega

theorem State.searchFrom_some {l : List Seat} {m : Nat} {y : Seat} (hy : l[m]? = some y) (hq : s.qualifies n pass y = true)
    (hbefore : ∀ j z, j < m → l[j]? = some z → s.qualifies n pass z = false) (k : Nat) :
    s.searchFrom n pass l k = (some y.seat, k + m + 1) := by
  induction l generalizing k m with
  | nil => cases hy
  | cons z l ih =>
    cases m with
    | zero =>
      obtain rfl : z = y := by simpa using hy
      rw [State.searchFrom, if_pos hq, Nat.add_zero]
    | succ m =>
      have hz := hbefore 0 z (Nat.succ_pos m) rfl
      rw [State.searchFrom, if_neg (by simp [hz]),
        ih (by simpa using hy) fun j w hj hw => hbefore (j + 1) w (by omega) (by simpa using hw)]
      congr 1
      omega

/-- A seat that the search gives qualifies. -/
theorem State.qualifies_of_searchFrom {l : List Seat} {k m v : Nat} (h : s.searchFrom n pass l k = (some m, v)) :
    ∃ y ∈ l, y.seat = m ∧ s.qualifies n pass y = true := by
  induction l generalizing k with
  | nil => cases h
  | cons z l ih =>
    rw [State.searchFrom] at h
    split at h
    next hz =>
      obtain ⟨hm, -⟩ := Prod.mk.inj h
      exact ⟨z, List.mem_cons_self, Option.some.inj hm, hz⟩
    next =>
      obtain ⟨y, hy, hm, hq⟩ := ih h
      exact ⟨y, List.mem_cons_of_mem _ hy, hm, hq⟩

end Search

/-! ## The fill positions and the dropped marks -/

/-- The fill positions of the current pass. -/
def Alloc.fills (a : Alloc) : List Nat :=
  match a.pass with
  | .access => a.accessFill
  | .standard => a.standardFill

/-- A zone searched without a seat found: its fill position past its end, the zone dropped. -/
def Alloc.exhaust (a : Alloc) (j len : Nat) : Alloc :=
  { a.setFill j (max (a.fill j) len) with dropped := a.dropped.set j true }

/-- A zone of the list passed over in a turn: one dropped before is not searched. -/
def Alloc.passOver (len : Nat → Nat) (a : Alloc) (j : Nat) : Alloc :=
  if a.dropped.getD j false then a else a.exhaust j (len j)

section Fill
variable (a : Alloc) (j v : Nat)

theorem Alloc.fill_eq : a.fill j = a.fills.getD j 0 := by
  rw [Alloc.fill, Alloc.fills]
  cases a.pass <;> rfl

@[simp] theorem Alloc.setFill_pass : (a.setFill j v).pass = a.pass := by
  obtain ⟨running, sitting, pass⟩ := a
  cases pass <;> rfl

@[simp] theorem Alloc.setFill_dropped : (a.setFill j v).dropped = a.dropped := by
  rw [Alloc.setFill]
  cases a.pass <;> rfl

theorem Alloc.setFill_fills : (a.setFill j v).fills = a.fills.set j v := by
  rw [Alloc.fills, Alloc.setFill_pass, Alloc.setFill, Alloc.fills]
  cases a.pass <;> rfl

@[simp] theorem Alloc.exhaust_pass (len : Nat) : (a.exhaust j len).pass = a.pass := Alloc.setFill_pass ..

theorem Alloc.exhaust_fills (len : Nat) : (a.exhaust j len).fills = a.fills.set j (max (a.fill j) len) :=
  Alloc.setFill_fills ..

/-- What a turn's search leaves of a run: the fill positions and the dropped marks alone change, and the
fill positions of the other pass stay. -/
structure FillsOnly (a v : Alloc) : Prop where
  rest : v = { a with accessFill := v.accessFill, standardFill := v.standardFill, dropped := v.dropped }
  dropped : v.dropped.length = a.dropped.length
  access : v.accessFill.length = a.accessFill.length
  standard : v.standardFill.length = a.standardFill.length
  ofAccess : a.pass = .access → v.standardFill = a.standardFill
  ofStandard : a.pass = .standard → v.accessFill = a.accessFill

theorem FillsOnly.refl (a : Alloc) : FillsOnly a a := ⟨rfl, rfl, rfl, rfl, fun _ => rfl, fun _ => rfl⟩

variable {a}

theorem FillsOnly.pass {v : Alloc} (h : FillsOnly a v) : v.pass = a.pass := by rw [h.rest]

theorem FillsOnly.trans {b c : Alloc} (h1 : FillsOnly a b) (h2 : FillsOnly b c) : FillsOnly a c where
  rest := by
    refine h2.rest.trans ?_
    rw [h1.rest]
  dropped := h2.dropped.trans h1.dropped
  access := h2.access.trans h1.access
  standard := h2.standard.trans h1.standard
  ofAccess hp := (h2.ofAccess (h1.pass.trans hp)).trans (h1.ofAccess hp)
  ofStandard hp := (h2.ofStandard (h1.pass.trans hp)).trans (h1.ofStandard hp)

variable (a)

theorem Alloc.setFill_fillsOnly : FillsOnly a (a.setFill j v) := by
  obtain ⟨running, sitting, pass⟩ := a
  cases pass with
  | access => exact ⟨rfl, rfl, List.length_set, rfl, fun _ => rfl, (by rintro ⟨⟩)⟩
  | standard => exact ⟨rfl, rfl, rfl, List.length_set, (by rintro ⟨⟩), fun _ => rfl⟩

theorem Alloc.exhaust_fillsOnly (len : Nat) : FillsOnly a (a.exhaust j len) := by
  have h := a.setFill_fillsOnly j (max (a.fill j) len)
  refine ⟨?_, List.length_set, h.access, h.standard, h.ofAccess, h.ofStandard⟩
  rw [Alloc.exhaust, h.rest]

theorem Alloc.passOver_fillsOnly (len : Nat → Nat) : FillsOnly a (a.passOver len j) := by
  rw [Alloc.passOver]
  split
  · exact FillsOnly.refl a
  · exact a.exhaust_fillsOnly ..

end Fill

section PassOver
variable {len : Nat → Nat} {js : List Nat}

theorem Alloc.foldl_passOver_fillsOnly (a : Alloc) : FillsOnly a (js.foldl (Alloc.passOver len) a) := by
  induction js generalizing a with
  | nil => exact FillsOnly.refl a
  | cons j js ih => exact (a.passOver_fillsOnly j len).trans (ih _)

theorem Alloc.passOver_dropped (a : Alloc) {i : Nat} (j : Nat) (hi : i < a.dropped.length) :
    (a.passOver len j).dropped.getD i false = (a.dropped.getD i false || decide (i = j)) := by
  rw [Alloc.passOver]
  split
  next h =>
    by_cases hij : i = j
    · subst hij
      simp only [h, Bool.true_or]
    · simp [hij]
  next h =>
    simp only [Alloc.exhaust, List.getD_eq_getElem?_getD]
    by_cases hij : i = j
    · subst hij
      simp [hi]
    · simp [List.getElem?_set_ne (Ne.symm hij), hij]

theorem Alloc.passOver_dropped_of_ne (a : Alloc) {i j : Nat} (hij : i ≠ j) :
    (a.passOver len j).dropped.getD i false = a.dropped.getD i false := by
  rw [Alloc.passOver]
  split
  · rfl
  · simp [Alloc.exhaust, List.getD_eq_getElem?_getD, List.getElem?_set_ne (Ne.symm hij)]

theorem Alloc.passOver_fill_of_ne (a : Alloc) {i j : Nat} (hij : i ≠ j) : (a.passOver len j).fill i = a.fill i := by
  rw [Alloc.passOver]
  split
  · rfl
  · rw [Alloc.fill_eq (Alloc.exhaust ..), Alloc.exhaust_fills, Alloc.fill_eq a i, List.getD_eq_getElem?_getD,
      List.getElem?_set_ne (Ne.symm hij), List.getD_eq_getElem?_getD]

theorem Alloc.passOver_fill_self (a : Alloc) {j : Nat} (hj : j < a.fills.length) :
    (a.passOver len j).fill j = if a.dropped.getD j false = false then max (a.fill j) (len j) else a.fill j := by
  rw [Alloc.passOver]
  cases hd : a.dropped.getD j false with
  | true => simp
  | false =>
    simp only [Bool.false_eq_true, if_false, if_true]
    rw [Alloc.fill_eq (a.exhaust ..), Alloc.exhaust_fills, List.getD_eq_getElem?_getD, List.getElem?_set_self hj]
    rfl

theorem FillsOnly.fills_length {a v : Alloc} (h : FillsOnly a v) : v.fills.length = a.fills.length := by
  rw [Alloc.fills, Alloc.fills, h.pass]
  cases a.pass
  · exact h.access
  · exact h.standard

theorem Alloc.foldl_dropped_of_notMem (a : Alloc) {i : Nat} (hi : i ∉ js) :
    (js.foldl (Alloc.passOver len) a).dropped.getD i false = a.dropped.getD i false := by
  induction js generalizing a with
  | nil => rfl
  | cons j js ih =>
    rw [List.mem_cons, not_or] at hi
    exact (ih _ hi.2).trans (a.passOver_dropped_of_ne hi.1)

theorem Alloc.foldl_fill_of_notMem (a : Alloc) {i : Nat} (hi : i ∉ js) :
    (js.foldl (Alloc.passOver len) a).fill i = a.fill i := by
  induction js generalizing a with
  | nil => rfl
  | cons j js ih =>
    rw [List.mem_cons, not_or] at hi
    exact (ih _ hi.2).trans (a.passOver_fill_of_ne hi.1)

theorem Alloc.foldl_dropped (a : Alloc) {i : Nat} (hi : i < a.dropped.length) :
    (js.foldl (Alloc.passOver len) a).dropped.getD i false = (a.dropped.getD i false || decide (i ∈ js)) := by
  induction js generalizing a with
  | nil => simp
  | cons j js ih =>
    have hlen := (a.passOver_fillsOnly j len).dropped
    rw [List.foldl_cons, ih _ (by omega), a.passOver_dropped j hi, Bool.or_assoc]
    simp

theorem Alloc.foldl_fill_of_mem (a : Alloc) (hjs : js.Nodup) {i : Nat} (hi : i ∈ js) (hlt : i < a.fills.length) :
    (js.foldl (Alloc.passOver len) a).fill i =
      if a.dropped.getD i false = false then max (a.fill i) (len i) else a.fill i := by
  induction js generalizing a with
  | nil => cases hi
  | cons j js ih =>
    obtain ⟨hj, hjs⟩ := List.nodup_cons.mp hjs
    rw [List.foldl_cons]
    by_cases hij : i = j
    · subst hij
      rw [Alloc.foldl_fill_of_notMem _ hj, a.passOver_fill_self hlt]
    · have hlen := (a.passOver_fillsOnly j len).fills_length
      rw [ih _ hjs ((List.mem_cons.mp hi).resolve_left hij) (by omega), a.passOver_dropped_of_ne hij,
        a.passOver_fill_of_ne hij]

end PassOver

/-! ## The zones tried (R29) -/

section Zones
variable {s : State} {n : Nat} {zones : List Nat}

/-- A zone of the list that gives no seat in a turn: dropped, or without a seat that qualifies from its fill
position on. -/
def State.Barren (s : State) (n : Nat) (zones : List Nat) (a : Alloc) (j : Nat) : Prop :=
  a.dropped.getD j false = true
    ∨ ∀ m z, a.fill j ≤ m → (s.serpentine (zones.getD j 0))[m]? = some z → s.qualifies n a.pass z = false

/-- How many seats a zone of the list has. -/
def State.zoneSize (s : State) (zones : List Nat) (j : Nat) : Nat := (s.serpentine (zones.getD j 0)).length

theorem State.tryZones_of_dropped {a : Alloc} {j : Nat} (js : List Nat) (h : a.dropped.getD j false = true) :
    s.tryZones n zones (j :: js) a = s.tryZones n zones js a := by
  rw [State.tryZones, if_pos h]

theorem State.tryZones_of_none {a : Alloc} {j : Nat} (js : List Nat) (h : a.dropped.getD j false = false)
    (hnone : ∀ m z, a.fill j ≤ m → (s.serpentine (zones.getD j 0))[m]? = some z → s.qualifies n a.pass z = false) :
    s.tryZones n zones (j :: js) a = s.tryZones n zones js (a.exhaust j (s.zoneSize zones j)) := by
  have hsearch := State.searchFrom_none (s := s) (n := n) (pass := a.pass)
    (l := (s.serpentine (zones.getD j 0)).drop (a.fill j)) (fun z hz => by
      obtain ⟨m, hm⟩ := List.mem_iff_getElem?.mp hz
      rw [List.getElem?_drop] at hm
      exact hnone _ z (by omega) hm) (a.fill j)
  have hend : a.fill j + ((s.serpentine (zones.getD j 0)).drop (a.fill j)).length = max (a.fill j) (s.zoneSize zones j) := by
    rw [List.length_drop, State.zoneSize]
    omega
  rw [State.tryZones, if_neg (Bool.eq_false_iff.mp h), hsearch, hend]
  simp only [Alloc.setFill_dropped]
  rfl

theorem State.tryZones_of_found {a : Alloc} {j m : Nat} {y : Seat} (js : List Nat) (h : a.dropped.getD j false = false)
    (hm : a.fill j ≤ m) (hy : (s.serpentine (zones.getD j 0))[m]? = some y) (hq : s.qualifies n a.pass y = true)
    (hbefore : ∀ i z, a.fill j ≤ i → i < m → (s.serpentine (zones.getD j 0))[i]? = some z → s.qualifies n a.pass z = false) :
    s.tryZones n zones (j :: js) a = (some (y.seat, j), a.setFill j (m + 1)) := by
  have hsearch := State.searchFrom_some (s := s) (n := n) (pass := a.pass) (m := m - a.fill j)
    (l := (s.serpentine (zones.getD j 0)).drop (a.fill j)) (y := y)
    (by rw [List.getElem?_drop, Nat.add_sub_cancel' hm, hy]) hq (fun i z hi hz => by
      rw [List.getElem?_drop] at hz
      exact hbefore _ z (by omega) (by omega) hz) (a.fill j)
  rw [Nat.add_sub_cancel' hm] at hsearch
  rw [State.tryZones, if_neg (Bool.eq_false_iff.mp h), hsearch]

/-- Zones that give no seat are passed over one after the other. -/
theorem State.tryZones_append {a : Alloc} {js : List Nat} (hjs : js.Nodup) (hbarren : ∀ j ∈ js, s.Barren n zones a j)
    (rest : List Nat) :
    s.tryZones n zones (js ++ rest) a = s.tryZones n zones rest (js.foldl (Alloc.passOver (s.zoneSize zones)) a) := by
  induction js generalizing a with
  | nil => rfl
  | cons j js ih =>
    obtain ⟨hj, hjs⟩ := List.nodup_cons.mp hjs
    have hnext : s.tryZones n zones (j :: (js ++ rest)) a =
        s.tryZones n zones (js ++ rest) (a.passOver (s.zoneSize zones) j) := by
      cases hd : a.dropped.getD j false with
      | true => rw [State.tryZones_of_dropped _ hd, Alloc.passOver, if_pos hd]
      | false =>
        have hnone := (hbarren j List.mem_cons_self).resolve_left (Bool.eq_false_iff.mp hd)
        rw [State.tryZones_of_none _ hd hnone, Alloc.passOver, if_neg (Bool.eq_false_iff.mp hd)]
    refine hnext.trans (ih hjs fun i hi => ?_)
    have hij : i ≠ j := fun h => hj (h ▸ hi)
    rw [State.Barren, a.passOver_dropped_of_ne hij, a.passOver_fill_of_ne hij, (a.passOver_fillsOnly j _).pass]
    exact hbarren i (List.mem_cons_of_mem _ hi)

end Zones

/-! ## The order in which the zones are tried -/

section Order
variable {cursor k : Nat}

theorem zone_inj {i j : Nat} (hi : i < k) (hj : j < k) (h : (cursor + i) % k = (cursor + j) % k) : i = j := by
  have := Nat.ModEq.add_left_cancel' cursor h
  rwa [Nat.ModEq, Nat.mod_eq_of_lt hi, Nat.mod_eq_of_lt hj] at this

theorem nodup_zones (m : Nat) (hm : m ≤ k) : ((List.range m).map (fun t => (cursor + t) % k)).Nodup := by
  refine List.Nodup.map_on (fun i hi j hj h => ?_) List.nodup_range
  rw [List.mem_range] at hi hj
  exact zone_inj (by omega) (by omega) h

theorem mem_zones {m i : Nat} (hm : m ≤ k) (hi : i < k) :
    (cursor + i) % k ∈ (List.range m).map (fun t => (cursor + t) % k) ↔ i < m := by
  rw [List.mem_map]
  constructor
  · rintro ⟨t, ht, h⟩
    rw [List.mem_range] at ht
    rw [← zone_inj (by omega) hi h]
    exact ht
  · exact fun h => ⟨i, List.mem_range.mpr h, rfl⟩

theorem zonesFrom_split {m : Nat} (hm : m < k) :
    ∃ js, zonesFrom cursor k = (List.range m).map (fun t => (cursor + t) % k) ++ (cursor + m) % k :: js := by
  refine ⟨((List.range (k - (m + 1))).map (fun t => (cursor + (m + 1 + t)) % k)), ?_⟩
  have hk : k = m + (1 + (k - (m + 1))) := by omega
  have hrange : List.range k = List.range m ++ m :: (List.range (k - (m + 1))).map (fun t => m + 1 + t) := by
    conv_lhs => rw [hk, List.range_add, Nat.add_comm 1, List.range_succ_eq_map]
    simp only [List.map_cons, List.map_map, Nat.add_zero]
    congr 2
    refine List.map_congr_left fun t _ => ?_
    simp only [Function.comp_apply]
    omega
  rw [zonesFrom, hrange]
  simp [Function.comp_def]

end Order

/-! ## The serpentine order (R27) -/

section Serpentine

theorem insertSerpentine_perm (x : Seat) (l : List Seat) : (insertSerpentine x l).Perm (x :: l) := by
  induction l with
  | nil => exact List.Perm.refl _
  | cons y ys ih =>
    rw [insertSerpentine]
    split
    · exact List.Perm.refl _
    · exact (ih.cons y).trans (List.Perm.swap x y ys)

theorem insertSerpentine_sorted (x : Seat) {l : List Seat} (h : l.Pairwise (fun a b => a.serpentine ≤ b.serpentine)) :
    (insertSerpentine x l).Pairwise (fun a b => a.serpentine ≤ b.serpentine) := by
  induction l with
  | nil => exact List.pairwise_singleton ..
  | cons y ys ih =>
    obtain ⟨hy, hys⟩ := List.pairwise_cons.mp h
    rw [insertSerpentine]
    split
    next hlt =>
      refine List.pairwise_cons.mpr ⟨fun z hz => ?_, h⟩
      obtain rfl | hz := List.mem_cons.mp hz
      · omega
      · have := hy z hz
        omega
    next hge =>
      refine List.pairwise_cons.mpr ⟨fun z hz => ?_, ih hys⟩
      obtain rfl | hz := List.mem_cons.mp ((insertSerpentine_perm x ys).mem_iff.mp hz)
      · omega
      · exact hy z hz

theorem foldl_insertSerpentine (l acc : List Seat) (h : acc.Pairwise (fun a b => a.serpentine ≤ b.serpentine)) :
    (l.foldl (fun l x => insertSerpentine x l) acc).Perm (acc ++ l)
      ∧ (l.foldl (fun l x => insertSerpentine x l) acc).Pairwise (fun a b => a.serpentine ≤ b.serpentine) := by
  induction l generalizing acc with
  | nil => exact ⟨by simp, h⟩
  | cons x l ih =>
    obtain ⟨hperm, hsorted⟩ := ih (insertSerpentine x acc) (insertSerpentine_sorted x h)
    refine ⟨hperm.trans ?_, hsorted⟩
    exact ((insertSerpentine_perm x acc).append_right l).trans List.perm_middle.symm

theorem State.serpentine_perm (s : State) (zone : Nat) :
    (s.serpentine zone).Perm (s.hall.seats.filter (fun x => x.zone == zone)) :=
  (foldl_insertSerpentine _ [] List.Pairwise.nil).1

theorem State.serpentine_sorted (s : State) (zone : Nat) :
    (s.serpentine zone).Pairwise (fun a b => a.serpentine ≤ b.serpentine) :=
  (foldl_insertSerpentine _ [] List.Pairwise.nil).2

/-- The serpentine number of seats in columns 1 to 32 orders rows, and columns by the row. -/
theorem Seat.serpentine_le {x y : Seat} (hx : 1 ≤ x.column ∧ x.column ≤ 32) (hy : 1 ≤ y.column ∧ y.column ≤ 32)
    (h : x.serpentine ≤ y.serpentine) :
    x.row < y.row ∨ (x.row = y.row ∧ (if x.row % 2 = 1 then x.column ≤ y.column else y.column ≤ x.column)) := by
  by_cases hrow : x.row = y.row
  · right
    simp only [Seat.serpentine, hrow] at h
    refine ⟨hrow, ?_⟩
    rw [hrow]
    split at h
    next hodd => rw [if_pos hodd]; omega
    next heven => rw [if_neg heven]; omega
  · left
    simp only [Seat.serpentine] at h
    split at h <;> split at h <;> omega

end Serpentine

end Sys2Proof.Machine
end

section
/-! SUPPORT. A turn as a whole (R26 to R31): what its search leaves, place by place in the zone list. -/

namespace Sys2Proof.Machine

/-! ## What a turn's search leaves -/

/-- The fill position of the zone a seat was found in, set past that seat; none where no seat was found. -/
def Alloc.settleFill (a : Alloc) (j : Nat) : Option Nat → Alloc
  | none => a
  | some v => a.setFill j v

/-- A run after a search that passed over the first `k` zones from the cursor on. -/
def Alloc.searched (a : Alloc) (size : Nat → Nat) (count k : Nat) (after : Option Nat) : Alloc :=
  (((List.range k).map (fun t => (a.cursor + t) % count)).foldl (Alloc.passOver size) a).settleFill
    ((a.cursor + k) % count) after

section Searched
variable (a : Alloc) (size : Nat → Nat) {count k : Nat} (after : Option Nat)

theorem Alloc.settleFill_fillsOnly (j : Nat) : FillsOnly a (a.settleFill j after) := by
  cases after with
  | none => exact FillsOnly.refl a
  | some v => exact a.setFill_fillsOnly j v

theorem Alloc.settleFill_dropped (j : Nat) : (a.settleFill j after).dropped = a.dropped := by
  cases after with
  | none => rfl
  | some v => exact a.setFill_dropped j v

theorem Alloc.settleFill_fill_of_ne {i j : Nat} (hij : i ≠ j) : (a.settleFill j after).fill i = a.fill i := by
  cases after with
  | none => rfl
  | some v =>
    rw [Alloc.settleFill, Alloc.fill_eq (a.setFill ..), Alloc.setFill_fills, Alloc.fill_eq a i, List.getD_eq_getElem?_getD,
      List.getElem?_set_ne (Ne.symm hij), List.getD_eq_getElem?_getD]

theorem Alloc.settleFill_fill_self {j : Nat} (hj : j < a.fills.length) :
    (a.settleFill j after).fill j = after.getD (a.fill j) := by
  cases after with
  | none => rfl
  | some v =>
    rw [Alloc.settleFill, Alloc.fill_eq (a.setFill ..), Alloc.setFill_fills, List.getD_eq_getElem?_getD,
      List.getElem?_set_self hj]
    rfl

theorem Alloc.searched_fillsOnly : FillsOnly a (a.searched size count k after) :=
  (Alloc.foldl_passOver_fillsOnly a).trans (Alloc.settleFill_fillsOnly ..)

variable (hk : k ≤ count)
include hk

theorem Alloc.searched_dropped {n : Nat} (hn : n < count) (hj : (a.cursor + n) % count < a.dropped.length) :
    (a.searched size count k after).dropped.getD ((a.cursor + n) % count) false =
      (a.dropped.getD ((a.cursor + n) % count) false || decide (n < k)) := by
  rw [Alloc.searched, Alloc.settleFill_dropped, Alloc.foldl_dropped a hj]
  simp only [mem_zones hk hn]

variable (hafter : after = none ∨ k < count)
include hafter

theorem Alloc.searched_fill {n : Nat} (hn : n < count) (hj : (a.cursor + n) % count < a.fills.length) :
    (a.searched size count k after).fill ((a.cursor + n) % count) =
      if n < k ∧ a.dropped.getD ((a.cursor + n) % count) false = false then
        max (a.fill ((a.cursor + n) % count)) (size ((a.cursor + n) % count))
      else if n = k then after.getD (a.fill ((a.cursor + n) % count)) else a.fill ((a.cursor + n) % count) := by
  have hlen := (Alloc.foldl_passOver_fillsOnly (len := size) (js := (List.range k).map (fun t => (a.cursor + t) % count))
    a).fills_length
  have hmem := mem_zones (cursor := a.cursor) hk hn
  by_cases hnk : n = k
  · subst hnk
    rw [if_neg (fun h => Nat.lt_irrefl n h.1), if_pos rfl, Alloc.searched, Alloc.settleFill_fill_self _ _ (by omega),
      Alloc.foldl_fill_of_notMem _ (mt hmem.mp (Nat.lt_irrefl n))]
  · have hsettle : (a.searched size count k after).fill ((a.cursor + n) % count) =
        (((List.range k).map (fun t => (a.cursor + t) % count)).foldl (Alloc.passOver size) a).fill
          ((a.cursor + n) % count) := by
      obtain rfl | hlt := hafter
      · rfl
      · exact Alloc.settleFill_fill_of_ne _ _ (fun h => hnk (zone_inj hn hlt h))
    rw [hsettle, if_neg hnk]
    by_cases hlt : n < k
    · rw [Alloc.foldl_fill_of_mem a (nodup_zones k hk) (hmem.mpr hlt) hj]
      simp only [hlt, true_and]
    · rw [Alloc.foldl_fill_of_notMem _ (mt hmem.mp hlt), if_neg (fun h => hlt h.1)]

omit hk hafter in
/-- Beyond the zone list nothing changes. -/
theorem Alloc.searched_beyond {j : Nat} (hcount : 0 < count) (hj : count ≤ j) :
    (a.searched size count k after).dropped.getD j false = a.dropped.getD j false
      ∧ (a.searched size count k after).fill j = a.fill j := by
  have hnot : j ∉ (List.range k).map (fun t => (a.cursor + t) % count) := by
    rw [List.mem_map]
    rintro ⟨t, -, h⟩
    have := Nat.mod_lt (a.cursor + t) hcount
    omega
  have hne : j ≠ (a.cursor + k) % count := by
    have := Nat.mod_lt (a.cursor + k) hcount
    omega
  rw [Alloc.searched, Alloc.settleFill_dropped, Alloc.settleFill_fill_of_ne _ _ hne, Alloc.foldl_dropped_of_notMem a hnot,
    Alloc.foldl_fill_of_notMem a hnot]
  exact ⟨rfl, rfl⟩

end Searched

/-- The items of a run that a turn changes beside what its search leaves. -/
theorem FillsOnly.counted {a w : Alloc} (h : FillsOnly a w) (dp du cursor last : Nat) :
    { w with placed := w.placed + dp, unplaced := w.unplaced + du, cursor := cursor, lastTurn := last } =
      { a with accessFill := w.accessFill, standardFill := w.standardFill, dropped := w.dropped,
               placed := a.placed + dp, unplaced := a.unplaced + du, cursor := cursor, lastTurn := last } := by
  have hw := h.rest
  have hplaced : w.placed = a.placed := by rw [hw]
  have hunplaced : w.unplaced = a.unplaced := by rw [hw]
  have hrunning : w.running = a.running := by rw [hw]
  have hsitting : w.sitting = a.sitting := by rw [hw]
  have habort : w.abort = a.abort := by rw [hw]
  rw [hplaced, hunplaced, hrunning, hsitting, habort, h.pass]

/-! ## The turn -/

section Turn
variable {s : State} {x : Sitting} {c : Cand} {a : Alloc}

theorem State.allocationTurn_of_awaiting (hrun : s.alloc.running = true) (hsitting : s.alloc.sitting = some x.number)
    (hx : s.sitting? x.number = some x) (ha : s.settlePass x.number s.alloc = a)
    (hc : s.nextTurn x.number a.pass a.lastTurn = some c) :
    s.allocationTurn = (s.giveTurn x c a).endIfDone x.number := by
  simp only [State.allocationTurn, hrun, hsitting, Option.bind_some, hx, ha, hc]

/-- The seat of the first zone that has one, the zones before it passed over. -/
theorem State.tryZones_first {k m : Nat} {y : Seat} (hk : k < x.zones.length)
    (hbarren : ∀ n, n < k → s.Barren x.number x.zones a ((a.cursor + n) % x.zones.length))
    (hopen : a.dropped.getD ((a.cursor + k) % x.zones.length) false = false)
    (hm : a.fill ((a.cursor + k) % x.zones.length) ≤ m)
    (hy : (s.serpentine (x.zones.getD ((a.cursor + k) % x.zones.length) 0))[m]? = some y)
    (hq : s.qualifies x.number a.pass y = true)
    (hbefore : ∀ n z, a.fill ((a.cursor + k) % x.zones.length) ≤ n → n < m →
      (s.serpentine (x.zones.getD ((a.cursor + k) % x.zones.length) 0))[n]? = some z → s.qualifies x.number a.pass z = false) :
    s.tryZones x.number x.zones (zonesFrom a.cursor x.zones.length) a =
      (some (y.seat, (a.cursor + k) % x.zones.length),
        a.searched (s.zoneSize x.zones) x.zones.length k (some (m + 1))) := by
  obtain ⟨js, hsplit⟩ := zonesFrom_split (cursor := a.cursor) hk
  have hpassed := State.tryZones_append (nodup_zones (cursor := a.cursor) k (Nat.le_of_lt hk))
    (by simpa using hbarren) ((a.cursor + k) % x.zones.length :: js)
  have hnot := mt (mem_zones (cursor := a.cursor) (Nat.le_of_lt hk) hk).mp (Nat.lt_irrefl k)
  have hpass := (Alloc.foldl_passOver_fillsOnly (len := s.zoneSize x.zones)
    (js := (List.range k).map (fun t => (a.cursor + t) % x.zones.length)) a).pass
  rw [hsplit, hpassed]
  refine State.tryZones_of_found js ?_ ?_ hy ?_ ?_
  · rwa [Alloc.foldl_dropped_of_notMem a hnot]
  · rwa [Alloc.foldl_fill_of_notMem a hnot]
  · rwa [hpass]
  · rwa [Alloc.foldl_fill_of_notMem a hnot, hpass]

theorem State.tryZones_all_barren
    (hbarren : ∀ n, n < x.zones.length → s.Barren x.number x.zones a ((a.cursor + n) % x.zones.length)) :
    s.tryZones x.number x.zones (zonesFrom a.cursor x.zones.length) a =
      (none, a.searched (s.zoneSize x.zones) x.zones.length x.zones.length none) := by
  have hpassed := State.tryZones_append (nodup_zones (cursor := a.cursor) (k := x.zones.length) _ le_rfl)
    (by simpa using hbarren) []
  rw [List.append_nil] at hpassed
  exact hpassed

theorem State.giveTurn_of_found {i n j : Nat} {w : Alloc} (hi : s.findCand c.number = some i)
    (h : s.tryZones x.number x.zones (zonesFrom a.cursor x.zones.length) a = (some (n, j), w)) :
    s.giveTurn x c a = { s.place i n (fun d => d.placedFor c) with
      alloc := { w with placed := w.placed + 1, cursor := (j + 1) % x.zones.length, lastTurn := c.number } } := by
  simp only [State.giveTurn, h, State.placeTurn, hi]

theorem State.giveTurn_of_none {w : Alloc}
    (h : s.tryZones x.number x.zones (zonesFrom a.cursor x.zones.length) a = (none, w)) :
    s.giveTurn x c a = { s with alloc := { w with unplaced := w.unplaced + 1, lastTurn := c.number } } := by
  simp only [State.giveTurn, h]

end Turn

/-- Settles O17: the search zone by zone, the run's end, and the serpentine order. -/
theorem turnsPlace : Obligations.TurnsPlace := by
  unfold Obligations.TurnsPlace
  refine ⟨fun s x c i hrun hsitting hx hcursor => ?_, fun s n => ?_, fun s zone hcol => ⟨s.serpentine_perm zone, ?_⟩⟩
  · intro a hc hi hawaits hleast tried seats barren searched
    have ha : s.settlePass x.number s.alloc = a := s.settlePass_eq x.number s.alloc
    have hmem : c ∈ s.hall.cands := List.mem_of_getElem? hc
    have hturn := State.allocationTurn_of_awaiting hrun hsitting hx ha (State.nextTurn_of_least hmem hawaits hleast)
    have hpos : 0 < x.zones.length := by omega
    have hsearched : ∀ (k : Nat) (after : Option Nat) (v : Alloc), k ≤ x.zones.length →
        (after = none ∨ k < x.zones.length) →
        v.dropped = (a.searched (s.zoneSize x.zones) x.zones.length k after).dropped →
        v.accessFill = (a.searched (s.zoneSize x.zones) x.zones.length k after).accessFill →
        v.standardFill = (a.searched (s.zoneSize x.zones) x.zones.length k after).standardFill →
        v.pass = a.pass → searched v k after := by
      intro k after v hk hafter hdropped haccess hstandard hpass j
      have honly := a.searched_fillsOnly (s.zoneSize x.zones) (count := x.zones.length) (k := k) after
      have hfill : ∀ i, v.fill i = (a.searched (s.zoneSize x.zones) x.zones.length k after).fill i := by
        intro i
        rw [Alloc.fill, Alloc.fill, haccess, hstandard, hpass, honly.pass]
      have hbeyond := fun hj : x.zones.length ≤ j => a.searched_beyond (s.zoneSize x.zones) (k := k) after hpos hj
      rw [hdropped, haccess, hstandard, hfill]
      refine ⟨fun hj n hn hjn => ?_, fun hj n hn hjn => ?_, honly.dropped, honly.access, honly.standard, hbeyond,
        honly.ofAccess, honly.ofStandard⟩
      · subst hjn
        exact a.searched_dropped _ _ hk hn hj
      · subst hjn
        exact a.searched_fill _ _ hk hafter hn hj
    refine ⟨fun k m y hk hbarren hopen hm hy hq hbefore => ?_, fun hbarren => ?_⟩
    · have hfound := State.giveTurn_of_found hi (State.tryZones_first hk hbarren hopen hm hy hq hbefore)
      have honly := a.searched_fillsOnly (s.zoneSize x.zones) (count := x.zones.length) (k := k) (some (m + 1))
      refine ⟨_, congrArg Host.Outcome.next (hturn.trans (congrArg (State.endIfDone · x.number) hfound)), ?_,
        hsearched k (some (m + 1)) _ (Nat.le_of_lt hk) (.inr hk) rfl rfl rfl honly.pass⟩
      exact honly.counted 1 0 _ _
    · have hnone := State.giveTurn_of_none (c := c) (State.tryZones_all_barren hbarren)
      have honly := a.searched_fillsOnly (s.zoneSize x.zones) (count := x.zones.length) (k := x.zones.length) none
      refine ⟨_, congrArg Host.Outcome.next (hturn.trans (congrArg (State.endIfDone · x.number) hnone)), ?_,
        hsearched x.zones.length none _ le_rfl (.inl rfl) rfl rfl rfl honly.pass⟩
      have hcur : (a.searched (s.zoneSize x.zones) x.zones.length x.zones.length none).cursor = a.cursor := by
        rw [honly.rest]
      have hcounted := honly.counted 0 1 a.cursor c.number
      rw [← hcur] at hcounted
      exact hcounted.trans (by rw [hcur]; rfl)
  · intro left awaited
    have hleft := s.turnsLeft_eq_zero n s.alloc
    refine ⟨fun h => State.endIfDone_of_left (fun h0 => hleft.mp h0 h), fun h => State.endIfDone_of_none (hleft.mpr h),
      fun hrun => ?_⟩
    have : s.allocationTurn = s := by simp only [State.allocationTurn, hrun]
    exact congrArg Host.Outcome.next this
  · refine (s.serpentine_sorted zone).imp_of_mem fun hx hy h => Seat.serpentine_le (hcol _ ?_) (hcol _ ?_) h
    · exact (List.mem_filter.mp ((s.serpentine_perm zone).mem_iff.mp hx)).1
    · exact (List.mem_filter.mp ((s.serpentine_perm zone).mem_iff.mp hy)).1

end Sys2Proof.Machine
end

section
/-! SUPPORT. Seats released, filled, moved to and served (R30, R34 to R38). -/

namespace Sys2Proof.Machine

/-! ## Records found by their numbers -/

theorem State.seat_of_seat? {s : State} {n : Nat} {x : Seat} (h : s.seat? n = some x) : x.seat = n := by
  simpa using List.find?_some h

theorem State.number_of_sitting? {s : State} {n : Nat} {x : Sitting} (h : s.sitting? n = some x) : x.number = n := by
  simpa using List.find?_some h

/-! ## Release and placement (R30, R37) -/

section Place
variable (s : State) (i n : Nat)

theorem State.releaseCand_of_seat {s : State} {i n : Nat} {c : Cand} (hc : s.cand? i = some c) (hseat : c.seat = some n) :
    s.releaseCand i = (s.mapSeat n Seat.release).mapCand i (fun c => { c with seat := none }) := by
  simp only [State.releaseCand, hc, Option.bind_some, hseat]

theorem State.releaseCand_of_none {s : State} {i : Nat} {c : Cand} (hc : s.cand? i = some c) (hseat : c.seat = none) :
    s.releaseCand i = s := by
  simp only [State.releaseCand, hc, Option.bind_some, hseat]

theorem State.place_cand? (content : Display → Display) (j : Nat) :
    (s.place i n content).cand? j = if i = j then (s.cand? j).map (fun c => { c with seat := some n }) else s.cand? j :=
  State.mapCand_cand? ..

theorem State.place_seat? (content : Display → Display) (m : Nat) :
    (s.place i n content).seat? m = if n = m then (s.seat? m).map (fun x =>
      { x with occupant := some i, keys := [], display := content x.display, owed := true }) else s.seat? m :=
  State.mapSeat_seat? s n m _ (fun _ => rfl)

end Place

/-- Settles O18: both sides of a release and of a placement. -/
theorem releaseAndPlacement : Obligations.ReleaseAndPlacement := by
  unfold Obligations.ReleaseAndPlacement
  intro s i n c x hc hx blank placed
  refine ⟨fun hseat => ?_, ?_⟩
  · rw [State.releaseCand_of_seat hc hseat]
    have hseats := fun m => State.mapSeat_seat? s n m Seat.release (fun _ => rfl)
    simp only [State.mapCand_cand?, State.mapSeat_cand?, State.mapCand_seat?, hseats]
    refine ⟨by simp [hc], by simp [hx, Seat.release, blank], fun j hj => if_neg (Ne.symm hj), fun m hm => if_neg (Ne.symm hm)⟩
  · intro t
    have hcands := s.place_cand? i n (fun d => d.placedFor c)
    have hseats := s.place_seat? i n (fun d => d.placedFor c)
    refine ⟨(hcands i).trans (by simp [hc]), (hseats n).trans ?_, fun j hj => (hcands j).trans (if_neg (Ne.symm hj)),
      fun m hm => (hseats m).trans (if_neg (Ne.symm hm))⟩
    rw [if_pos rfl, hx]
    rfl

/-! ## MOVE (R34 to R36) -/

section Move

/-- A lamp put out changes no seat's place, occupant or service. -/
theorem State.lampOff_neighbourOf (s : State) (o : Option Nat) (t : Seat) (sitting : Nat) (leaving : Option Nat) :
    (s.lampOff o).neighbourOf t sitting leaving = s.neighbourOf t sitting leaving := by
  cases o with
  | none => rfl
  | some n =>
    simp only [State.neighbourOf, State.lampOff, State.writeDisplay, State.mapSeat, List.any_map]
    congr 1
    funext x
    simp only [Function.comp_apply]
    split <;> rfl

theorem State.lampOff_inFlight (s : State) (o : Option Nat) (n : Nat) : (s.lampOff o).inFlight n = s.inFlight n := by
  cases o <;> rfl

theorem Cand.movable_of {c : Cand} (h : c.state = .expected ∨ c.state = .admitted ∨ c.state = .writing ∨
    c.state = .resting ∨ c.state = .finished) : c.movable = true := by
  rw [Cand.movable]
  obtain h | h | h | h | h := h <;> rw [h]

variable {s : State} {p : Port} {number n waiver i : Nat} {c : Cand} {x : Seat}

/-- A MOVE that passes its tests moves the candidate. -/
theorem moveScreened_of_target {t : State} (hflight : t.inFlight c.sitting = false) (hmovable : c.movable = true)
    (htarget : x.target = true) (hbreach : t.neighbourOf x c.sitting c.seat = true → waiver = 1) :
    moveScreened i c x waiver t =
      okay (t.moveCand i c x.seat (t.neighbourOf x c.sitting c.seat)) [optField 2 c.seat, ⟨2, x.seat⟩] := by
  have hwaived : ¬ (t.neighbourOf x c.sitting c.seat = true ∧ waiver = 0) := fun ⟨h, h0⟩ => by
    rw [hbreach h] at h0
    cases h0
  simp only [moveScreened, hflight, hmovable, htarget, Bool.false_eq_true, if_false, not_true_eq_false, if_neg hwaived]

theorem cmdMove_of_screened (hnumber : numberOk number = true) (hseat : seatOk n = true) (hwaiver : waiver ≤ 1)
    (hi : s.findCand number = some i) (hc : s.cand? i = some c) (hx : s.seat? n = some x)
    (hpass : s.passes p x.zone = true) (hscreen : c.seat = none ∨ s.passes p (s.candZone c) = true) :
    cmdMove p number n waiver s =
      moveScreened i c (((s.lampOff c.seat).seat? n).getD x) waiver (s.lampOff c.seat) := by
  have hrange : ¬ (¬ numberOk number ∨ ¬ seatOk n ∨ ¬ markOk waiver) := by simp [hnumber, hseat, markOk, hwaiver]
  have hscreened : s.passes p x.zone ∧ (c.seat.isNone ∨ s.passes p (s.candZone c)) :=
    ⟨hpass, hscreen.imp (fun h => by simp [h]) id⟩
  rw [cmdMove, if_neg hrange]
  simp only [hi, Option.bind_some, hc, Option.map_some, hx]
  exact if_pos hscreened

end Move

/-- Settles O19: a candidate moved from a seat and from none, and a seat's service. -/
theorem movedAndServiced : Obligations.MovedAndServiced := by
  unfold Obligations.MovedAndServiced
  refine ⟨fun d tag number n waiver i c x s hready hsession hlo hhi hn1 hn2 hwaiver hi hc hx hpass hflight hstate hocc
    hservice hbreach => ?_, fun d tag n direction v x s hready hsession hn1 hn2 hv hx hpass hrun hocc => ?_⟩
  · intro mark
    have hxn : x.seat = n := State.seat_of_seat? hx
    have htarget : x.target = true := by simp [Seat.target, hocc, hservice]
    have hgate : sessionTakes (.move number n waiver) s.hall.session = true := by simp [sessionTakes, hsession]
    have hmove := fun hscreen => cmdMove_of_screened (p := .desk d) (numberOk_of_inRange hlo hhi) (seatOk_of_inRange hn1 hn2)
      hwaiver hi hc hx hpass hscreen
    have hscreened := moveScreened_of_target (i := i) (waiver := waiver) (t := s.lampOff c.seat) (x := x) (c := c)
      (by rw [State.lampOff_inFlight, hflight]) (Cand.movable_of hstate) htarget
      (by rwa [State.lampOff_neighbourOf])
    rw [State.lampOff_neighbourOf, hxn] at hscreened
    refine ⟨fun hseat => ?_, fun m u hseat hmn hu hupass => ?_⟩
    · have hcmd := hmove (.inl hseat)
      rw [hseat] at hcmd hscreened
      simp only [State.lampOff, hx, Option.getD_some] at hcmd hscreened
      rw [hscreened, State.moveCand, hseat] at hcmd
      simp only [mark, hseat]
      exact exec_taken rfl hready ⟨rfl, rfl, rfl⟩ hgate hcmd
    · have hum : u.seat = m := State.seat_of_seat? hu
      have hzone : s.candZone c = u.zone := by simp only [State.candZone, hseat, Option.bind_some, hu]
      have hcmd := hmove (.inr (by rw [hzone]; exact hupass))
      have hseats := fun k => s.writeDisplay_seat? m k (fun d => { d with lamp := false })
      have hxs : (s.lampOff c.seat).seat? n = some x := by
        rw [hseat]
        exact (hseats n).trans ((if_neg hmn).trans hx)
      have hus : (s.lampOff (some m)).seat? m =
          some { u with display := { u.display with lamp := false }, owed := true } := by
        refine (hseats m).trans ?_
        rw [if_pos rfl, hu]
        rfl
      rw [hxs, Option.getD_some, hscreened, State.moveCand, hseat] at hcmd
      simp only [Option.bind_some, hus, hum] at hcmd
      simp only [mark, hseat]
      exact exec_taken rfl hready ⟨rfl, rfl, rfl⟩ hgate hcmd
  · have hgate : sessionTakes (.seatService n direction) s.hall.session = true := by
      obtain h | h := hsession <;> simp [sessionTakes, h]
    have hdir : direction = 0 ∧ v = .inService ∨ direction = 1 ∧ v = .outOfService := by simpa using hv
    have hcmd : cmdSeatService (.desk d) n direction s = okay (s.mapSeat n (fun y => y.setService v)) [⟨1, Service.code v⟩] := by
      have hrange : ¬ (¬ seatOk n ∨ 1 < direction) := by
        simp only [seatOk_of_inRange hn1 hn2, not_true_eq_false, false_or]
        omega
      have hfree : ¬ (direction = 1 ∧ x.occupant.isSome) := by
        rintro ⟨h1, h⟩
        rw [hocc h1] at h
        cases h
      have hscreen : ¬ ¬ (s.passes (.desk d) x.zone = true) := not_not.mpr hpass
      rw [cmdSeatService, if_neg hrange]
      simp only [hx, if_neg hscreen, hrun, Bool.false_eq_true, if_false, if_neg hfree]
      obtain ⟨rfl, rfl⟩ | ⟨rfl, rfl⟩ := hdir <;> rfl
    exact exec_taken rfl hready ⟨rfl, rfl, rfl⟩ hgate hcmd

end Sys2Proof.Machine
end

section
/-! SUPPORT. The seat line (Chapter 3): notices to desks beside other changes, the contest of reports, what a
report says, and presence. -/

namespace Sys2Proof.Machine

/-! ## Notices to desks change the links alone -/

/-- The links after a notice to the desks a test picks. -/
def Links.notifyWhere (l : Links) (q : Desk → Bool) (n : Notice) : Links :=
  allDesks.foldl (fun l d => if q d then l.set (.desk d) ((l.port (.desk d)).notify n) else l) l

section Notify
variable (s : State)

theorem State.notifyWhere_eq (q : Desk → Bool) (n : Notice) :
    s.notifyWhere q n = { s with links := s.links.notifyWhere q n } := by
  have hfold : ∀ (ds : List Desk) (t : State), ds.foldl (fun t d => if q d then t.notify (.desk d) n else t) t =
      { t with links := ds.foldl (fun l d => if q d then l.set (.desk d) ((l.port (.desk d)).notify n) else l) t.links } := by
    intro ds
    induction ds with
    | nil => intro t; rfl
    | cons d ds ih =>
      intro t
      rw [List.foldl_cons, List.foldl_cons, ih]
      cases q d <;> rfl
  exact hfold allDesks s

theorem State.notifyZone_eq (z : Nat) (n : Notice) :
    s.notifyZone z n = { s with links := s.links.notifyWhere (fun d => s.deskPasses d z) n } := s.notifyWhere_eq ..

theorem State.notifyZone_mapSeat (z m : Nat) (n : Notice) (f : Seat → Seat) :
    (s.notifyZone z n).mapSeat m f = (s.mapSeat m f).notifyZone z n := by
  rw [State.notifyZone_eq, State.notifyZone_eq]
  rfl

theorem State.notifyZone_withLine (z : Nat) (n : Notice) (l : SeatLine) :
    { s.notifyZone z n with line := l } = { s with line := l }.notifyZone z n := by
  rw [State.notifyZone_eq, State.notifyZone_eq]
  rfl

@[simp] theorem State.notifyZone_line (z : Nat) (n : Notice) : (s.notifyZone z n).line = s.line := by
  rw [State.notifyZone_eq]

/-- Two changes of the records of one seat number are one. -/
theorem State.mapSeat_mapSeat (n : Nat) {f : Seat → Seat} (hf : ∀ x, (f x).seat = x.seat) (g : Seat → Seat) :
    (s.mapSeat n f).mapSeat n g = s.mapSeat n (fun x => g (f x)) := by
  simp only [State.mapSeat, List.map_map]
  congr 2
  refine List.map_congr_left fun x _ => ?_
  simp only [Function.comp_apply]
  by_cases hx : x.seat = n
  · rw [if_pos hx, if_pos ((hf x).trans hx), if_pos hx]
  · rw [if_neg hx, if_neg hx, if_neg hx]

end Notify

/-! ## The contest (R43) -/

section Contest

/-- Some contender has the lowest value of a field. -/
theorem exists_lowest (f : SeatFrame → Nat) (r : SeatFrame) (rs : List SeatFrame) :
    ∃ w ∈ r :: rs, ∀ q ∈ r :: rs, f w ≤ f q := by
  induction rs generalizing r with
  | nil => exact ⟨r, List.mem_singleton_self r, by simp⟩
  | cons r' rs ih =>
    obtain ⟨w, hw, hmin⟩ := ih r'
    by_cases hr : f r ≤ f w
    · refine ⟨r, List.mem_cons_self, fun q hq => ?_⟩
      obtain rfl | hq := List.mem_cons.mp hq
      · exact le_rfl
      · exact hr.trans (hmin q hq)
    · refine ⟨w, List.mem_cons_of_mem _ hw, fun q hq => ?_⟩
      obtain rfl | hq := List.mem_cons.mp hq
      · omega
      · exact hmin q hq

theorem stillSending_ne_nil {l : List SeatFrame} (h : l ≠ []) (place : Nat) : stillSending l place ≠ [] := by
  obtain ⟨r, rs, rfl⟩ := List.exists_cons_of_ne_nil h
  obtain ⟨w, hw, hmin⟩ := exists_lowest (contestField place) r rs
  exact List.ne_nil_of_mem (List.mem_filter.mpr ⟨hw, by simpa using hmin⟩)

theorem stillSending_subset (l : List SeatFrame) (place : Nat) : stillSending l place ⊆ l := List.filter_subset_self _

theorem foldl_stillSending (places : List Nat) {l : List SeatFrame} (h : l ≠ []) :
    places.foldl stillSending l ≠ [] ∧ places.foldl stillSending l ⊆ l := by
  induction places generalizing l with
  | nil => exact ⟨h, List.Subset.refl l⟩
  | cons p places ih =>
    obtain ⟨hne, hsub⟩ := ih (stillSending_ne_nil h p)
    exact ⟨hne, List.Subset.trans hsub (stillSending_subset l p)⟩

/-- The report that goes on is one of the contenders, with the lowest address among them. -/
theorem winner_lowest (r : SeatFrame) (rs : List SeatFrame) :
    winner r rs ∈ r :: rs ∧ ∀ q ∈ r :: rs, (winner r rs).address ≤ q.address := by
  have hplaces : contestPlaces = 0 :: (List.range 18).map (· + 1) := by decide
  have hfirst := stillSending_ne_nil (List.cons_ne_nil r rs) 0
  obtain ⟨hne, hsub⟩ := foldl_stillSending ((List.range 18).map (· + 1)) hfirst
  have hmem : winner r rs ∈ stillSending (r :: rs) 0 := by
    rw [winner, hplaces, List.foldl_cons]
    obtain ⟨w, ws, hw⟩ := List.exists_cons_of_ne_nil hne
    rw [hw]
    exact hsub (by rw [hw]; exact List.mem_cons_self)
  obtain ⟨hmem, hlow⟩ := List.mem_filter.mp hmem
  rw [List.all_eq_true] at hlow
  exact ⟨hmem, fun q hq => by simpa [contestField, contestKey] using hlow q hq⟩

end Contest

/-- Settles O20: the contest's winner, the entry reserved, the hold, and the idle line. -/
theorem lineConditions : Obligations.LineConditions := by
  unfold Obligations.LineConditions
  intro s
  refine ⟨fun r rs h => ?_, fun r h hlo hhi hseat => ?_, fun r h hnone => ?_, fun r h => ?_, fun h => ?_⟩
  · obtain ⟨hmem, hlow⟩ := winner_lowest r rs
    have harm : exec (.seatReportStart (r :: rs)) s = execSeatReportStart (r :: rs) s := rfl
    refine ⟨winner r rs, hmem, hlow, ?_⟩
    simp only [harm, execSeatReportStart, h]
    rfl
  · intro cond
    have harm : exec .seatReportHeader s = execSeatReportHeader s := rfl
    have hdefined : ¬ ((s.seat? r.address).isNone ∨ ¬ seatOk r.address) := by
      obtain ⟨x, hx⟩ := Option.isSome_iff_exists.mp hseat
      simp [hx, seatOk_of_inRange hlo hhi]
    simp only [harm, execSeatReportHeader, h, if_neg hdefined, cond]
    by_cases hroom : s.line.inbox.length < 16
    · rw [if_pos hroom, if_pos (show s.line.inbox.length < Config.inboxSize from hroom)]
      rfl
    · rw [if_neg hroom, if_neg (show ¬ s.line.inbox.length < Config.inboxSize from hroom)]
      rfl
  · have harm : exec .seatReportHeader s = execSeatReportHeader s := rfl
    have hundefined : (s.seat? r.address).isNone ∨ ¬ seatOk r.address := by
      obtain h0 | h511 | hseat := hnone
      · exact .inr (by simp [seatOk, h0])
      · exact .inr (by simp [seatOk]; omega)
      · exact .inl (by simp [hseat])
    simp only [harm, execSeatReportHeader, h, if_pos hundefined]
    rfl
  · have harm : exec .holdTimeout s = execHoldTimeout s := rfl
    simp only [harm, execHoldTimeout, h]
    rfl
  · have harm : exec .lineIdle s = execLineIdle s := rfl
    simp only [harm, execLineIdle, h]
    rfl

/-! ## What a report says (R41, R44) -/

theorem ofBytes_four (a b c d : Byte) :
    ofBytes [a, b, c, d] = a.toNat * 2 ^ 24 + b.toNat * 2 ^ 16 + c.toNat * 2 ^ 8 + d.toNat := by
  simp only [ofBytes, List.foldl_cons, List.foldl_nil]
  omega

section Kinds
variable (a b c d : Byte)

theorem reportKindOf_hello : reportKindOf 0 1 [b] = some (.hello (b.toNat % 16)) := rfl

theorem reportKindOf_card : reportKindOf 1 4 [a, b, c, d] =
    if ofBytes [a, b, c, d] ≤ 999999999 then some (.card (ofBytes [a, b, c, d])) else none := rfl

theorem reportKindOf_key : reportKindOf 2 1 [b] = if b.toNat ≤ 0x0B then some (.key b.toNat) else none := rfl

theorem reportKindOf_tag : reportKindOf 5 4 [a, b, c, d] =
    if ofBytes [a, b, c, d] ≤ 99999999 then some (.tag (ofBytes [a, b, c, d])) else none := rfl

/-- A kind and a number of payload bytes that no report has. -/
theorem reportKindOf_other {kind : Nat} {payload : List Byte} (h1 : payload.length = 1 → kind ≠ 0 ∧ kind ≠ 2)
    (h4 : payload.length = 4 → kind ≠ 1 ∧ kind ≠ 5) (h0 : payload.length = 0 → kind ≠ 3 ∧ kind ≠ 4) :
    reportKindOf kind payload.length payload = none := by
  rcases payload with _ | ⟨a, _ | ⟨b, _ | ⟨c, _ | ⟨d, _ | ⟨e, rest⟩⟩⟩⟩⟩
  all_goals refine (if_neg (fun h => h rfl)).trans ?_
  all_goals rcases kind with _ | _ | _ | _ | _ | _ | kind
  all_goals first | rfl | exact absurd rfl (h0 rfl).1 | exact absurd rfl (h0 rfl).2 | exact absurd rfl (h1 rfl).1
                  | exact absurd rfl (h1 rfl).2 | exact absurd rfl (h4 rfl).1 | exact absurd rfl (h4 rfl).2

end Kinds

theorem reportKindOf_iff (kind : Nat) (payload : List Byte) (k : ReportKind) :
    reportKindOf kind payload.length payload = some k ↔
      ((∃ b, kind = 0 ∧ payload = [b] ∧ k = .hello (b.toNat % 16))
       ∨ (∃ b0 b1 b2 b3, kind = 1 ∧ payload = [b0, b1, b2, b3] ∧ ofBytes [b0, b1, b2, b3] ≤ 999999999 ∧
           k = .card (ofBytes [b0, b1, b2, b3]))
       ∨ (∃ b, kind = 2 ∧ payload = [b] ∧ b.toNat ≤ 11 ∧ k = .key b.toNat)
       ∨ (kind = 3 ∧ payload = [] ∧ k = .call) ∨ (kind = 4 ∧ payload = [] ∧ k = .done)
       ∨ (∃ b0 b1 b2 b3, kind = 5 ∧ payload = [b0, b1, b2, b3] ∧ ofBytes [b0, b1, b2, b3] ≤ 99999999 ∧
           k = .tag (ofBytes [b0, b1, b2, b3]))) := by
  constructor
  · intro h
    by_cases h1 : payload.length = 1 ∧ (kind = 0 ∨ kind = 2)
    · obtain ⟨hlen, hkind⟩ := h1
      obtain ⟨b, rfl⟩ := List.length_eq_one_iff.mp hlen
      obtain rfl | rfl := hkind
      · exact .inl ⟨b, rfl, rfl, (Option.some.inj ((reportKindOf_hello b).symm.trans h)).symm⟩
      · obtain ⟨hle, hk⟩ := Option.ite_none_right_eq_some.mp ((reportKindOf_key b).symm.trans h)
        exact .inr (.inr (.inl ⟨b, rfl, rfl, hle, (Option.some.inj hk).symm⟩))
    by_cases h4 : payload.length = 4 ∧ (kind = 1 ∨ kind = 5)
    · obtain ⟨hlen, hkind⟩ := h4
      obtain ⟨a, b, c, d, rfl⟩ : ∃ a b c d, payload = [a, b, c, d] := by
        match payload, hlen with
        | [a, b, c, d], _ => exact ⟨a, b, c, d, rfl⟩
      obtain rfl | rfl := hkind
      · obtain ⟨hle, hk⟩ := Option.ite_none_right_eq_some.mp ((reportKindOf_card a b c d).symm.trans h)
        exact .inr (.inl ⟨a, b, c, d, rfl, rfl, hle, (Option.some.inj hk).symm⟩)
      · obtain ⟨hle, hk⟩ := Option.ite_none_right_eq_some.mp ((reportKindOf_tag a b c d).symm.trans h)
        exact .inr (.inr (.inr (.inr (.inr ⟨a, b, c, d, rfl, rfl, hle, (Option.some.inj hk).symm⟩))))
    by_cases h0 : payload.length = 0 ∧ (kind = 3 ∨ kind = 4)
    · obtain ⟨hlen, hkind⟩ := h0
      obtain rfl := List.length_eq_zero_iff.mp hlen
      obtain rfl | rfl := hkind
      · exact .inr (.inr (.inr (.inl ⟨rfl, rfl, (Option.some.inj h).symm⟩)))
      · exact .inr (.inr (.inr (.inr (.inl ⟨rfl, rfl, (Option.some.inj h).symm⟩))))
    rw [reportKindOf_other (fun hl => not_or.mp fun hk => h1 ⟨hl, hk⟩) (fun hl => not_or.mp fun hk => h4 ⟨hl, hk⟩)
      (fun hl => not_or.mp fun hk => h0 ⟨hl, hk⟩)] at h
    cases h
  · rintro (⟨b, rfl, rfl, rfl⟩ | ⟨a, b, c, d, rfl, rfl, hle, rfl⟩ | ⟨b, rfl, rfl, hle, rfl⟩ | ⟨rfl, rfl, rfl⟩ |
      ⟨rfl, rfl, rfl⟩ | ⟨a, b, c, d, rfl, rfl, hle, rfl⟩)
    · exact reportKindOf_hello b
    · exact (reportKindOf_card a b c d).trans (if_pos hle)
    · exact (reportKindOf_key b).trans (if_pos hle)
    · rfl
    · rfl
    · exact (reportKindOf_tag a b c d).trans (if_pos hle)

theorem reportOf_iff (r : SeatFrame) (k : ReportKind) :
    reportOf r = some k ↔ r.check = r.goodCheck ∧ r.length = r.payload.length ∧
      reportKindOf r.kind r.payload.length r.payload = some k := by
  constructor
  · intro h
    obtain ⟨⟨hcheck, -⟩, hk⟩ := Option.ite_none_right_eq_some.mp h
    have hlen : r.length = r.payload.length := by
      by_contra hne
      have hnone : reportKindOf r.kind r.length r.payload = none := if_pos (Ne.symm hne)
      rw [hnone] at hk
      cases hk
    rw [hlen] at hk
    exact ⟨hcheck, hlen, hk⟩
  · rintro ⟨hcheck, hlen, hk⟩
    have hshort : r.payload.length ≤ 12 := by
      obtain ⟨b, -, hp, -⟩ | ⟨a, b, c, d, -, hp, -⟩ | ⟨b, -, hp, -⟩ | ⟨-, hp, -⟩ | ⟨-, hp, -⟩ | ⟨a, b, c, d, -, hp, -⟩ :=
        (reportKindOf_iff ..).mp hk
      all_goals simp [hp]
    rw [reportOf, if_pos ⟨hcheck, by omega⟩, hlen, hk]

/-! ## Presence (R55 to R57) -/

section Presence
variable {s : State} {n : Nat} {x : Seat}

theorem State.seatPresent_of_seat (hx : s.seat? n = some x) :
    s.seatPresent n = if x.service = .faulty ∧ x.faultMark.isSome = true then
      (s.mapSeat n (fun y => { y with miss := 0, service := .inService, faultMark := none })).notifyZone x.zone
        (.seatRecovered n (s.numberOf x.occupant) s.hall.time)
    else s.mapSeat n (fun y => { y with miss := 0 }) := by
  simp only [State.seatPresent, hx]

theorem State.seatMiss_of_seat (hx : s.seat? n = some x) :
    s.seatMiss n = if x.miss = 2 ∧ x.service = .inService then
      (s.mapSeat n (fun y => { y with miss := 3, service := .faulty, faultMark := some s.hall.time })).notifyZone x.zone
        (.seatFault .silent n (s.numberOf x.occupant) s.hall.time)
    else s.mapSeat n (fun y => { y with miss := min 3 (y.miss + 1) }) := by
  simp only [State.seatMiss, hx]

theorem State.quietZero_seat? (hx : s.seat? n = some x) : (s.quietZero n).seat? n = some { x with quiet := 0 } := by
  refine (State.mapSeat_seat? s n n (fun x => { x with quiet := 0 }) (fun _ => rfl)).trans ?_
  rw [if_pos rfl, hx]
  rfl

/-- A seat whose unit has answered a frame: quiet time and miss count 0, and the recovery of a FAULTY seat. -/
theorem State.quietZero_seatPresent (hx : s.seat? n = some x) :
    (s.quietZero n).seatPresent n = if x.service = .faulty ∧ x.faultMark.isSome = true then
      (s.mapSeat n (fun y => { y with quiet := 0, miss := 0, service := .inService, faultMark := none })).notifyZone
        x.zone (.seatRecovered n (s.numberOf x.occupant) s.hall.time)
    else s.mapSeat n (fun y => { y with quiet := 0, miss := 0 }) := by
  rw [State.seatPresent_of_seat (State.quietZero_seat? hx), State.quietZero]
  simp only [State.mapSeat_mapSeat s n (f := fun x => { x with quiet := 0 }) (fun _ => rfl)]
  rfl

theorem State.quietZero_seatMiss (hx : s.seat? n = some x) :
    (s.quietZero n).seatMiss n = if x.miss = 2 ∧ x.service = .inService then
      (s.mapSeat n (fun y => { y with quiet := 0, miss := 3, service := .faulty, faultMark := some s.hall.time })).notifyZone
        x.zone (.seatFault .silent n (s.numberOf x.occupant) s.hall.time)
    else s.mapSeat n (fun y => { y with quiet := 0, miss := min 3 (y.miss + 1) }) := by
  rw [State.seatMiss_of_seat (State.quietZero_seat? hx), State.quietZero]
  simp only [State.mapSeat_mapSeat s n (f := fun x => { x with quiet := 0 }) (fun _ => rfl)]
  rfl

end Presence

/-- Settles O21: the end of a report at each stage, and the frames that are reports. -/
theorem reportsEnd : Obligations.ReportsEnd := by
  unfold Obligations.ReportsEnd
  refine ⟨fun s r stage h => ?_, fun r k => ?_⟩
  · have harm : exec .seatReportEnd s = execSeatReportEnd s := rfl
    refine ⟨fun hnone hstage => ?_, fun k hk hstage => ?_, fun k x hk hstage hx => ?_⟩
    · obtain rfl | rfl | rfl := hstage
      · simp only [harm, execSeatReportEnd, h, hnone]
        rfl
      · simp only [harm, execSeatReportEnd, h, hnone]
        rfl
      · simp only [harm, execSeatReportEnd, h, hnone, Option.isSome_none, Bool.and_false]
        rfl
    · intro acked
      have hacked : seatOk r.address = acked := by
        simp only [seatOk, acked, Bool.decide_and]
      subst hstage
      simp only [harm, execSeatReportEnd, h, hk, Option.isSome_some, Bool.and_true, hacked]
      rfl
    · intro inbox l
      obtain rfl | rfl := hstage
      · have hend : (s.endReport true).pushReport r.address k = { s with line := l } := rfl
        simp only [harm, execSeatReportEnd, h, hk, hend]
        exact congrArg _ (State.quietZero_seatPresent (s := { s with line := l }) hx)
      · have hend : s.endReport false = { s with line := l } := rfl
        simp only [harm, execSeatReportEnd, h, hk, hend]
        exact congrArg _ (State.quietZero_seatPresent (s := { s with line := l }) hx)
  · simp only [← ofBytes_four]
    rw [reportOf_iff, reportKindOf_iff]

end Sys2Proof.Machine
end

section
/-! SUPPORT. The arbiter and the acknowledge slot of its frames (R52, R53, R55 to R58). -/

namespace Sys2Proof.Machine

/-! ## The next seat in order (R52) -/

section Next
variable {seats : List Seat}

/-- In a list in ascending seat number the first seat that passes a test is the lowest that does. -/
theorem find?_of_lowest (hsorted : seats.Pairwise (fun x y => x.seat < y.seat)) {q : Seat → Bool} {x : Seat}
    (hx : x ∈ seats) (hq : q x = true) (hlow : ∀ y ∈ seats, q y = true → x.seat ≤ y.seat) : seats.find? q = some x := by
  induction seats with
  | nil => cases hx
  | cons y ys ih =>
    obtain ⟨hy, hys⟩ := List.pairwise_cons.mp hsorted
    obtain rfl | hmem := List.mem_cons.mp hx
    · exact List.find?_cons_of_pos hq
    · have hlt := hy x hmem
      have hfail : ¬ q y = true := fun h => by
        have := hlow y List.mem_cons_self h
        omega
      rw [List.find?_cons_of_neg hfail]
      exact ih hys hmem fun z hz => hlow z (List.mem_cons_of_mem _ hz)

theorem nextSeat_of_above (hsorted : seats.Pairwise (fun x y => x.seat < y.seat)) {q : Seat → Bool} {last : Nat} {x : Seat}
    (hx : x ∈ seats) (hq : q x = true) (hlast : last < x.seat)
    (hlow : ∀ y ∈ seats, q y = true → last < y.seat → x.seat ≤ y.seat) : nextSeat seats q last = some x := by
  have hfind : seats.find? (fun x => q x && decide (last < x.seat)) = some x := by
    refine find?_of_lowest hsorted hx (by simp [hq, hlast]) fun y hy hqy => ?_
    simp only [Bool.and_eq_true, decide_eq_true_eq] at hqy
    exact hlow y hy hqy.1 hqy.2
  rw [nextSeat, hfind]

theorem nextSeat_of_wrapped (hsorted : seats.Pairwise (fun x y => x.seat < y.seat)) {q : Seat → Bool} {last : Nat} {x : Seat}
    (hx : x ∈ seats) (hq : q x = true) (hlast : ∀ y ∈ seats, q y = true → y.seat ≤ last)
    (hlow : ∀ y ∈ seats, q y = true → x.seat ≤ y.seat) : nextSeat seats q last = some x := by
  have hfind : seats.find? (fun x => q x && decide (last < x.seat)) = none := by
    rw [List.find?_eq_none]
    intro y hy hqy
    simp only [Bool.and_eq_true, decide_eq_true_eq] at hqy
    have := hlast y hy hqy.1
    omega
  rw [nextSeat, hfind]
  exact find?_of_lowest hsorted hx hq hlow

theorem nextSeat_eq_none {q : Seat → Bool} (last : Nat) (h : ∀ y ∈ seats, ¬ q y = true) : nextSeat seats q last = none := by
  have hnone : seats.find? q = none := List.find?_eq_none.mpr h
  have habove : seats.find? (fun x => q x && decide (last < x.seat)) = none := by
    rw [List.find?_eq_none]
    intro y hy hqy
    exact h y hy (Bool.and_elim_left hqy)
  rw [nextSeat, habove, hnone]

end Next

/-! ## The arbiter's sources in order (R52) -/

section Arbiter
variable {s : State}

theorem State.arbiterStart_of_acked {n : Nat} {d : Display} (h : s.line.deliver = some ⟨n, d, true⟩) :
    s.arbiterStart = { s with line := { s.line with deliver := none } }.startFrame ⟨n, .display d⟩ := by
  simp only [State.arbiterStart, h]

theorem State.arbiterStart_of_queue (h : ∀ n d, s.line.deliver ≠ some ⟨n, d, true⟩) {f : LineFrame} {fs : List LineFrame}
    (hq : s.line.groupQueue = f :: fs) :
    s.arbiterStart = { s with line := { s.line with groupQueue := fs } }.startFrame f := by
  cases hd : s.line.deliver with
  | none => simp only [State.arbiterStart, hd, hq]
  | some v =>
    obtain ⟨n, d, acked⟩ := v
    cases acked with
    | true => exact absurd hd (h n d)
    | false => simp only [State.arbiterStart, hd, hq]

theorem State.arbiterStart_of_seats (h : ∀ n d, s.line.deliver ≠ some ⟨n, d, true⟩) (hq : s.line.groupQueue = []) :
    s.arbiterStart = s.serveSeats := by
  cases hd : s.line.deliver with
  | none => simp only [State.arbiterStart, hd, hq]
  | some v =>
    obtain ⟨n, d, acked⟩ := v
    cases acked with
    | true => exact absurd hd (h n d)
    | false => simp only [State.arbiterStart, hd, hq]

theorem State.serveSeats_of_owed {x : Seat}
    (h : nextSeat s.hall.seats (fun x => x.owed && decide (x.miss < 3)) s.line.lastServed = some x) :
    s.serveSeats =
      (let s' := s.mapSeat x.seat (fun y => { y with owed := false })
      { s' with line := { s'.line with lastServed := x.seat, deliver := x.delivery } }.startFrame x.firstFrame) := by
  simp only [State.serveSeats, h]

theorem State.serveSeats_of_due {x : Seat}
    (h : nextSeat s.hall.seats (fun x => x.owed && decide (x.miss < 3)) s.line.lastServed = none)
    (hdue : nextSeat s.hall.seats (fun x => x.occupant.isSome && decide (8 ≤ x.quiet)) s.line.lastPolled = some x) :
    s.serveSeats = { s with line := { s.line with lastPolled := x.seat } }.startFrame ⟨x.seat, .poll⟩ := by
  simp only [State.serveSeats, h, hdue]

theorem State.serveSeats_of_none
    (h : nextSeat s.hall.seats (fun x => x.owed && decide (x.miss < 3)) s.line.lastServed = none)
    (hdue : nextSeat s.hall.seats (fun x => x.occupant.isSome && decide (8 ≤ x.quiet)) s.line.lastPolled = none) :
    s.serveSeats = s := by
  simp only [State.serveSeats, h, hdue]

end Arbiter

/-- Settles O22: the arbiter's sources in their order, and the seat each takes. -/
theorem arbiterStarts : Obligations.ArbiterStarts := by
  unfold Obligations.ArbiterStarts
  intro s hidle hsorted busy owed due next
  have harm : exec .lineArbiterStart s = execLineArbiterStart s := rfl
  have hstart : exec .lineArbiterStart s = .next s.arbiterStart := by
    simp only [harm, execLineArbiterStart, hidle]
  have hnext : ∀ {p : Seat → Prop} {q : Seat → Bool} {last : Nat} {x : Seat}, (∀ y, q y = true ↔ p y) → next p last x →
      nextSeat s.hall.seats q last = some x := by
    rintro p q last x hqp ⟨hx, hp, ⟨hlast, hlow⟩ | ⟨hlast, hlow⟩⟩
    · exact nextSeat_of_above hsorted hx ((hqp x).mpr hp) hlast fun y hy hq => hlow y hy ((hqp y).mp hq)
    · exact nextSeat_of_wrapped hsorted hx ((hqp x).mpr hp) (fun y hy hq => hlast y hy ((hqp y).mp hq))
        fun y hy hq => hlow y hy ((hqp y).mp hq)
  have howed : ∀ y : Seat, (y.owed && decide (y.miss < 3)) = true ↔ owed y := fun y => by simp [owed]
  have hdue : ∀ y : Seat, (y.occupant.isSome && decide (8 ≤ y.quiet)) = true ↔ due y := fun y => by simp [due]
  rw [hstart]
  refine ⟨fun n d h => congrArg _ (State.arbiterStart_of_acked h), fun hdeliver =>
    ⟨fun f fs hq => congrArg _ (State.arbiterStart_of_queue hdeliver hq), fun hq => ?_⟩⟩
  rw [State.arbiterStart_of_seats hdeliver hq]
  refine ⟨fun x hx => ?_, fun hnone => ?_⟩
  · rw [State.serveSeats_of_owed (hnext howed hx)]
    refine congrArg _ ?_
    by_cases hgroup : unitGroupOf x.display.group = x.unitGroup
    · rw [Seat.delivery, Seat.firstFrame, if_pos hgroup, if_pos hgroup]
      exact (if_pos hgroup).symm
    · rw [Seat.delivery, Seat.firstFrame, if_neg hgroup, if_neg hgroup]
      exact (if_neg hgroup).symm
  · have hnoneOwed := nextSeat_eq_none s.line.lastServed (fun y hy h => hnone y hy ((howed y).mp h))
    refine ⟨fun x hx => ?_, fun hnoneDue => ?_⟩
    · rw [State.serveSeats_of_due hnoneOwed (hnext hdue hx)]
      rfl
    · rw [State.serveSeats_of_none hnoneOwed
        (nextSeat_eq_none s.line.lastPolled (fun y hy h => hnoneDue y hy ((hdue y).mp h)))]

/-! ## The acknowledge slot (R52, R55 to R57) -/

section Ack
variable {s : State} {f : LineFrame}

theorem exec_ack_voided (ack : Bool) (h : s.line.cond = .busyController f true) :
    exec (.controllerFrameAck ack) s = .next (s.setLine .quiet) := by
  have harm : exec (.controllerFrameAck ack) s = execControllerFrameAck ack s := rfl
  simp only [harm, execControllerFrameAck, h, if_true]

theorem exec_ack_group (ack : Bool) (h : s.line.cond = .busyController f false) (hf : seatOk f.address = false) :
    exec (.controllerFrameAck ack) s = .next (s.setLine .quiet) := by
  have harm : exec (.controllerFrameAck ack) s = execControllerFrameAck ack s := rfl
  simp only [harm, execControllerFrameAck, h, hf, Bool.false_eq_true, if_false]

theorem exec_ack_seat (h : s.line.cond = .busyController f false) (hf : seatOk f.address = true) :
    exec (.controllerFrameAck true) s = .next (((s.setLine .quiet).quietZero f.address).frameAcked f.address f.kind)
    ∧ exec (.controllerFrameAck false) s =
      .next (((s.setLine .quiet).quietZero f.address).frameNacked f.address f.kind) := by
  have harm : ∀ ack, exec (.controllerFrameAck ack) s = execControllerFrameAck ack s := fun _ => rfl
  simp only [harm, execControllerFrameAck, h, hf, Bool.false_eq_true, if_false, if_true, and_self]

/-- What follows an answer at a seat of an acknowledged GROUP_SET: the unit group, and the delivery acknowledged. -/
theorem State.frameAcked_groupSet (s : State) (n : Nat) (g : Option Nat) :
    s.frameAcked n (.groupSet g) = { (s.seatPresent n).mapSeat n (fun x => { x with unitGroup := unitGroupOf g }) with
      line := { (s.seatPresent n).line with
        deliver := (s.seatPresent n).line.deliver.map (fun d => { d with acked := true }) } } := rfl

theorem State.frameNacked_groupSet (s : State) (n : Nat) (g : Option Nat) :
    s.frameNacked n (.groupSet g) = { (s.seatMiss n).mapSeat n (fun x => { x with owed := true }) with
      line := { (s.seatMiss n).line with deliver := none } } := rfl

end Ack

/-! ## A notice that goes out or not -/

/-- A notice to zone desks and chief where a condition holds. -/
def State.tellIf (s : State) (p : Prop) [Decidable p] (z : Nat) (n : Notice) : State :=
  if p then s.notifyZone z n else s

section Tell
variable (s : State) (p : Prop) [Decidable p] (z : Nat) (n : Notice)

@[simp] theorem State.tellIf_line : (s.tellIf p z n).line = s.line := by
  rw [State.tellIf]
  split
  · exact s.notifyZone_line z n
  · rfl

theorem State.tellIf_mapSeat (m : Nat) (f : Seat → Seat) : (s.tellIf p z n).mapSeat m f = (s.mapSeat m f).tellIf p z n := by
  rw [State.tellIf, State.tellIf]
  split
  · exact s.notifyZone_mapSeat z m n f
  · rfl

theorem State.tellIf_withLine (l : SeatLine) : { s.tellIf p z n with line := l } = { s with line := l }.tellIf p z n := by
  rw [State.tellIf, State.tellIf]
  split
  · exact s.notifyZone_withLine z n l
  · rfl

end Tell

/-- A seat whose unit has answered; one that recovers is in service again, its fault mark gone. -/
def Seat.answered (recovers : Prop) [Decidable recovers] (y : Seat) : Seat :=
  { y with quiet := 0, miss := 0, service := if recovers then .inService else y.service,
           faultMark := if recovers then none else y.faultMark }

/-- A seat whose unit has not answered; one that fails is FAULTY, its fault mark set. -/
def Seat.missed (fails : Prop) [Decidable fails] (now : Nat) (y : Seat) : Seat :=
  { y with quiet := 0, miss := if fails then 3 else min 3 (y.miss + 1), service := if fails then .faulty else y.service,
           faultMark := if fails then some now else y.faultMark }

section Effects
variable {p : Prop} [Decidable p]

theorem Seat.answered_of (h : p) : Seat.answered p =
    fun y => { y with quiet := 0, miss := 0, service := .inService, faultMark := none } := by
  funext y
  simp only [Seat.answered, if_pos h]

theorem Seat.answered_of_not (h : ¬ p) : Seat.answered p = fun y => { y with quiet := 0, miss := 0 } := by
  funext y
  simp only [Seat.answered, if_neg h]

theorem Seat.missed_of (h : p) (now : Nat) : Seat.missed p now =
    fun y => { y with quiet := 0, miss := 3, service := .faulty, faultMark := some now } := by
  funext y
  simp only [Seat.missed, if_pos h]

theorem Seat.missed_of_not (h : ¬ p) (now : Nat) : Seat.missed p now =
    fun y => { y with quiet := 0, miss := min 3 (y.miss + 1) } := by
  funext y
  simp only [Seat.missed, if_neg h]

end Effects

section Answer
variable {s : State} {n : Nat} {x : Seat} (hx : s.seat? n = some x)
include hx

theorem State.seatPresent_eq_tellIf :
    (s.quietZero n).seatPresent n =
      (s.mapSeat n (Seat.answered (x.service = .faulty ∧ x.faultMark.isSome = true))).tellIf
        (x.service = .faulty ∧ x.faultMark.isSome = true) x.zone
        (.seatRecovered n (s.numberOf x.occupant) s.hall.time) := by
  rw [State.quietZero_seatPresent hx, State.tellIf]
  by_cases hr : x.service = .faulty ∧ x.faultMark.isSome = true
  · rw [if_pos hr, if_pos hr, Seat.answered_of hr]
  · rw [if_neg hr, if_neg hr, Seat.answered_of_not hr]

theorem State.seatMiss_eq_tellIf :
    (s.quietZero n).seatMiss n =
      (s.mapSeat n (Seat.missed (x.miss = 2 ∧ x.service = .inService) s.hall.time)).tellIf
        (x.miss = 2 ∧ x.service = .inService) x.zone
        (.seatFault .silent n (s.numberOf x.occupant) s.hall.time) := by
  rw [State.quietZero_seatMiss hx, State.tellIf]
  by_cases hf : x.miss = 2 ∧ x.service = .inService
  · rw [if_pos hf, if_pos hf, Seat.missed_of hf]
  · rw [if_neg hf, if_neg hf, Seat.missed_of_not hf]

end Answer

/-- Settles O23: a frame that only ends, and the answer or the silence of the seat a frame was sent to. -/
theorem frameAcknowledged : Obligations.FrameAcknowledged := by
  unfold Obligations.FrameAcknowledged
  intro s f
  refine ⟨fun ack h => exec_ack_voided ack h, fun ack h hf => exec_ack_group ack h ?_, fun x h hlo hhi hx => ?_⟩
  · obtain h0 | h511 := hf
    · simp [seatOk, h0]
    · simp [seatOk]
      omega
  obtain ⟨address, kind⟩ := f
  intro recovers fails carries
  obtain ⟨hack, hnack⟩ := exec_ack_seat h (seatOk_of_inRange hlo hhi)
  have hquiet : (s.setLine .quiet).seat? address = some x := hx
  have hpresent := State.seatPresent_eq_tellIf hquiet
  have hmiss := State.seatMiss_eq_tellIf hquiet
  refine ⟨⟨_, _, hack.trans (congrArg _ ?_), rfl, rfl⟩, ⟨_, _, hnack.trans (congrArg _ ?_), rfl, rfl⟩⟩
  · cases kind with
    | groupSet g =>
      rw [State.frameAcked_groupSet, hpresent, State.tellIf_line, State.tellIf_mapSeat, State.tellIf_withLine,
        State.mapSeat_mapSeat _ _ (f := Seat.answered _) (fun _ => rfl)]
      rfl
    | _ => exact hpresent
  · have hnacked : ∀ d, ((s.setLine .quiet).quietZero address).frameNacked address (.display d) =
        (((s.setLine .quiet).quietZero address).seatMiss address).mapSeat address (fun y => { y with owed := true }) :=
      fun _ => rfl
    cases kind with
    | groupSet g =>
      rw [State.frameNacked_groupSet, hmiss, State.tellIf_line, State.tellIf_mapSeat, State.tellIf_withLine,
        State.mapSeat_mapSeat _ _ (f := Seat.missed _ _) (fun _ => rfl)]
      rfl
    | display d =>
      rw [hnacked, hmiss, State.tellIf_mapSeat, State.mapSeat_mapSeat _ _ (f := Seat.missed _ _) (fun _ => rfl)]
      rfl
    | _ => exact hmiss

end Sys2Proof.Machine
end

section
/-! SUPPORT. HELLO and KEY reports (R45, R48, R49), and the display record (R50, R69). -/

namespace Sys2Proof.Machine

/-! ## HELLO and KEY -/

section Reports
variable {s : State} {n time : Nat} {rest : List Report} {x : Seat}

theorem State.leaveInbox_of_head {r : Report} (h : s.line.inbox = r :: rest) :
    s.leaveInbox = { s with line := { s.line with inbox := rest, cond := s.leaveInbox.line.cond } } := by
  simp only [State.leaveInbox, h, List.tail_cons]

theorem exec_hello_eq {bits : Nat} (h : s.line.inbox = ⟨n, .hello bits, time⟩ :: rest) :
    exec .hello s = .next (s.leaveInbox.helloAt n bits) := by
  have harm : exec .hello s = execHello s := rfl
  rw [harm, execHello, h]

theorem exec_key_eq {code : Nat} (h : s.line.inbox = ⟨n, .key code, time⟩ :: rest) :
    exec .key s = .next (s.leaveInbox.keyAt n code) := by
  have harm : exec .key s = execKey s := rfl
  rw [harm, execKey, h]

theorem State.helloAt_of_seat (hx : s.seat? n = some x) (bits : Nat) :
    s.helloAt n bits =
      (let s' := s.mapSeat n (fun y => { y with unitFaults := bits, unitGroup := .unknown, owed := true })
      if bits = 0 then s'
      else s'.notifyZone x.zone (.seatFault (.unit bits) n (s.numberOf x.occupant) s.hall.time)) := by
  simp only [State.helloAt, hx]

theorem State.keyAt_of_digit (hx : s.seat? n = some x) {code : Nat} (h : code ≤ 9) :
    s.keyAt n code = s.mapSeat n (fun y => { y with keys := pushDigit y.keys code }) := by
  simp only [State.keyAt, hx]
  rw [if_neg (by omega), if_neg (by omega)]

theorem State.keyAt_of_clear (hx : s.seat? n = some x) : s.keyAt n 10 = s.clearKeys n := by
  simp only [State.keyAt, hx, if_true]

theorem State.keyAt_of_enter (hx : s.seat? n = some x) :
    s.keyAt n 11 = if x.keys.length < 9 then s.writeCode n (.cond .entry) 0 else s.admitAtSeat n (keysNumber x.keys) := by
  simp only [State.keyAt, hx]
  rfl

end Reports

/-- Settles O24: HELLO's effects, and each key's. -/
theorem helloAndKeyTaken : Obligations.HelloAndKeyTaken := by
  unfold Obligations.HelloAndKeyTaken
  refine ⟨fun s n bits time rest x h hx => ?_, fun s n code time rest x h hx => ?_⟩
  · intro cond t
    have hleave : s.leaveInbox = { s with line := { s.line with inbox := rest, cond := cond } } :=
      State.leaveInbox_of_head h
    have hx' : s.leaveInbox.seat? n = some x := hx
    rw [exec_hello_eq h, State.helloAt_of_seat hx', hleave]
    rfl
  · intro t
    have hx' : s.leaveInbox.seat? n = some x := hx
    rw [exec_key_eq h]
    refine ⟨fun hcode => ?_, fun hcode => ?_, fun hcode hlen => ?_, fun a b c d e f g h' i hcode hkeys u hu => ?_⟩
    · rw [State.keyAt_of_digit hx' hcode]
      simp only [pushDigit, ← List.drop_one]
      rfl
    · subst hcode
      rw [State.keyAt_of_clear hx']
      rfl
    · subst hcode
      rw [State.keyAt_of_enter hx', if_pos hlen]
    · subst hcode
      have hnumber : keysNumber x.keys = a * 10 ^ 8 + b * 10 ^ 7 + c * 10 ^ 6 + d * 10 ^ 5 + e * 10 ^ 4 + f * 10 ^ 3
          + g * 10 ^ 2 + h' * 10 + i := by
        simp only [hkeys, keysNumber, List.foldl_cons, List.foldl_nil]
        ring
      have hhead : u.line.inbox = ⟨n, .card (keysNumber x.keys), time⟩ :: rest := by rw [hu, hnumber]
      have hsame : u.leaveInbox = s.leaveInbox := by
        rw [hu, State.leaveInbox, State.leaveInbox, h]
        rfl
      rw [State.keyAt_of_enter hx', if_neg (by simp [hkeys]), exec_card_eq hhead, hsame]

/-! ## The display record (R50, R69) -/

section Display
variable {s : State} {i m n : Nat} {c : Cand} {mode : DisplayMode} {rem num : Nat} {lock : Bool}

theorem State.showAt_of_shown (hc : s.cand? i = some c) (hshown : c.shown (s.held c.sitting) = some (mode, rem, num, lock))
    (code : Option DispCode) :
    s.showAt n i code = s.writeDisplay n (fun d =>
      { d with mode := mode, remaining := rem, number := num, lock := lock }.withCode? code) := by
  simp only [State.showAt, hc, Option.bind_some, hshown]

theorem State.showCand_of_seat (hc : s.cand? i = some c) (hseat : c.seat = some n) (code : Option DispCode) :
    s.showCand i code = s.showAt n i code := by
  simp only [State.showCand, hc, Option.bind_some, hseat]

theorem State.showCand_of_none (hc : s.cand? i = some c) (hseat : c.seat = none) (code : Option DispCode) :
    s.showCand i code = s := by
  simp only [State.showCand, hc, Option.bind_some, hseat]

theorem Cand.shown_eq_none {held : Bool} (h : c.state = .collected ∨ c.state = .absent ∨ c.state = .withdrawn) :
    c.shown held = none := by
  obtain h | h | h := h <;> simp [Cand.shown, h]

theorem State.showAt_of_left (hc : s.cand? i = some c) (h : c.state = .collected ∨ c.state = .absent ∨ c.state = .withdrawn)
    (code : Option DispCode) : s.showAt n i code = (code.map (fun k => s.writeCode n k 0)).getD s := by
  cases code <;> simp only [State.showAt, hc, Option.bind_some, Cand.shown_eq_none h, Option.map_none, Option.map_some,
    Option.getD_none, Option.getD_some]

end Display

/-- Settles O25: the writes, and R69's table. -/
theorem displayRecord : Obligations.DisplayRecord := by
  unfold Obligations.DisplayRecord
  refine ⟨fun s n x hx => ⟨fun f => ?_, fun code arg => ?_⟩, fun s i m c mode rem num lock hc hrow => ?_,
    fun s i m c hc hleft => ⟨State.showAt_of_left hc hleft none, fun k => State.showAt_of_left hc hleft (some k)⟩⟩
  · refine ⟨?_, fun m hm => ?_⟩
    · rw [State.writeDisplay_seat?, if_pos rfl, hx, Option.map_some]
    · rw [State.writeDisplay_seat?, if_neg (Ne.symm hm)]
  · intro next
    have hnext : (x.display.codeSeq + 1) % 256 = next := by
      simp only [next]
      split <;> omega
    rw [State.writeCode, State.writeDisplay_seat?, if_pos rfl, hx, Option.map_some, Display.withCode, hnext]
  · have hshown : c.shown (s.held c.sitting) = some (mode, rem, num, lock) := by
      simp only [List.mem_cons, Prod.mk.injEq, List.not_mem_nil, or_false] at hrow
      obtain ⟨hs, hh, rfl, rfl, rfl, rfl⟩ | ⟨hs, hh, rfl, rfl, rfl, rfl⟩ | ⟨hs, hh, rfl, rfl, rfl, rfl⟩ |
        ⟨hs, hh, rfl, rfl, rfl, rfl⟩ | ⟨hs, hh, rfl, rfl, rfl, rfl⟩ | ⟨hs, hh, rfl, rfl, rfl, rfl⟩ |
        ⟨hs, hh, rfl, rfl, rfl, rfl⟩ | ⟨hs, hh, rfl, rfl, rfl, rfl⟩ | ⟨hs, hh, rfl, rfl, rfl, rfl⟩ |
        ⟨hs, hh, rfl, rfl, rfl, rfl⟩ := hrow
      all_goals simp [Cand.shown, hs, hh, Cand.remaining, lastFour]
    intro plain coded
    have hshow := fun code => State.showAt_of_shown (n := m) hc hshown code
    exact ⟨hshow none, fun k => hshow (some k), fun hseat =>
      ⟨(State.showCand_of_seat hc hseat none).trans (hshow none),
        fun k => (State.showCand_of_seat hc hseat (some k)).trans (hshow (some k))⟩⟩

end Sys2Proof.Machine
end

section
/-! SUPPORT. Candidates and sittings changed, the sitting tests and the collection test (R19, R78, R79, R109,
R110), and the finish of a candidate (R72, R94). -/

namespace Sys2Proof.Machine

/-! ## Records changed twice -/

section Records
variable (s : State) (i n : Nat)

theorem State.mapCand_mapCand (f g : Cand → Cand) : (s.mapCand i f).mapCand i g = s.mapCand i (g ∘ f) := by
  simp only [State.mapCand, List.modify_modify_eq]

theorem State.mapSitting_mapSitting {f : Sitting → Sitting} (hf : ∀ x, (f x).number = x.number) (g : Sitting → Sitting) :
    (s.mapSitting n f).mapSitting n g = s.mapSitting n (g ∘ f) := by
  simp only [State.mapSitting, List.map_map]
  congr 2
  apply List.map_congr_left
  intro x _
  by_cases h : x.number = n
  · simp [h, hf]
  · simp [h]

theorem State.mapCand_congr {f g : Cand → Cand} {c : Cand} (hc : s.cand? i = some c) (h : f c = g c) :
    s.mapCand i f = s.mapCand i g := by
  have hlist : s.hall.cands.modify i f = s.hall.cands.modify i g := by
    rw [List.modify_eq_set_of_getElem? hc, List.modify_eq_set_of_getElem? hc, h]
  simp only [State.mapCand, hlist]

end Records

section CandState
variable {s : State} {i n : Nat} {c : Cand} {x : Sitting}

theorem State.setCandState_of_cand (hc : s.cand? i = some c) (new : CandState) :
    s.setCandState i new = (s.mapCand i (fun c => { c with state := new })).mapSitting c.sitting
      (fun x => { x with counts := (x.counts.dec c.state).inc new }) := by
  simp only [State.setCandState, hc]

theorem State.setCandState_mapCand (hc : s.cand? i = some c) (new : CandState) (g : Cand → Cand) :
    (s.setCandState i new).mapCand i g = (s.mapCand i (fun y => g { y with state := new })).mapSitting c.sitting
      (fun x => { x with counts := (x.counts.dec c.state).inc new }) := by
  rw [State.setCandState_of_cand hc]
  exact congrArg (fun t => State.mapSitting t c.sitting (fun x => { x with counts := (x.counts.dec c.state).inc new }))
    (State.mapCand_mapCand s i (fun c => { c with state := new }) g)

/-! ## The sitting tests (R78, R79) -/

theorem Counts.nobodyLeft_iff (k : Counts) : k.nobodyLeft = true ↔
    k.expected = 0 ∧ k.admitted = 0 ∧ k.writing = 0 ∧ k.resting = 0 := by
  simp [Counts.nobodyLeft, and_assoc]

theorem State.closedTest_of_ends (hx : s.sitting? n = some x) (hstate : x.state = .collecting)
    (hfinished : x.counts.finished = 0) : s.closedTest n =
      (s.mapSitting n (fun y => { y with state := .closed })).offer .sittingClose (s.sittingCloseBody x) := by
  simp only [State.closedTest, hx, hstate, hfinished, and_self, if_true]

theorem State.closedTest_of_stays (hx : s.sitting? n = some x)
    (h : ¬ (x.state = .collecting ∧ x.counts.finished = 0)) : s.closedTest n = s := by
  simp only [State.closedTest, hx, if_neg h]

theorem State.sittingTests_of_collecting (hx : s.sitting? n = some x) (hstate : x.state = .writing)
    (hnobody : x.counts.nobodyLeft = true) : s.sittingTests n =
      (s.mapSitting n (fun y => { y with state := .collecting, admission := false })).closedTest n := by
  simp only [State.sittingTests, hx, hstate, hnobody, and_self, if_true]

theorem State.sittingTests_of_not_collecting (hx : s.sitting? n = some x)
    (h : ¬ (x.state = .writing ∧ x.counts.nobodyLeft = true)) : s.sittingTests n = s.closedTest n := by
  simp only [State.sittingTests, hx, if_neg h]

/-- The record of a sitting once the COLLECTING test has taken it out of WRITING. -/
theorem State.collecting_sitting? (hx : s.sitting? n = some x) :
    (s.mapSitting n (fun y => { y with state := .collecting, admission := false })).sitting? n =
      some { x with state := .collecting, admission := false } := by
  rw [State.mapSitting_sitting? s n n (fun y => { y with state := .collecting, admission := false }) (fun _ => rfl),
    if_pos rfl, hx, Option.map_some]

theorem State.sittingTests_of_somebody (hx : s.sitting? n = some x) (hstate : x.state = .writing)
    (h : ¬ x.counts.nobodyLeft = true) : s.sittingTests n = s := by
  rw [State.sittingTests_of_not_collecting hx (fun ⟨_, hn⟩ => h hn),
    State.closedTest_of_stays hx (fun ⟨hs, _⟩ => by rw [hstate] at hs; cases hs)]

theorem State.sittingTests_of_nobody (hx : s.sitting? n = some x) (hstate : x.state = .writing)
    (hnobody : x.counts.nobodyLeft = true) (hfinished : x.counts.finished ≠ 0) : s.sittingTests n =
      s.mapSitting n (fun y => { y with state := .collecting, admission := false }) := by
  rw [State.sittingTests_of_collecting hx hstate hnobody,
    State.closedTest_of_stays (State.collecting_sitting? hx) (fun ⟨_, h⟩ => hfinished h)]

theorem State.sittingTests_of_all_gone (hx : s.sitting? n = some x) (hstate : x.state = .writing)
    (hnobody : x.counts.nobodyLeft = true) (hfinished : x.counts.finished = 0) : s.sittingTests n =
      (s.mapSitting n (fun y => { y with state := .closed, admission := false })).offer .sittingClose
        (s.sittingCloseBody x) := by
  rw [State.sittingTests_of_collecting hx hstate hnobody,
    State.closedTest_of_ends (State.collecting_sitting? hx) rfl hfinished,
    State.mapSitting_mapSitting s n (f := fun y => { y with state := .collecting, admission := false }) (fun _ => rfl)]
  rfl

/-! ## The collection test (R109) -/

theorem State.all_entriesOf (q : Custody → Bool) :
    (s.entriesOf i).all q = s.custody.all (fun e => !decide (e.cand = some i) || q e) := by
  rw [State.entriesOf, List.all_filter]

theorem State.collectable_iff (hc : s.cand? i = some c) : s.collectable i = true ↔
    c.state = .finished ∧ ∀ e ∈ s.custody, e.cand = some i → e.state ≠ .issued := by
  simp [State.collectable, hc, State.entriesOf, imp_iff_not_or]

theorem State.collectionTest_of_stays (hc : s.cand? i = some c)
    (h : c.state ≠ .finished ∨ ∃ e ∈ s.custody, e.cand = some i ∧ e.state = .issued) : s.collectionTest i = s := by
  have hnot : ¬ s.collectable i = true := by
    rw [State.collectable_iff hc]
    rintro ⟨hstate, hall⟩
    obtain h | ⟨e, he, hcand, hissued⟩ := h
    · exact h hstate
    · exact hall e he hcand hissued
  rw [State.collectionTest, if_neg hnot]

/-- Every entry of a candidate is VOID (R109). -/
def State.allVoid (s : State) (i : Nat) : Bool :=
  s.custody.all (fun e => !decide (e.cand = some i) || decide (e.state = .void))

/-- A FINISHED candidate made COLLECTED, its seat not yet released (R109). -/
def State.collected (s : State) (i n : Nat) : State :=
  (s.mapCand i (fun y => { y with state := .collected, nilScript := y.nilScript || s.allVoid i })).mapSitting n
    (fun y => { y with counts := (y.counts.dec .finished).inc .collected })

theorem State.collectionTest_of_collectable (hc : s.cand? i = some c) (hstate : c.state = .finished)
    (hall : ∀ e ∈ s.custody, e.cand = some i → e.state ≠ .issued) : s.collectionTest i =
      (((s.collected i c.sitting).releaseCand i).offerCustodyClose i false).sittingTests c.sitting := by
  have hcollect : (s.setCandState i .collected).mapCand i
      (fun y => { y with nilScript := y.nilScript || (s.entriesOf i).all (fun e => decide (e.state = .void)) }) =
      s.collected i c.sitting := by
    rw [State.setCandState_mapCand hc, State.all_entriesOf, hstate]
    rfl
  rw [State.collectionTest, if_pos ((State.collectable_iff hc).mpr ⟨hstate, hall⟩)]
  simp only [hc, hcollect]

theorem State.offerCustodyClose_of_cand (hc : s.cand? i = some c) (amended : Bool) :
    s.offerCustodyClose i amended = s.offer .custodyClose (s.custodyCloseBody i c amended) := by
  simp only [State.offerCustodyClose, hc]

theorem flagsValue_five (a b c d e : Bool) : flagsValue [a, b, c, d, e] =
    (if a then 2 ^ 0 else 0) + (if b then 2 ^ 1 else 0) + (if c then 2 ^ 2 else 0) + (if d then 2 ^ 3 else 0)
      + (if e then 2 ^ 4 else 0) := by
  cases a <;> cases b <;> cases c <;> cases d <;> cases e <;> rfl

end CandState

/-- Settles O42: the collection test, the sitting tests, and the CUSTODY_CLOSE record. -/
theorem collectionTested : Obligations.CollectionTested := by
  unfold Obligations.CollectionTested
  refine ⟨fun s i c hc => ⟨State.collectionTest_of_stays hc, fun hstate hall => ?_⟩, fun s n x hx => ?_,
    fun s i c amended hc => ?_⟩
  · exact State.collectionTest_of_collectable hc hstate hall
  · intro empty record
    have hn := State.number_of_sitting? hx
    have hbody : s.sittingCloseBody x =
        [⟨2, s.hall.sessionNo.getD 0⟩, ⟨1, n⟩, ⟨2, x.counts.expected⟩, ⟨2, x.counts.admitted⟩,
         ⟨2, x.counts.writing⟩, ⟨2, x.counts.resting⟩, ⟨2, x.counts.finished⟩, ⟨2, x.counts.collected⟩,
         ⟨2, x.counts.absent⟩, ⟨2, x.counts.withdrawn⟩, ⟨2, x.sel⟩, ⟨4, x.pauseAcc⟩, markField x.disrupted,
         ⟨4, s.hall.time⟩] := by
      rw [← hn]
      rfl
    have hnobody : x.counts.nobodyLeft = true ↔ empty := Counts.nobodyLeft_iff x.counts
    have hapart : x.state = .collecting → ¬ (x.state = .writing ∧ x.counts.nobodyLeft = true) :=
      fun h ⟨hw, _⟩ => by rw [h] at hw; cases hw
    refine ⟨fun hw h => State.sittingTests_of_somebody hx hw (fun hn => h (hnobody.mp hn)),
      fun hw h hf => State.sittingTests_of_nobody hx hw (hnobody.mpr h) hf, fun hw h hf => ?_, fun hcoll hf => ?_,
      fun hcoll hf => ?_, fun hw hcoll => ?_⟩
    · rw [State.sittingTests_of_all_gone hx hw (hnobody.mpr h) hf, hbody]
    · rw [State.sittingTests_of_not_collecting hx (hapart hcoll), State.closedTest_of_stays hx (fun ⟨_, h⟩ => hf h)]
    · rw [State.sittingTests_of_not_collecting hx (hapart hcoll), State.closedTest_of_ends hx hcoll hf, hbody]
    · rw [State.sittingTests_of_not_collecting hx (fun ⟨h, _⟩ => hw h),
        State.closedTest_of_stays hx (fun ⟨h, _⟩ => hcoll h)]
  · intro named bit
    rw [State.offerCustodyClose_of_cand hc, State.custodyCloseBody, flagsValue_five]
    rfl

end Sys2Proof.Machine
end

section
/-! SUPPORT. What an event can do to the tables: the moves.  A move changes the seat map, one sitting, one
candidate's record with the counts of its sitting and the seats it leaves and takes, or adds a record; it says
of the records what the invariants rest on.  Every event is a run of moves, so that each invariant is a case
split over the moves alone. -/

namespace Sys2Proof.Machine

/-! ## The tables of a state -/

/-- The tables of the hall record, and how many blocks each plane of the archive has. -/
structure Tables where
  seats : List Seat
  sittings : List Sitting
  cands : List Cand
  blocks : PlaneId → Nat

def State.tables (s : State) : Tables :=
  ⟨s.hall.seats, s.hall.sittings, s.hall.cands, fun p => (s.arch.plane p).blocks.length⟩

/-! ## What a move says of a record -/

/-- A seat record after a move: the same seat, its counts and its keypad buffer within their bounds if they were. -/
structure SeatStep (x y : Seat) : Prop where
  seat : y.seat = x.seat
  quiet : x.quiet ≤ 8 → y.quiet ≤ 8
  miss : x.miss ≤ 3 → y.miss ≤ 3
  keys : x.keys.length ≤ 9 → y.keys.length ≤ 9

/-- The states of a sitting before its start of writing. -/
def SittingState.early (st : SittingState) : Prop := st = .defined ∨ st = .opened ∨ st = .reading

/-- A sitting record after a move: its cues and S_el within their bounds if they were, B not 0 if it was not; it
leaves WRITING only with nobody left (R78), and is before its start of writing only if it was. -/
structure SittingStep (x y : Sitting) : Prop where
  cues : x.elapsedCues.length + x.remainingCues.length ≤ 8 → y.elapsedCues.length + y.remainingCues.length ≤ 8
  sel : x.sel ≤ 57600 → y.sel ≤ 57600
  base : 0 < x.base → 0 < y.base
  phase : x.state = .writing → y.state = .writing ∨ x.counts.nobodyLeft = true
  early : y.state.early → x.state.early

/-- The bounds of one candidate's clocks (R59, R60, R66, R70, R73). -/
structure Cand.ClockOk (c : Cand) : Prop where
  consumed : c.consumed ≤ c.entitled
  rest : c.restUsed ≤ c.restBudget
  writing : c.state = .writing ∨ c.state = .resting → c.consumed < c.entitled
  resting : c.state = .resting → c.restUsed < c.restBudget
  fresh : c.state = .expected ∨ c.state = .admitted → c.consumed = 0
  entitled : 0 < c.entitled

/-- A candidate is at its paper, or its sitting is in WRITING. -/
def State.Active (s : State) (c : Cand) : Prop :=
  (c.state = .writing ∨ c.state = .resting) ∨ ∃ x ∈ s.hall.sittings, x.number = c.sitting ∧ x.state = .writing

/-- A candidate's record after a move: the same number and sitting; at its paper, or with writing time consumed
for the first time, only where it or its sitting was in WRITING; its clocks within their bounds if they were. -/
structure CandStep (s : State) (c d : Cand) : Prop where
  number : d.number = c.number
  sitting : d.sitting = c.sitting
  phase : d.state = .writing ∨ d.state = .resting → s.Active c
  begun : d.consumed ≠ 0 → c.consumed ≠ 0 ∨ s.Active c
  clock : (∀ x ∈ s.hall.sittings, 0 < x.base) → (∃ x ∈ s.hall.sittings, x.number = c.sitting) → c.ClockOk →
    d.ClockOk

/-- A candidate state that has no seat (R68, R96, R109). -/
def CandState.gone (st : CandState) : Prop := st = .absent ∨ st = .collected ∨ st = .withdrawn

/-- The occupant of a seat after a candidate's seat has changed from one that may be none to another. -/
def reseated (i : Nat) (old new : Option Nat) (x : Seat) : Option Nat :=
  if new = old then x.occupant
  else if new = some x.seat then some i
  else if old = some x.seat then none
  else x.occupant

/-- The seats after a move of candidate `i` from record `c` to record `d`: both sides of the occupancy go with
the record, a seat taken had no occupant, and a candidate that is gone has no seat. -/
structure Reseats (s : State) (i : Nat) (c d : Cand) (f : Seat → Seat) : Prop where
  gone : d.state.gone → d.seat = none
  occupant : ∀ x ∈ s.hall.seats, (f x).occupant = reseated i c.seat d.seat x
  free : d.seat ≠ c.seat → ∀ n, d.seat = some n → ∃ x ∈ s.hall.seats, x.seat = n ∧ x.occupant = none

/-- The counts of a sitting after a candidate has gone from one state to another (R19). -/
def Counts.move (k : Counts) (old new : CandState) : Counts := if new = old then k else (k.dec old).inc new

/-- A sitting's record with the counts moved. -/
def Sitting.moveCount (n : Nat) (old new : CandState) (x : Sitting) : Sitting :=
  if x.number = n then { x with counts := x.counts.move old new } else x

/-- One move. -/
inductive Move (s t : State) : Prop where
  /-- nothing of the tables changes -/
  | same (tables : t.tables = s.tables)
  /-- seat records change, their occupants do not -/
  | seats (f : Seat → Seat) (step : ∀ x, SeatStep x (f x)) (occupant : ∀ x, (f x).occupant = x.occupant)
      (tables : t.tables = { s.tables with seats := s.hall.seats.map f })
  /-- the record of a sitting number changes -/
  | sitting (n : Nat) (f : Sitting → Sitting)
      (keys : ∀ x, (f x).number = x.number ∧ (f x).enrolled = x.enrolled ∧ (f x).counts = x.counts)
      (step : s.TablesOrdered → ∀ x ∈ s.hall.sittings, x.number = n → SittingStep x (f x))
      (tables : t.tables =
        { s.tables with sittings := s.hall.sittings.map (fun x => if x.number = n then f x else x) })
  /-- a candidate's record changes, with the counts of its sitting and the seats it leaves and takes -/
  | cand (i : Nat) (c d : Cand) (f : Seat → Seat) (found : s.cand? i = some c) (step : CandStep s c d)
      (seat : ∀ x, SeatStep x (f x)) (reseats : s.TablesOrdered → s.OccupancyAgrees → Reseats s i c d f)
      (tables : t.tables =
        { s.tables with seats := s.hall.seats.map f
                        sittings := s.hall.sittings.map (Sitting.moveCount c.sitting c.state d.state)
                        cands := s.hall.cands.set i d })
  /-- a seat record is added -/
  | addSeat (x : Seat) (fresh : s.seat? x.seat = none) (empty : x.occupant = none)
      (bounds : x.quiet = 0 ∧ x.miss = 0 ∧ x.keys = [])
      (tables : t.tables = { s.tables with seats := insertSeat x s.hall.seats })
  /-- a sitting record is added -/
  | addSitting (x : Sitting) (fresh : s.sitting? x.number = none) (counts : x.counts = {} ∧ x.enrolled = 0)
      (bounds : x.elapsedCues = [] ∧ x.remainingCues = [] ∧ x.sel = 0 ∧ 0 < x.base)
      (tables : t.tables = { s.tables with sittings := insertSitting x s.hall.sittings })
  /-- a candidate record is added -/
  | addCand (c : Cand) (fresh : ∀ d ∈ s.hall.cands, d.number ≠ c.number)
      (sitting : ∃ x ∈ s.hall.sittings, x.number = c.sitting) (state : c.state = .expected) (seat : c.seat = none)
      (clock : (∀ x ∈ s.hall.sittings, 0 < x.base) → 0 < c.entitled) (unused : c.consumed = 0 ∧ c.restUsed = 0)
      (tables : t.tables =
        { s.tables with
          sittings := s.hall.sittings.map (fun x => if x.number = c.sitting then
            { x with enrolled := x.enrolled + 1, counts := x.counts.inc .expected } else x)
          cands := s.hall.cands ++ [c] })
  /-- the entitlements of a sitting in DEFINED are computed afresh -/
  | recompute (n base : Nat) (pos : 0 < base)
      (state : s.TablesOrdered → ∀ x ∈ s.hall.sittings, x.number = n → x.state = .defined)
      (tables : t.tables = { s.tables with cands := s.hall.cands.map (fun c =>
        if c.sitting = n then { c with entitled := entitlement base c.allowance } else c) })
  /-- a reset: the tables are empty -/
  | clear (tables : t.tables = ⟨[], [], [], t.tables.blocks⟩)
      (blocks : t.tables.blocks = s.tables.blocks ∨ t.tables.blocks = fun _ => 128)

/-- A run of moves. -/
abbrev Moves (s t : State) : Prop := Relation.ReflTransGen Move s t

theorem Move.moves {s t : State} (h : Move s t) : Moves s t := .single h

theorem Moves.ofTables {s t : State} (h : t.tables = s.tables) : Moves s t := (Move.same h).moves

theorem Moves.foldl {α : Type} {f : State → α → State} (hf : ∀ s a, Moves s (f s a)) (l : List α) :
    ∀ s, Moves s (l.foldl f s) := by
  induction l with
  | nil => exact fun _ => .refl
  | cons a l ih => exact fun s => (hf s a).trans (ih (f s a))

/-- What every move keeps, every run of moves keeps. -/
theorem Moves.keep {P : State → Prop} (hP : ∀ s t, Move s t → P s → P t) {s t : State} (h : Moves s t) (hs : P s) :
    P t := by
  induction h with
  | refl => exact hs
  | tail _ hmove ih => exact hP _ _ hmove ih

/-! ## Records unchanged -/

theorem SeatStep.refl (x : Seat) : SeatStep x x := ⟨rfl, id, id, id⟩

theorem SeatStep.ite {x y : Seat} {q : Prop} [Decidable q] (h : SeatStep x y) : SeatStep x (if q then y else x) := by
  split
  · exact h
  · exact SeatStep.refl x

theorem SittingStep.refl (x : Sitting) : SittingStep x x := ⟨id, id, id, .inl, id⟩

/-- A change of a sitting's other fields. -/
theorem SittingStep.same {x y : Sitting} (hstate : y.state = x.state) (hsel : y.sel = x.sel) (hbase : y.base = x.base)
    (hcues : y.elapsedCues = x.elapsedCues ∧ y.remainingCues = x.remainingCues) : SittingStep x y := by
  obtain ⟨he, hr⟩ := hcues
  exact ⟨by rw [he, hr]; exact id, by rw [hsel]; exact id, by rw [hbase]; exact id,
    fun h => .inl (hstate.trans h), by rw [hstate]; exact id⟩

/-- A change of a candidate's other fields. -/
theorem CandStep.same {s : State} {c d : Cand} (hnumber : d.number = c.number) (hsitting : d.sitting = c.sitting)
    (hstate : d.state = c.state) (hconsumed : d.consumed = c.consumed ∧ d.entitled = c.entitled)
    (hrest : d.restUsed = c.restUsed ∧ d.restBudget = c.restBudget) : CandStep s c d := by
  obtain ⟨hu, he⟩ := hconsumed
  obtain ⟨hr, hb⟩ := hrest
  refine ⟨hnumber, hsitting, fun h => .inl (hstate ▸ h), fun h => .inl (hu ▸ h), fun _ _ ok => ?_⟩
  exact ⟨by rw [hu, he]; exact ok.consumed, by rw [hr, hb]; exact ok.rest, by rw [hstate, hu, he]; exact ok.writing,
    by rw [hstate, hr, hb]; exact ok.resting, by rw [hstate, hu]; exact ok.fresh, by rw [he]; exact ok.entitled⟩

theorem Counts.move_self (k : Counts) (st : CandState) : k.move st st = k := if_pos rfl

theorem Sitting.moveCount_self (n : Nat) (st : CandState) : Sitting.moveCount n st st = id := by
  funext x
  simp [Sitting.moveCount, Counts.move_self]

/-- A move that leaves a candidate its seat leaves every occupant. -/
theorem Reseats.stay {s : State} {i : Nat} {c d : Cand} (hc : s.cand? i = some c) (hocc : s.OccupancyAgrees)
    {f : Seat → Seat} (hf : ∀ x, (f x).occupant = x.occupant) (hseat : d.seat = c.seat)
    (hgone : d.state.gone → c.state.gone) : Reseats s i c d f where
  gone h := hseat.trans (hocc.gone c (List.mem_of_getElem? hc) (hgone h))
  occupant x _ := by rw [hf, reseated, if_pos hseat]
  free h := absurd hseat h

/-- A move that takes a candidate out of its seat. -/
theorem Reseats.leave {s : State} {i : Nat} {c d : Cand} {f : Seat → Seat} (hseat : d.seat = none)
    (hf : ∀ x, (f x).occupant = if c.seat = some x.seat then none else x.occupant) : Reseats s i c d f where
  gone _ := hseat
  occupant x _ := by
    rw [hf, reseated, hseat]
    cases c.seat <;> simp
  free _ n h := by rw [hseat] at h; cases h

/-! ## The tables after each update -/

section TablesAfter
variable (s : State)

@[simp] theorem State.mapSeat_tables (n : Nat) (f : Seat → Seat) :
    (s.mapSeat n f).tables = { s.tables with seats := s.hall.seats.map (fun x => if x.seat = n then f x else x) } := rfl

@[simp] theorem State.mapSitting_tables (n : Nat) (f : Sitting → Sitting) :
    (s.mapSitting n f).tables =
      { s.tables with sittings := s.hall.sittings.map (fun x => if x.number = n then f x else x) } := rfl

theorem State.mapCand_tables {i : Nat} {c : Cand} (hc : s.cand? i = some c) (f : Cand → Cand) :
    (s.mapCand i f).tables = { s.tables with cands := s.hall.cands.set i (f c) } := by
  rw [← List.modify_eq_set_of_getElem? hc]
  rfl

@[simp] theorem State.mapPort_tables (p : Port) (f : PortState → PortState) : (s.mapPort p f).tables = s.tables := rfl

@[simp] theorem State.notify_tables (p : Port) (n : Notice) : (s.notify p n).tables = s.tables := rfl

/-- What every step of a fold leaves, the fold leaves. -/
theorem tables_foldl {α : Type} {f : State → α → State} (hf : ∀ s a, (f s a).tables = s.tables) (l : List α) :
    ∀ s, (l.foldl f s).tables = s.tables := by
  induction l with
  | nil => exact fun _ => rfl
  | cons a l ih => exact fun s => (ih (f s a)).trans (hf s a)

@[simp] theorem State.notifyWhere_tables (q : Desk → Bool) (n : Notice) : (s.notifyWhere q n).tables = s.tables :=
  tables_foldl (fun s d => by split <;> rfl) _ s

@[simp] theorem State.notifyZone_tables (z : Nat) (n : Notice) : (s.notifyZone z n).tables = s.tables :=
  State.notifyWhere_tables ..

@[simp] theorem State.notifyDesks_tables (n : Notice) : (s.notifyDesks n).tables = s.tables :=
  State.notifyWhere_tables ..

/-- The plane pipelines leave every block table. -/
theorem Archive.setPlane_blocks (a : Archive) (p q : PlaneId) {v : Plane} (h : v.blocks = (a.plane p).blocks) :
    ((a.setPlane p v).plane q).blocks = (a.plane q).blocks := by
  by_cases hq : q = p
  · subst hq; rw [Archive.plane_setPlane, h]
  · rw [Archive.plane_setPlane_of_ne _ _ hq]

theorem Archive.fillStaging_blocks (a : Archive) (p q : PlaneId) :
    ((a.fillStaging p).plane q).blocks = (a.plane q).blocks := by
  unfold Archive.fillStaging
  split
  · rfl
  · exact Archive.setPlane_blocks a p q rfl

theorem Archive.pump_blocks (a : Archive) (p q : PlaneId) : ((a.pump p).plane q).blocks = (a.plane q).blocks := by
  have hprogram : ∀ a : Archive, ((a.fillProgram p).plane q).blocks = (a.plane q).blocks := by
    intro a
    unfold Archive.fillProgram
    split
    · rw [Archive.fillStaging_blocks]; exact Archive.setPlane_blocks a p q rfl
    · rfl
  have hstart : ∀ a : Archive, ((a.startProgram p).plane q).blocks = (a.plane q).blocks := by
    intro a
    simp only [Archive.startProgram]
    split
    · exact Archive.setPlane_blocks a p q rfl
    · rfl
  rw [Archive.pump, hstart, hprogram, Archive.fillStaging_blocks]

/-- A change of the archive that leaves the block tables leaves the tables. -/
theorem State.arch_tables (a : Archive) (h : ∀ q, (a.plane q).blocks = (s.arch.plane q).blocks) :
    ({ s with arch := a } : State).tables = s.tables := by
  simp only [State.tables, h]

@[simp] theorem State.stallAlertAt_tables (p : PlaneId) (now : Nat) : (s.stallAlertAt p now).tables = s.tables := by
  have hmark := s.arch_tables (s.arch.setPlane p { s.arch.plane p with stallAlertDue := false })
    (fun q => Archive.setPlane_blocks _ p q rfl)
  simp only [State.stallAlertAt]
  repeat' split
  · exact hmark
  · exact hmark
  · rfl

theorem State.enqueue_tables (kind : RecordKind) (body : List Field) (now : Nat) :
    (s.enqueue kind body now).tables = s.tables := by
  simp only [State.enqueue, State.stallAlertAt_tables]
  exact s.arch_tables _ (fun q => (Archive.pump_blocks _ _ q).trans (by cases q <;> rfl))

@[simp] theorem State.offer_tables (kind : RecordKind) (body : List Field) (now : Nat) :
    (s.offer kind body now).tables = s.tables := by
  unfold State.offer
  split
  · exact State.enqueue_tables ..
  · exact s.arch_tables _ (fun q => by cases q <;> rfl)

@[simp] theorem State.offerCustodyClose_tables (i : Nat) (a : Bool) : (s.offerCustodyClose i a).tables = s.tables := by
  unfold State.offerCustodyClose
  split
  · rfl
  · exact State.offer_tables ..

@[simp] theorem State.queueFrame_tables (f : LineFrame) : (s.queueFrame f).tables = s.tables := by
  unfold State.queueFrame
  split <;> rfl

@[simp] theorem State.joinSecond_tables (i n : Nat) : (s.joinSecond i n).tables = s.tables := by
  unfold State.joinSecond
  split <;> rfl

@[simp] theorem State.notifyCollect_tables (i : Nat) : (s.notifyCollect i).tables = s.tables := by
  unfold State.notifyCollect
  repeat' split
  · rfl
  · rfl
  · exact State.notifyZone_tables ..

@[simp] theorem State.notifyWrongSeat_tables (n number : Nat) (r : Option Nat) :
    (s.notifyWrongSeat n number r).tables = s.tables := by
  unfold State.notifyWrongSeat
  split
  · rfl
  · exact State.notifyZone_tables ..

theorem Sitting.moveCount_of_ne {old new : CandState} (h : new ≠ old) (n : Nat) :
    Sitting.moveCount n old new =
      fun x => if x.number = n then { x with counts := (x.counts.dec old).inc new } else x := by
  funext x
  simp only [Sitting.moveCount, Counts.move, if_neg h]

/-- A candidate's state changed to another, with the counts. -/
theorem State.setCandState_tables {i : Nat} {c : Cand} (hc : s.cand? i = some c) {st : CandState} (h : st ≠ c.state) :
    (s.setCandState i st).tables =
      { s.tables with sittings := s.hall.sittings.map (Sitting.moveCount c.sitting c.state st)
                      cands := s.hall.cands.set i { c with state := st } } := by
  unfold State.setCandState
  rw [hc, Sitting.moveCount_of_ne h]
  dsimp only
  rw [State.mapSitting_tables, State.mapCand_tables s hc]
  rfl

end TablesAfter

/-! ## Seat records changed -/

section SeatMoves
variable (s : State)

/-- A display write and any other change of one seat that leaves its occupant. -/
theorem State.mapSeat_moves (n : Nat) {f : Seat → Seat} (hf : ∀ x, SeatStep x (f x))
    (hocc : ∀ x, (f x).occupant = x.occupant) : Moves s (s.mapSeat n f) :=
  (Move.seats _ (fun x => (hf x).ite) (fun x => by split <;> simp [hocc]) rfl).moves

/-- A change of seat displays alone. -/
def DisplayOnly (f : Seat → Seat) : Prop := (∀ x, SeatStep x (f x)) ∧ ∀ x, (f x).occupant = x.occupant

theorem State.writeDisplay_tables (n : Nat) (g : Display → Display) :
    ∃ f, DisplayOnly f ∧ (s.writeDisplay n g).tables = { s.tables with seats := s.hall.seats.map f } :=
  ⟨fun x => if x.seat = n then { x with display := g x.display, owed := true } else x,
    ⟨fun x => SeatStep.ite ⟨rfl, id, id, id⟩, fun x => by dsimp only; split <;> rfl⟩, rfl⟩

/-- The Clock Unit's write changes a seat's display alone (R69). -/
theorem State.showCand_tables (i : Nat) (code : Option DispCode) :
    ∃ f, DisplayOnly f ∧ (s.showCand i code).tables = { s.tables with seats := s.hall.seats.map f } := by
  have hnone : ∃ f, DisplayOnly f ∧ s.tables = { s.tables with seats := s.hall.seats.map f } :=
    ⟨id, ⟨SeatStep.refl, fun _ => rfl⟩, by rw [List.map_id]; rfl⟩
  unfold State.showCand State.showAt
  repeat' split
  · exact hnone
  · exact State.writeDisplay_tables ..
  · exact State.writeDisplay_tables ..
  · exact hnone

theorem Moves.ofDisplay {s t : State}
    (h : ∃ f, DisplayOnly f ∧ t.tables = { s.tables with seats := s.hall.seats.map f }) : Moves s t := by
  obtain ⟨f, ⟨hstep, hocc⟩, htables⟩ := h
  exact (Move.seats f hstep hocc htables).moves

theorem State.writeDisplay_moves (n : Nat) (g : Display → Display) : Moves s (s.writeDisplay n g) :=
  Moves.ofDisplay (s.writeDisplay_tables n g)

theorem State.writeCode_moves (n : Nat) (c : DispCode) (a : Nat) : Moves s (s.writeCode n c a) :=
  s.writeDisplay_moves ..

theorem State.showCand_moves (i : Nat) (code : Option DispCode) : Moves s (s.showCand i code) :=
  Moves.ofDisplay (s.showCand_tables i code)

theorem State.showAt_moves (n i : Nat) (code : Option DispCode) : Moves s (s.showAt n i code) := by
  unfold State.showAt
  split
  · exact s.writeDisplay_moves ..
  · exact s.writeCode_moves ..
  · exact .refl

theorem State.lampOff_moves (o : Option Nat) : Moves s (s.lampOff o) := by
  unfold State.lampOff
  split
  · exact .refl
  · exact s.writeDisplay_moves ..

end SeatMoves

/-! ## Sitting records changed -/

section SittingMoves
variable (s : State)

/-- The record found for a sitting number is the only one of that number. -/
theorem State.TablesOrdered.sitting_unique {s : State} (h : s.TablesOrdered) {x y : Sitting}
    (hx : x ∈ s.hall.sittings) (hy : y ∈ s.hall.sittings) (hn : x.number = y.number) : x = y := by
  have hnodup : (s.hall.sittings.map (·.number)).Nodup :=
    List.pairwise_map.mpr (h.sittings.imp (fun hlt => Nat.ne_of_lt hlt))
  exact List.inj_on_of_nodup_map hnodup hx hy hn

theorem State.mem_of_sitting? {s : State} {n : Nat} {x : Sitting} (h : s.sitting? n = some x) :
    x ∈ s.hall.sittings ∧ x.number = n :=
  ⟨List.mem_of_find?_eq_some h, by simpa using List.find?_some h⟩

theorem State.TablesOrdered.eq_sitting {s : State} (h : s.TablesOrdered) {n : Nat} {x y : Sitting}
    (hx : s.sitting? n = some x) (hy : y ∈ s.hall.sittings) (hn : y.number = n) : y = x :=
  have ⟨hmem, hnum⟩ := State.mem_of_sitting? hx
  h.sitting_unique hy hmem (hn.trans hnum.symm)

/-- A change of one sitting's record that leaves its number and its counts. -/
theorem State.mapSitting_moves (n : Nat) {f : Sitting → Sitting}
    (hkeys : ∀ x, (f x).number = x.number ∧ (f x).enrolled = x.enrolled ∧ (f x).counts = x.counts)
    (hstep : s.TablesOrdered → ∀ x ∈ s.hall.sittings, x.number = n → SittingStep x (f x)) :
    Moves s (s.mapSitting n f) := (Move.sitting n f hkeys hstep rfl).moves

/-- The same, where what is said of the record is said of the one found. -/
theorem State.mapSitting_moves_of_found {n : Nat} {x : Sitting} (hx : s.sitting? n = some x) {f : Sitting → Sitting}
    (hkeys : ∀ x, (f x).number = x.number ∧ (f x).enrolled = x.enrolled ∧ (f x).counts = x.counts)
    (hstep : SittingStep x (f x)) : Moves s (s.mapSitting n f) :=
  s.mapSitting_moves n hkeys (fun hord y hy hn => by rw [hord.eq_sitting hx hy hn]; exact hstep)

/-- A change of one sitting's other fields. -/
theorem State.mapSitting_moves_of_same (n : Nat) {f : Sitting → Sitting}
    (hkeys : ∀ x, (f x).number = x.number ∧ (f x).enrolled = x.enrolled ∧ (f x).counts = x.counts)
    (hsame : ∀ x, SittingStep x (f x)) : Moves s (s.mapSitting n f) :=
  s.mapSitting_moves n hkeys (fun _ x _ _ => hsame x)

theorem State.closedTest_moves (n : Nat) : Moves s (s.closedTest n) := by
  unfold State.closedTest
  split
  · exact .refl
  · next x hx =>
    split
    · next h =>
      have hclosed : Moves s (s.mapSitting n (fun y => { y with state := .closed })) :=
        s.mapSitting_moves_of_found hx (fun _ => ⟨rfl, rfl, rfl⟩)
          ⟨id, id, id, fun hw => absurd (h.1.symm.trans hw) (by simp), fun he => by simp [SittingState.early] at he⟩
      exact hclosed.trans (Moves.ofTables (State.offer_tables ..))
    · exact .refl

theorem State.sittingTests_moves (n : Nat) : Moves s (s.sittingTests n) := by
  unfold State.sittingTests
  split
  · exact .refl
  · next x hx =>
    split
    · next h =>
      have hcollecting : Moves s (s.mapSitting n (fun y => { y with state := .collecting, admission := false })) :=
        s.mapSitting_moves_of_found hx (fun _ => ⟨rfl, rfl, rfl⟩)
          ⟨id, id, id, fun _ => .inr h.2, fun he => by simp [SittingState.early] at he⟩
      exact hcollecting.trans (State.closedTest_moves ..)
    · exact State.closedTest_moves ..

end SittingMoves

/-! ## Candidate records changed -/

section CandMoves
variable {s : State} {i : Nat} {c : Cand}

theorem State.cand?_of_mapCand_eq {j : Nat} {d : Cand} {f : Cand → Cand} (h : (s.mapCand i f).cand? j = some d) :
    ∃ e, s.cand? j = some e := by
  rw [State.mapCand_cand?] at h
  split at h
  · exact ⟨_, (Option.map_eq_some_iff.mp h).choose_spec.1⟩
  · exact ⟨d, h⟩

/-- A candidate's record changed, its state and seat as they were; with no such record nothing changes. -/
theorem State.mapCand_moves (s : State) (i : Nat) (f : Cand → Cand)
    (hstep : ∀ c, s.cand? i = some c → CandStep s c (f c)) (hstate : ∀ c, (f c).state = c.state)
    (hseat : ∀ c, (f c).seat = c.seat) : Moves s (s.mapCand i f) := by
  cases hc : s.cand? i with
  | none =>
    refine Moves.ofTables ?_
    have hlen : s.hall.cands.length ≤ i := List.getElem?_eq_none_iff.mp hc
    simp only [State.tables, State.mapCand_hall_seats, State.mapCand_hall_sittings, State.mapCand_arch,
      State.mapCand_hall_cands, List.modify_eq_self hlen]
  | some c =>
    refine (Move.cand i c (f c) id hc (hstep c hc) SeatStep.refl
      (fun _ hocc => Reseats.stay hc hocc (fun _ => rfl) (hseat c) (by rw [hstate]; exact id)) ?_).moves
    rw [State.mapCand_tables s hc, hstate, Sitting.moveCount_self, List.map_id, List.map_id]
    rfl

/-- A change of a candidate's other fields. -/
theorem State.mapCand_moves_of_same (s : State) (i : Nat) (f : Cand → Cand)
    (hsame : ∀ c, (f c).number = c.number ∧ (f c).sitting = c.sitting ∧ (f c).state = c.state
      ∧ (f c).consumed = c.consumed ∧ (f c).entitled = c.entitled ∧ (f c).restUsed = c.restUsed
      ∧ (f c).restBudget = c.restBudget ∧ (f c).seat = c.seat) : Moves s (s.mapCand i f) :=
  s.mapCand_moves i f
    (fun c _ => have ⟨hn, hs, hst, hu, he, hr, hb, _⟩ := hsame c; CandStep.same hn hs hst ⟨hu, he⟩ ⟨hr, hb⟩)
    (fun c => have ⟨_, _, hst, _⟩ := hsame c; hst) (fun c => have ⟨_, _, _, _, _, _, _, hseat⟩ := hsame c; hseat)

/-- A candidate's record and state changed, its seat as it was. -/
theorem Moves.ofCand {s t : State} {i : Nat} {c d : Cand} {f : Seat → Seat} (hc : s.cand? i = some c) (hstep : CandStep s c d)
    (hf : DisplayOnly f) (hseat : d.seat = c.seat) (hgone : d.state.gone → c.state.gone)
    (htables : t.tables = { s.tables with seats := s.hall.seats.map f
                                          sittings := s.hall.sittings.map (Sitting.moveCount c.sitting c.state d.state)
                                          cands := s.hall.cands.set i d }) : Moves s t :=
  (Move.cand i c d f hc hstep hf.1 (fun _ hocc => Reseats.stay hc hocc hf.2 hseat hgone) htables).moves

theorem DisplayOnly.id : DisplayOnly id := ⟨SeatStep.refl, fun _ => rfl⟩

/-- A candidate's state changed and then its record: one move. -/
theorem State.setCandState_mapCand_moves {st : CandState} (hc : s.cand? i = some c) (hst : st ≠ c.state) (g : Cand → Cand)
    (hstep : CandStep s c (g { c with state := st })) (hstate : (g { c with state := st }).state = st)
    (hseat : (g { c with state := st }).seat = c.seat) (hgone : st.gone → c.state.gone) :
    Moves s ((s.setCandState i st).mapCand i g) := by
  refine Moves.ofCand hc hstep DisplayOnly.id hseat (by rw [hstate]; exact hgone) ?_
  have hd : (s.setCandState i st).cand? i = some { c with state := st } := by
    rw [State.setCandState, hc]
    simp [hc]
  have htables := State.setCandState_tables s hc hst
  have hcands : (s.setCandState i st).hall.cands = s.hall.cands.set i { c with state := st } :=
    congrArg Tables.cands htables
  rw [State.mapCand_tables _ hd, htables, hcands, List.set_set, hstate, List.map_id]
  rfl

end CandMoves

end Sys2Proof.Machine
end

section
/-! SUPPORT. What every move keeps: the counts (R19), the tables' order, the phases (R66, R78), the occupancy
(R30), and the bounds of the records and of the clocks (R55, R56, R59, R61, R67, R145). -/

namespace Sys2Proof.Machine

/-! ## The tables read -/

section Read
variable {t : State} {T : Tables}

theorem State.seats_of_tables (h : t.tables = T) : t.hall.seats = T.seats := congrArg Tables.seats h
theorem State.sittings_of_tables (h : t.tables = T) : t.hall.sittings = T.sittings := congrArg Tables.sittings h
theorem State.cands_of_tables (h : t.tables = T) : t.hall.cands = T.cands := congrArg Tables.cands h
theorem State.blocks_of_tables (h : t.tables = T) (p : PlaneId) : (t.arch.plane p).blocks.length = T.blocks p :=
  congrFun (congrArg Tables.blocks h) p

end Read

/-! ## Counts moved -/

theorem Counts.get_inc (k : Counts) (a st : CandState) : (k.inc a).get st = k.get st + if a = st then 1 else 0 := by
  cases a <;> cases st <;> rfl

theorem Counts.get_dec (k : Counts) (a st : CandState) : (k.dec a).get st = k.get st - if a = st then 1 else 0 := by
  cases a <;> cases st <;> rfl

theorem Counts.get_move (k : Counts) {old : CandState} (h : 0 < k.get old) (new st : CandState) :
    (k.move old new).get st = k.get st - (if old = st then 1 else 0) + if new = st then 1 else 0 := by
  unfold Counts.move
  split
  · next he =>
    subst he
    by_cases hst : new = st
    · subst hst; simp only [if_true]; omega
    · simp only [if_neg hst]; omega
  · rw [Counts.get_inc, Counts.get_dec]

theorem Counts.get_empty (st : CandState) : ({} : Counts).get st = 0 := by cases st <;> rfl

theorem Counts.nobodyLeft_get {k : Counts} (h : k.nobodyLeft = true) {st : CandState}
    (hst : st = .writing ∨ st = .resting) : k.get st = 0 := by
  obtain ⟨-, -, hw, hr⟩ := (Counts.nobodyLeft_iff k).mp h
  obtain rfl | rfl := hst
  · exact hw
  · exact hr

/-! ## Records inserted and replaced -/

section Insert
variable {α : Type} (key : α → Nat)

theorem insertSeat_eq (x : Seat) (l : List Seat) :
    insertSeat x l = l.orderedInsert (fun a b => a.seat < b.seat) x := by
  induction l with
  | nil => rfl
  | cons y ys ih => simp only [insertSeat, List.orderedInsert, ih]

theorem insertSitting_eq (x : Sitting) (l : List Sitting) :
    insertSitting x l = l.orderedInsert (fun a b => a.number < b.number) x := by
  induction l with
  | nil => rfl
  | cons y ys ih => simp only [insertSitting, List.orderedInsert, ih]

/-- A record put in its place keeps ascending keys, where no other has its key. -/
theorem pairwise_orderedInsert (x : α) {l : List α} (hl : l.Pairwise (fun a b => key a < key b)) (hx : ∀ y ∈ l, key y ≠ key x) :
    (l.orderedInsert (fun a b => key a < key b) x).Pairwise (fun a b => key a < key b) := by
  induction l with
  | nil => exact List.pairwise_singleton _ _
  | cons y ys ih =>
    obtain ⟨hy, hys⟩ := List.pairwise_cons.mp hl
    rw [List.orderedInsert]
    split
    · next hlt =>
      refine List.pairwise_cons.mpr ⟨fun z hz => ?_, hl⟩
      obtain rfl | hz := List.mem_cons.mp hz
      · exact hlt
      · exact hlt.trans (hy z hz)
    · next hge =>
      have hne := hx y List.mem_cons_self
      refine List.pairwise_cons.mpr ⟨fun z hz => ?_, ih hys (fun z hz => hx z (List.mem_cons_of_mem _ hz))⟩
      obtain rfl | hz := List.mem_orderedInsert _ |>.mp hz
      · omega
      · exact hy z hz

end Insert

theorem mem_insertSeat {x y : Seat} {l : List Seat} : y ∈ insertSeat x l ↔ y = x ∨ y ∈ l := by
  rw [insertSeat_eq, List.mem_orderedInsert]

theorem mem_insertSitting {x y : Sitting} {l : List Sitting} : y ∈ insertSitting x l ↔ y = x ∨ y ∈ l := by
  rw [insertSitting_eq, List.mem_orderedInsert]

section Records
variable {s : State}

theorem State.ne_of_seat?_none {n : Nat} (h : s.seat? n = none) : ∀ y ∈ s.hall.seats, y.seat ≠ n := by
  intro y hy
  simpa using List.find?_eq_none.mp h y hy

theorem State.ne_of_sitting?_none {n : Nat} (h : s.sitting? n = none) : ∀ y ∈ s.hall.sittings, y.number ≠ n := by
  intro y hy
  simpa using List.find?_eq_none.mp h y hy

/-- A candidate record replaced: the new one, or one that was there. -/
theorem mem_cands_set {i : Nat} {d e : Cand} (h : e ∈ s.hall.cands.set i d) : e = d ∨ e ∈ s.hall.cands :=
  (List.mem_or_eq_of_mem_set h).symm

theorem countP_cands_set {i : Nat} {c d : Cand} (hc : s.cand? i = some c) (p : Cand → Bool) :
    (s.hall.cands.set i d).countP p = s.hall.cands.countP p - (if p c then 1 else 0) + if p d then 1 else 0 := by
  obtain ⟨hi, rfl⟩ := List.getElem?_eq_some_iff.mp hc
  rw [List.countP_set hi]

theorem map_cands_set {β : Type} {i : Nat} {c d : Cand} (hc : s.cand? i = some c) (f : Cand → β) (h : f d = f c) :
    (s.hall.cands.set i d).map f = s.hall.cands.map f := by
  obtain ⟨hi, rfl⟩ := List.getElem?_eq_some_iff.mp hc
  have hsame : f s.hall.cands[i] = (s.hall.cands.map f)[i]'(by simpa using hi) := (List.getElem_map f).symm
  rw [List.map_set, h, hsame, List.set_getElem_self]

end Records

theorem Sitting.moveCount_number (n : Nat) (old new : CandState) (x : Sitting) :
    (x.moveCount n old new).number = x.number := by
  unfold Sitting.moveCount
  split <;> rfl

theorem Sitting.moveCount_enrolled (n : Nat) (old new : CandState) (x : Sitting) :
    (x.moveCount n old new).enrolled = x.enrolled := by
  unfold Sitting.moveCount
  split <;> rfl

/-! ## The counts (R19) -/

section Counts
variable {s t : State}

theorem State.CountsAgree.counted (h : s.CountsAgree) {i : Nat} {c : Cand} (hc : s.cand? i = some c) {x : Sitting}
    (hx : x ∈ s.hall.sittings) (hn : x.number = c.sitting) : 0 < x.counts.get c.state := by
  rw [h.counts x hx, State.inState, List.countP_pos_iff]
  exact ⟨c, List.mem_of_getElem? hc, by simp [hn]⟩

/-- Sitting records changed, and their numbers and counts not. -/
theorem State.CountsAgree.ofSittings (h : s.CountsAgree) {g : Sitting → Sitting}
    (hkeys : ∀ x, (g x).number = x.number ∧ (g x).enrolled = x.enrolled ∧ (g x).counts = x.counts)
    (hsittings : t.hall.sittings = s.hall.sittings.map g) (hcands : t.hall.cands.map (fun c => (c.sitting, c.state)) =
      s.hall.cands.map (fun c => (c.sitting, c.state))) : t.CountsAgree := by
  have hcount : ∀ q : Nat × CandState → Bool, t.hall.cands.countP (fun c => q (c.sitting, c.state)) =
      s.hall.cands.countP (fun c => q (c.sitting, c.state)) := by
    intro q
    have hmap := congrArg (List.countP q) hcands
    rw [List.countP_map, List.countP_map] at hmap
    exact hmap
  constructor
  · rw [hsittings]
    intro y hy
    obtain ⟨x, hx, rfl⟩ := List.mem_map.mp hy
    obtain ⟨hn, he, -⟩ := hkeys x
    rw [he, hn, h.enrolled x hx]
    exact (hcount (fun q => q.1 == x.number)).symm
  · rw [hsittings]
    intro y hy st
    obtain ⟨x, hx, rfl⟩ := List.mem_map.mp hy
    obtain ⟨hn, -, hk⟩ := hkeys x
    rw [hk, hn, h.counts x hx]
    exact (hcount (fun q => q.1 == x.number && decide (q.2 = st))).symm
  · intro c hc
    have hmem : (c.sitting, c.state) ∈ s.hall.cands.map (fun c => (c.sitting, c.state)) :=
      hcands ▸ List.mem_map_of_mem hc
    obtain ⟨d, hd, heq⟩ := List.mem_map.mp hmem
    obtain ⟨x, hx, hn⟩ := h.sitting d hd
    obtain ⟨hnum, -, -⟩ := hkeys x
    refine ⟨g x, hsittings ▸ List.mem_map_of_mem hx, ?_⟩
    rw [hnum, hn]
    exact (Prod.mk.injEq .. ▸ heq).1

theorem State.CountsAgree.ofCand (h : s.CountsAgree) {i : Nat} {c d : Cand} (hc : s.cand? i = some c)
    (hsitting : d.sitting = c.sitting)
    (hsittings : t.hall.sittings = s.hall.sittings.map (Sitting.moveCount c.sitting c.state d.state))
    (hcands : t.hall.cands = s.hall.cands.set i d) : t.CountsAgree := by
  constructor
  · rw [hsittings]
    intro y hy
    obtain ⟨x, hx, rfl⟩ := List.mem_map.mp hy
    rw [Sitting.moveCount_enrolled, Sitting.moveCount_number, h.enrolled x hx, State.enrolledIn, State.enrolledIn, hcands, countP_cands_set hc, hsitting]
    by_cases hn : (c.sitting == x.number) = true
    · have hpos : 0 < s.hall.cands.countP (fun c => c.sitting == x.number) :=
        List.countP_pos_iff.mpr ⟨c, List.mem_of_getElem? hc, hn⟩
      simp only [if_pos hn]
      omega
    · simp only [if_neg hn, Nat.sub_zero, Nat.add_zero]
  · rw [hsittings]
    intro y hy st
    obtain ⟨x, hx, rfl⟩ := List.mem_map.mp hy
    rw [Sitting.moveCount_number, State.inState, hcands, countP_cands_set hc, hsitting]
    by_cases hn : x.number = c.sitting
    · have hcount := h.counts x hx st
      rw [State.inState] at hcount
      rw [Sitting.moveCount, if_pos hn]
      dsimp only
      rw [Counts.get_move _ (h.counted hc hx hn), hcount, hn]
      simp
    · have hne : (c.sitting == x.number) = false := by simpa using Ne.symm hn
      rw [Sitting.moveCount, if_neg hn, h.counts x hx, State.inState, hne]
      simp
  · rw [hsittings, hcands]
    intro e he
    have hold : ∃ x ∈ s.hall.sittings, x.number = e.sitting := by
      obtain rfl | he := mem_cands_set he
      · rw [hsitting]
        exact h.sitting c (List.mem_of_getElem? hc)
      · exact h.sitting e he
    obtain ⟨x, hx, hn⟩ := hold
    exact ⟨_, List.mem_map_of_mem hx, (Sitting.moveCount_number _ _ _ x).trans hn⟩

theorem State.CountsAgree.ofAddSitting (h : s.CountsAgree) {x : Sitting} (hfresh : s.sitting? x.number = none)
    (hcounts : x.counts = {} ∧ x.enrolled = 0) (hsittings : t.hall.sittings = insertSitting x s.hall.sittings)
    (hcands : t.hall.cands = s.hall.cands) : t.CountsAgree := by
  obtain ⟨hzero, henrolled⟩ := hcounts
  have hnobody : ∀ c ∈ s.hall.cands, c.sitting ≠ x.number := by
    intro c hc hn
    obtain ⟨y, hy, hyn⟩ := h.sitting c hc
    exact State.ne_of_sitting?_none hfresh y hy (hyn.trans hn)
  constructor
  · rw [hsittings]
    intro y hy
    rw [State.enrolledIn, hcands]
    obtain rfl | hy := mem_insertSitting.mp hy
    · rw [henrolled, eq_comm, List.countP_eq_zero]
      simpa using hnobody
    · exact h.enrolled y hy
  · rw [hsittings]
    intro y hy st
    rw [State.inState, hcands]
    obtain rfl | hy := mem_insertSitting.mp hy
    · rw [hzero, Counts.get_empty, eq_comm, List.countP_eq_zero]
      intro c hc
      simp [hnobody c hc]
    · exact h.counts y hy st
  · rw [hsittings, hcands]
    intro c hc
    obtain ⟨y, hy, hn⟩ := h.sitting c hc
    exact ⟨y, mem_insertSitting.mpr (.inr hy), hn⟩

theorem State.CountsAgree.ofAddCand (h : s.CountsAgree) {c : Cand} (hsitting : ∃ x ∈ s.hall.sittings, x.number = c.sitting)
    (hstate : c.state = .expected)
    (hsittings : t.hall.sittings = s.hall.sittings.map (fun x => if x.number = c.sitting then
      { x with enrolled := x.enrolled + 1, counts := x.counts.inc .expected } else x))
    (hcands : t.hall.cands = s.hall.cands ++ [c]) : t.CountsAgree := by
  constructor
  · rw [hsittings]
    intro y hy
    obtain ⟨x, hx, rfl⟩ := List.mem_map.mp hy
    have hold := h.enrolled x hx
    rw [State.enrolledIn] at hold ⊢
    rw [hcands, List.countP_append, List.countP_singleton]
    split
    · next hn => simp only [hn, beq_self_eq_true, if_true, hold]
    · next hn => simpa [Ne.symm hn] using hold
  · rw [hsittings]
    intro y hy st
    obtain ⟨x, hx, rfl⟩ := List.mem_map.mp hy
    have hold := h.counts x hx st
    rw [State.inState] at hold ⊢
    rw [hcands, List.countP_append, List.countP_singleton]
    split
    · next hn => simp [hn, Counts.get_inc, hold, hstate]
    · next hn => simpa [Ne.symm hn] using hold
  · rw [hsittings, hcands]
    intro d hd
    have hold : ∃ x ∈ s.hall.sittings, x.number = d.sitting := by
      obtain hd | hd := List.mem_append.mp hd
      · exact h.sitting d hd
      · rw [List.mem_singleton.mp hd]
        exact hsitting
    obtain ⟨x, hx, hn⟩ := hold
    exact ⟨_, List.mem_map_of_mem hx, by split <;> exact hn⟩

theorem State.CountsAgree.ofEmpty (hsittings : t.hall.sittings = []) (hcands : t.hall.cands = []) : t.CountsAgree := by
  constructor <;> simp [hsittings, hcands]

theorem State.CountsAgree.move (h : s.CountsAgree) (hmove : Move s t) : t.CountsAgree := by
  cases hmove with
  | same htables =>
    exact h.ofSittings (g := id) (fun _ => ⟨rfl, rfl, rfl⟩)
      ((State.sittings_of_tables htables).trans (List.map_id _).symm) (by rw [State.cands_of_tables htables]; rfl)
  | seats f _ _ htables =>
    exact h.ofSittings (g := id) (fun _ => ⟨rfl, rfl, rfl⟩)
      ((State.sittings_of_tables htables).trans (List.map_id _).symm) (by rw [State.cands_of_tables htables]; rfl)
  | sitting n f hkeys _ htables =>
    exact h.ofSittings (fun x => by split <;> simp [hkeys]) (State.sittings_of_tables htables)
      (by rw [State.cands_of_tables htables]; rfl)
  | cand i c d f hfound hstep _ _ htables =>
    exact h.ofCand hfound hstep.sitting (State.sittings_of_tables htables) (State.cands_of_tables htables)
  | addSeat x _ _ _ htables =>
    exact h.ofSittings (g := id) (fun _ => ⟨rfl, rfl, rfl⟩)
      ((State.sittings_of_tables htables).trans (List.map_id _).symm) (by rw [State.cands_of_tables htables]; rfl)
  | addSitting x hfresh hcounts _ htables =>
    exact h.ofAddSitting hfresh hcounts (State.sittings_of_tables htables) (State.cands_of_tables htables)
  | addCand c _ hsitting hstate _ _ _ htables =>
    exact h.ofAddCand hsitting hstate (State.sittings_of_tables htables) (State.cands_of_tables htables)
  | recompute n base _ _ htables =>
    refine h.ofSittings (g := id) (fun _ => ⟨rfl, rfl, rfl⟩)
      ((State.sittings_of_tables htables).trans (List.map_id _).symm) ?_
    rw [State.cands_of_tables htables, List.map_map]
    refine List.map_congr_left (fun c _ => ?_)
    by_cases hn : c.sitting = n <;> simp [hn]
  | clear htables _ => exact .ofEmpty (State.sittings_of_tables htables) (State.cands_of_tables htables)

end Counts

end Sys2Proof.Machine
end

section
/-! SUPPORT. What every move keeps, continued: the tables' order, the phases (R66, R78), the occupancy (R30), and
the bounds of the records and of the clocks. -/

namespace Sys2Proof.Machine

/-! ## The tables' order (sections 1.4, 1.6, 1.7, R18) -/

section Ordered
variable {s t : State}

theorem pairwise_map_of_key {α : Type} {r : Nat → Nat → Prop} (key : α → Nat) {l m : List α}
    (h : l.Pairwise (fun x y => r (key x) (key y))) (hkeys : m.map key = l.map key) :
    m.Pairwise (fun x y => r (key x) (key y)) := by
  have hl : (l.map key).Pairwise r := List.pairwise_map.mpr h
  rw [← hkeys] at hl
  exact List.pairwise_map.mp hl

theorem map_map_key {α : Type} {key : α → Nat} {f : α → α} (hf : ∀ x, key (f x) = key x) (l : List α) :
    (l.map f).map key = l.map key := by
  rw [List.map_map]
  exact List.map_congr_left (fun x _ => hf x)

/-- The tables' order goes with the keys of the records. -/
theorem State.TablesOrdered.ofKeys (h : s.TablesOrdered) (hseats : t.hall.seats.map (·.seat) = s.hall.seats.map (·.seat))
    (hsittings : t.hall.sittings.map (·.number) = s.hall.sittings.map (·.number))
    (hcands : t.hall.cands.map (·.number) = s.hall.cands.map (·.number)) : t.TablesOrdered where
  seats := pairwise_map_of_key (r := (· < ·)) Seat.seat h.seats hseats
  sittings := pairwise_map_of_key (r := (· < ·)) Sitting.number h.sittings hsittings
  numbers := pairwise_map_of_key (r := (· ≠ ·)) Cand.number h.numbers hcands

theorem State.TablesOrdered.move (h : s.TablesOrdered) (hmove : Move s t) : t.TablesOrdered := by
  cases hmove with
  | same htables =>
    refine h.ofKeys ?_ ?_ ?_
    · rw [State.seats_of_tables htables]; rfl
    · rw [State.sittings_of_tables htables]; rfl
    · rw [State.cands_of_tables htables]; rfl
  | seats f hstep _ htables =>
    refine h.ofKeys ?_ ?_ ?_
    · rw [State.seats_of_tables htables]; exact map_map_key (fun x => (hstep x).seat) _
    · rw [State.sittings_of_tables htables]; rfl
    · rw [State.cands_of_tables htables]; rfl
  | sitting n f hkeys _ htables =>
    refine h.ofKeys ?_ ?_ ?_
    · rw [State.seats_of_tables htables]; rfl
    · rw [State.sittings_of_tables htables]; exact map_map_key (fun x => by split <;> simp [hkeys]) _
    · rw [State.cands_of_tables htables]; rfl
  | cand i c d f hfound hstep hseat _ htables =>
    refine h.ofKeys ?_ ?_ ?_
    · rw [State.seats_of_tables htables]; exact map_map_key (fun x => (hseat x).seat) _
    · rw [State.sittings_of_tables htables]; exact map_map_key (Sitting.moveCount_number _ _ _) _
    · rw [State.cands_of_tables htables]; exact map_cands_set hfound _ hstep.number
  | addSeat x hfresh _ _ htables =>
    refine ⟨?_, ?_, ?_⟩
    · rw [State.seats_of_tables htables]
      dsimp only
      rw [insertSeat_eq]
      exact pairwise_orderedInsert Seat.seat x h.seats (State.ne_of_seat?_none hfresh)
    · rw [State.sittings_of_tables htables]; exact h.sittings
    · rw [State.cands_of_tables htables]; exact h.numbers
  | addSitting x hfresh _ _ htables =>
    refine ⟨?_, ?_, ?_⟩
    · rw [State.seats_of_tables htables]; exact h.seats
    · rw [State.sittings_of_tables htables]
      dsimp only
      rw [insertSitting_eq]
      exact pairwise_orderedInsert Sitting.number x h.sittings (State.ne_of_sitting?_none hfresh)
    · rw [State.cands_of_tables htables]; exact h.numbers
  | addCand c hfresh _ _ _ _ _ htables =>
    have hsittings : t.hall.sittings.map (·.number) = s.hall.sittings.map (·.number) := by
      rw [State.sittings_of_tables htables]; exact map_map_key (fun x => by split <;> rfl) _
    refine ⟨?_, pairwise_map_of_key (r := (· < ·)) Sitting.number h.sittings hsittings, ?_⟩
    · rw [State.seats_of_tables htables]; exact h.seats
    · rw [State.cands_of_tables htables]
      refine List.pairwise_append.mpr ⟨h.numbers, List.pairwise_singleton _ _, fun d hd e he => ?_⟩
      rw [List.mem_singleton.mp he]
      exact hfresh d hd
  | recompute n base _ _ htables =>
    refine h.ofKeys ?_ ?_ ?_
    · rw [State.seats_of_tables htables]; rfl
    · rw [State.sittings_of_tables htables]; rfl
    · rw [State.cands_of_tables htables]; exact map_map_key (fun x => by split <;> rfl) _
  | clear htables _ =>
    constructor
    · rw [State.seats_of_tables htables]; exact .nil
    · rw [State.sittings_of_tables htables]; exact .nil
    · rw [State.cands_of_tables htables]; exact .nil

end Ordered

/-! ## The phases (R66, R70, R73, R78) -/

section Phases
variable {s t : State}

/-- A candidate at its paper, or of a sitting in WRITING, is of a sitting in WRITING. -/
theorem State.PhasesAgree.active (h : s.PhasesAgree) {c : Cand} (hc : c ∈ s.hall.cands) (hactive : s.Active c) :
    ∃ x ∈ s.hall.sittings, x.number = c.sitting ∧ x.state = .writing := by
  obtain hstate | hx := hactive
  · exact h.writing c hc hstate
  · exact hx

/-- Sitting records changed that leave a sitting in WRITING so. -/
theorem State.PhasesAgree.ofSittings (h : s.PhasesAgree) (hsittings : ∀ x ∈ s.hall.sittings, x.state = .writing →
      (∃ c ∈ s.hall.cands, c.sitting = x.number ∧ (c.state = .writing ∨ c.state = .resting)) →
      ∃ y ∈ t.hall.sittings, y.number = x.number ∧ y.state = .writing)
    (hcands : ∀ c ∈ t.hall.cands, c.state = .writing ∨ c.state = .resting →
      ∃ d ∈ s.hall.cands, d.sitting = c.sitting ∧ d.state = c.state) : t.PhasesAgree where
  writing c hc hstate := by
    obtain ⟨d, hd, hsitting, hsame⟩ := hcands c hc hstate
    have hdstate : d.state = .writing ∨ d.state = .resting := by rwa [hsame]
    obtain ⟨x, hx, hn, hw⟩ := h.writing d hd hdstate
    obtain ⟨y, hy, hyn, hyw⟩ := hsittings x hx hw ⟨d, hd, hn.symm, hdstate⟩
    exact ⟨y, hy, hyn.trans (hn.trans hsitting), hyw⟩

/-- Nobody of a sitting is at its paper once its counts say that nobody is left. -/
theorem State.CountsAgree.nobody (h : s.CountsAgree) {x : Sitting} (hx : x ∈ s.hall.sittings)
    (hnobody : x.counts.nobodyLeft = true) {c : Cand} (hc : c ∈ s.hall.cands) (hn : c.sitting = x.number)
    (hstate : c.state = .writing ∨ c.state = .resting) : False := by
  obtain ⟨i, hi⟩ := List.getElem?_of_mem hc
  have hpos := h.counted hi hx hn.symm
  rw [Counts.nobodyLeft_get hnobody hstate] at hpos
  exact Nat.lt_irrefl 0 hpos

theorem State.PhasesAgree.move (h : s.PhasesAgree) (hcounts : s.CountsAgree) (hordered : s.TablesOrdered)
    (hmove : Move s t) : t.PhasesAgree := by
  cases hmove with
  | same htables =>
    refine h.ofSittings (fun x hx hw _ => ⟨x, ?_, rfl, hw⟩) (fun c hc _ => ⟨c, ?_, rfl, rfl⟩)
    · rw [State.sittings_of_tables htables]; exact hx
    · rw [State.cands_of_tables htables] at hc; exact hc
  | seats f _ _ htables =>
    refine h.ofSittings (fun x hx hw _ => ⟨x, ?_, rfl, hw⟩) (fun c hc _ => ⟨c, ?_, rfl, rfl⟩)
    · rw [State.sittings_of_tables htables]; exact hx
    · rw [State.cands_of_tables htables] at hc; exact hc
  | sitting n f hkeys hstep htables =>
    refine h.ofSittings (fun x hx hw hc => ?_) (fun c hc _ => ⟨c, ?_, rfl, rfl⟩)
    · refine ⟨if x.number = n then f x else x, ?_, ?_, ?_⟩
      · rw [State.sittings_of_tables htables]; exact List.mem_map_of_mem hx
      · split <;> simp [hkeys]
      · split
        · next hn =>
          obtain hwriting | hnobody := (hstep hordered x hx hn).phase hw
          · exact hwriting
          · obtain ⟨c, hc, hcn, hcs⟩ := hc
            exact (hcounts.nobody hx hnobody hc hcn hcs).elim
        · exact hw
    · rw [State.cands_of_tables htables] at hc; exact hc
  | cand i c d f hfound hstep _ _ htables =>
    have hkept : ∀ x ∈ s.hall.sittings, x.state = .writing → ∃ y ∈ t.hall.sittings, y.number = x.number ∧ y.state = .writing := by
      intro x hx hw
      refine ⟨x.moveCount c.sitting c.state d.state, ?_, Sitting.moveCount_number .., ?_⟩
      · rw [State.sittings_of_tables htables]; exact List.mem_map_of_mem hx
      · rw [← hw]; unfold Sitting.moveCount; split <;> rfl
    constructor
    intro e he hstate
    have hold : ∃ x ∈ s.hall.sittings, x.number = e.sitting ∧ x.state = .writing := by
      rw [State.cands_of_tables htables] at he
      obtain rfl | he := mem_cands_set he
      · rw [hstep.sitting]
        exact h.active (List.mem_of_getElem? hfound) (hstep.phase hstate)
      · exact h.writing e he hstate
    obtain ⟨x, hx, hn, hw⟩ := hold
    obtain ⟨y, hy, hyn, hyw⟩ := hkept x hx hw
    exact ⟨y, hy, hyn.trans hn, hyw⟩
  | addSeat x _ _ _ htables =>
    refine h.ofSittings (fun x hx hw _ => ⟨x, ?_, rfl, hw⟩) (fun c hc _ => ⟨c, ?_, rfl, rfl⟩)
    · rw [State.sittings_of_tables htables]; exact hx
    · rw [State.cands_of_tables htables] at hc; exact hc
  | addSitting x _ _ _ htables =>
    refine h.ofSittings (fun x hx hw _ => ⟨x, ?_, rfl, hw⟩) (fun c hc _ => ⟨c, ?_, rfl, rfl⟩)
    · rw [State.sittings_of_tables htables]; exact mem_insertSitting.mpr (.inr hx)
    · rw [State.cands_of_tables htables] at hc; exact hc
  | addCand c _ _ hstate _ _ _ htables =>
    refine h.ofSittings (fun x hx hw _ => ?_) (fun d hd hdstate => ?_)
    · rw [State.sittings_of_tables htables]
      exact ⟨_, List.mem_map_of_mem hx, by split <;> rfl, by split <;> exact hw⟩
    · rw [State.cands_of_tables htables] at hd
      obtain hd | hd := List.mem_append.mp hd
      · exact ⟨d, hd, rfl, rfl⟩
      · rw [List.mem_singleton.mp hd, hstate] at hdstate
        obtain hdstate | hdstate := hdstate <;> cases hdstate
  | recompute n base _ _ htables =>
    refine h.ofSittings (fun x hx hw _ => ⟨x, ?_, rfl, hw⟩) (fun c hc _ => ?_)
    · rw [State.sittings_of_tables htables]; exact hx
    · rw [State.cands_of_tables htables] at hc
      obtain ⟨d, hd, rfl⟩ := List.mem_map.mp hc
      exact ⟨d, hd, by split <;> rfl, by split <;> rfl⟩
  | clear htables _ =>
    refine ⟨fun c hc => ?_⟩
    rw [State.cands_of_tables htables] at hc
    cases hc

end Phases

/-! ## The bounds of the records (R49, R55, R56, R61, R67, R145) -/

section Fields
variable {s t : State}

/-- The bounds of a seat's record. -/
def Seat.Bounded (x : Seat) : Prop := x.quiet ≤ 8 ∧ x.miss ≤ 3 ∧ x.keys.length ≤ 9

/-- The bounds of a sitting's record. -/
def Sitting.Bounded (x : Sitting) : Prop := x.elapsedCues.length + x.remainingCues.length ≤ 8 ∧ x.sel ≤ 57600

theorem State.fieldsBounded_iff (s : State) : s.FieldsBounded ↔ (∀ x ∈ s.hall.seats, x.Bounded)
    ∧ (∀ x ∈ s.hall.sittings, x.Bounded) ∧ ∀ p, (s.arch.plane p).blocks.length = 128 :=
  ⟨fun h => ⟨fun x hx => ⟨h.quiet x hx, h.miss x hx, h.keys x hx⟩, fun x hx => ⟨h.cues x hx, h.sel x hx⟩, h.blocks⟩,
    fun ⟨hseat, hsitting, hblocks⟩ => ⟨fun x hx => (hseat x hx).1, fun x hx => (hseat x hx).2.1,
      fun x hx => (hseat x hx).2.2, fun x hx => (hsitting x hx).1, fun x hx => (hsitting x hx).2, hblocks⟩⟩

theorem SeatStep.bounded {x y : Seat} (h : SeatStep x y) (hx : x.Bounded) : y.Bounded := by
  obtain ⟨hquiet, hmiss, hkeys⟩ := hx
  exact ⟨h.quiet hquiet, h.miss hmiss, h.keys hkeys⟩

theorem SittingStep.bounded {x y : Sitting} (h : SittingStep x y) (hx : x.Bounded) : y.Bounded := by
  obtain ⟨hcues, hsel⟩ := hx
  exact ⟨h.cues hcues, h.sel hsel⟩

theorem State.FieldsBounded.ofTables (h : s.FieldsBounded)
    (hseats : (∀ x ∈ s.hall.seats, x.Bounded) → ∀ x ∈ t.hall.seats, x.Bounded)
    (hsittings : (∀ x ∈ s.hall.sittings, x.Bounded) → ∀ x ∈ t.hall.sittings, x.Bounded)
    (hblocks : ∀ p, (t.arch.plane p).blocks.length = (s.arch.plane p).blocks.length
      ∨ (t.arch.plane p).blocks.length = 128) : t.FieldsBounded := by
  obtain ⟨hseat, hsitting, hblock⟩ := (State.fieldsBounded_iff s).mp h
  refine (State.fieldsBounded_iff t).mpr ⟨hseats hseat, hsittings hsitting, fun p => ?_⟩
  obtain hp | hp := hblocks p
  · exact hp.trans (hblock p)
  · exact hp

theorem State.FieldsBounded.move (h : s.FieldsBounded) (hordered : s.TablesOrdered) (hmove : Move s t) :
    t.FieldsBounded := by
  cases hmove with
  | same htables =>
    refine h.ofTables ?_ ?_ (fun p => .inl (State.blocks_of_tables htables p))
    · rw [State.seats_of_tables htables]; exact id
    · rw [State.sittings_of_tables htables]; exact id
  | seats f hstep _ htables =>
    refine h.ofTables ?_ ?_ (fun p => .inl (State.blocks_of_tables htables p))
    · rw [State.seats_of_tables htables]
      exact fun hs => List.forall_mem_map.mpr (fun x hx => (hstep x).bounded (hs x hx))
    · rw [State.sittings_of_tables htables]; exact id
  | sitting n f _ hstep htables =>
    refine h.ofTables ?_ ?_ (fun p => .inl (State.blocks_of_tables htables p))
    · rw [State.seats_of_tables htables]; exact id
    · rw [State.sittings_of_tables htables]
      refine fun hs => List.forall_mem_map.mpr (fun x hx => ?_)
      split
      · next hn => exact (hstep hordered x hx hn).bounded (hs x hx)
      · exact hs x hx
  | cand i c d f _ _ hseat _ htables =>
    refine h.ofTables ?_ ?_ (fun p => .inl (State.blocks_of_tables htables p))
    · rw [State.seats_of_tables htables]
      exact fun hs => List.forall_mem_map.mpr (fun x hx => (hseat x).bounded (hs x hx))
    · rw [State.sittings_of_tables htables]
      refine fun hs => List.forall_mem_map.mpr (fun x hx => ?_)
      unfold Sitting.moveCount
      split <;> exact hs x hx
  | addSeat x _ _ hbounds htables =>
    refine h.ofTables ?_ ?_ (fun p => .inl (State.blocks_of_tables htables p))
    · rw [State.seats_of_tables htables]
      intro hs y hy
      obtain rfl | hy := mem_insertSeat.mp hy
      · obtain ⟨hquiet, hmiss, hkeys⟩ := hbounds
        simp [Seat.Bounded, hquiet, hmiss, hkeys]
      · exact hs y hy
    · rw [State.sittings_of_tables htables]; exact id
  | addSitting x _ _ hbounds htables =>
    refine h.ofTables ?_ ?_ (fun p => .inl (State.blocks_of_tables htables p))
    · rw [State.seats_of_tables htables]; exact id
    · rw [State.sittings_of_tables htables]
      intro hs y hy
      obtain rfl | hy := mem_insertSitting.mp hy
      · obtain ⟨helapsed, hremaining, hsel, -⟩ := hbounds
        simp [Sitting.Bounded, helapsed, hremaining, hsel]
      · exact hs y hy
  | addCand c _ _ _ _ _ _ htables =>
    refine h.ofTables ?_ ?_ (fun p => .inl (State.blocks_of_tables htables p))
    · rw [State.seats_of_tables htables]; exact id
    · rw [State.sittings_of_tables htables]
      refine fun hs => List.forall_mem_map.mpr (fun x hx => ?_)
      split <;> exact hs x hx
  | recompute n base _ _ htables =>
    refine h.ofTables ?_ ?_ (fun p => .inl (State.blocks_of_tables htables p))
    · rw [State.seats_of_tables htables]; exact id
    · rw [State.sittings_of_tables htables]; exact id
  | clear htables hblocks =>
    refine h.ofTables ?_ ?_ (fun p => ?_)
    · rw [State.seats_of_tables htables]; exact fun _ x hx => absurd hx List.not_mem_nil
    · rw [State.sittings_of_tables htables]; exact fun _ x hx => absurd hx List.not_mem_nil
    · obtain hb | hb := hblocks
      · exact .inl (congrFun hb p)
      · exact .inr (congrFun hb p)

end Fields

end Sys2Proof.Machine
end

section
/-! SUPPORT. What every move keeps, continued: the occupancy (R30) and the bounds of the clocks (R59, R60, R66,
R70, R73). -/

namespace Sys2Proof.Machine

/-! ## The occupancy (R30, R68, R96, R109) -/

section Occupancy
variable {s t : State}

theorem State.TablesOrdered.seat_unique (h : s.TablesOrdered) {x y : Seat} (hx : x ∈ s.hall.seats) (hy : y ∈ s.hall.seats)
    (hn : x.seat = y.seat) : x = y := by
  have hnodup : (s.hall.seats.map (·.seat)).Nodup :=
    List.pairwise_map.mpr (h.seats.imp (fun hlt => Nat.ne_of_lt hlt))
  exact List.inj_on_of_nodup_map hnodup hx hy hn

/-- The occupancy goes with the occupants of the seats and with the seats of the candidates. -/
theorem State.OccupancyAgrees.ofSame (h : s.OccupancyAgrees)
    (hseats : ∀ y ∈ t.hall.seats, ∀ i, y.occupant = some i → ∃ x ∈ s.hall.seats, x.seat = y.seat ∧ x.occupant = some i)
    (hback : ∀ x ∈ s.hall.seats, ∀ i, x.occupant = some i → ∃ y ∈ t.hall.seats, y.seat = x.seat ∧ y.occupant = some i)
    (hcands : ∀ i d, t.cand? i = some d → (∃ c, s.cand? i = some c ∧ c.seat = d.seat ∧ c.state = d.state) ∨ d.seat = none)
    (hcback : ∀ i c n, s.cand? i = some c → c.seat = some n → ∃ d, t.cand? i = some d ∧ d.seat = some n) :
    t.OccupancyAgrees where
  seats y hy i hi := by
    obtain ⟨x, hx, hn, hocc⟩ := hseats y hy i hi
    obtain ⟨c, hc, hseat⟩ := h.seats x hx i hocc
    rw [← hn]
    exact hcback i c x.seat hc hseat
  cands i d n hd hseat := by
    obtain ⟨c, hc, hcseat, -⟩ | hnone := hcands i d hd
    · obtain ⟨x, hx, hn, hocc⟩ := h.cands i c n hc (hcseat.trans hseat)
      obtain ⟨y, hy, hyn, hyocc⟩ := hback x hx i hocc
      exact ⟨y, hy, hyn.trans hn, hyocc⟩
    · rw [hnone] at hseat
      cases hseat
  gone d hd hgone := by
    obtain ⟨i, hi⟩ := List.getElem?_of_mem hd
    obtain ⟨c, hc, hcseat, hcstate⟩ | hnone := hcands i d hi
    · rw [← hcseat]
      exact h.gone c (List.mem_of_getElem? hc) (by rwa [hcstate])
    · exact hnone

section Reseated
variable {i : Nat} {c d : Cand} {f : Seat → Seat}

/-- The occupant of a seat the candidate takes, and of a seat the move does not touch. -/
theorem reseated_of_same {old new : Option Nat} {x : Seat} (h : new = old) : reseated i old new x = x.occupant := if_pos h

theorem reseated_of_taken {old new : Option Nat} {x : Seat} (h : new ≠ old) (hx : new = some x.seat) :
    reseated i old new x = some i := by
  rw [reseated, if_neg h, if_pos hx]

theorem reseated_of_left {old new : Option Nat} {x : Seat} (h : new ≠ old) (hx : new ≠ some x.seat) (hold : old = some x.seat) :
    reseated i old new x = none := by
  rw [reseated, if_neg h, if_neg hx, if_pos hold]

theorem reseated_of_other {old new : Option Nat} {x : Seat} (hx : new ≠ some x.seat) (hold : old ≠ some x.seat) :
    reseated i old new x = x.occupant := by
  rw [reseated, if_neg hx, if_neg hold, ite_self]

theorem State.cand?_of_set (hc : s.cand? i = some c) (hcands : t.hall.cands = s.hall.cands.set i d) (j : Nat) :
    t.cand? j = if i = j then some d else s.cand? j := by
  obtain ⟨hi, -⟩ := List.getElem?_eq_some_iff.mp hc
  rw [State.cand?, hcands, List.getElem?_set]
  by_cases h : i = j
  · subst h
    simp only [if_true, if_pos hi]
  · simp only [if_neg h, State.cand?]

theorem State.OccupancyAgrees.ofCand (h : s.OccupancyAgrees) (hordered : s.TablesOrdered) (hc : s.cand? i = some c)
    (hf : ∀ x, (f x).seat = x.seat) (hreseats : Reseats s i c d f) (hseats : t.hall.seats = s.hall.seats.map f)
    (hcands : t.hall.cands = s.hall.cands.set i d) : t.OccupancyAgrees where
  seats y hy j hj := by
    rw [hseats] at hy
    obtain ⟨x, hx, rfl⟩ := List.mem_map.mp hy
    rw [hreseats.occupant x hx] at hj
    rw [hf, State.cand?_of_set hc hcands]
    by_cases hsame : d.seat = c.seat
    · rw [reseated_of_same hsame] at hj
      obtain ⟨e, he, hseat⟩ := h.seats x hx j hj
      split
      · next hij =>
        obtain rfl := Option.some.inj (hc.symm.trans (hij ▸ he))
        exact ⟨d, rfl, hsame.trans hseat⟩
      · exact ⟨e, he, hseat⟩
    · by_cases htaken : d.seat = some x.seat
      · rw [reseated_of_taken hsame htaken] at hj
        exact ⟨d, if_pos (Option.some.inj hj), htaken⟩
      · by_cases hleft : c.seat = some x.seat
        · rw [reseated_of_left hsame htaken hleft] at hj
          cases hj
        · rw [reseated_of_other htaken hleft] at hj
          obtain ⟨e, he, hseat⟩ := h.seats x hx j hj
          refine ⟨e, (if_neg ?_).trans he, hseat⟩
          rintro rfl
          rw [← Option.some.inj (hc.symm.trans he)] at hseat
          exact hleft hseat
  cands j e n he hseat := by
    have hwitness : ∀ x ∈ s.hall.seats, x.seat = n → reseated i c.seat d.seat x = some j →
        ∃ y ∈ t.hall.seats, y.seat = n ∧ y.occupant = some j := by
      intro x hx hn hocc
      rw [hseats]
      exact ⟨f x, List.mem_map_of_mem hx, (hf x).trans hn, (hreseats.occupant x hx).trans hocc⟩
    rw [State.cand?_of_set hc hcands] at he
    split at he
    · next hij =>
      subst hij
      obtain rfl := Option.some.inj he
      by_cases hsame : d.seat = c.seat
      · obtain ⟨x, hx, hn, hocc⟩ := h.cands i c n hc (hsame.symm.trans hseat)
        exact hwitness x hx hn ((reseated_of_same hsame).trans hocc)
      · obtain ⟨x, hx, hn, -⟩ := hreseats.free hsame n hseat
        exact hwitness x hx hn (reseated_of_taken hsame (by rw [hseat, hn]))
    · next hij =>
      obtain ⟨x, hx, hn, hocc⟩ := h.cands j e n he hseat
      refine hwitness x hx hn ?_
      by_cases hsame : d.seat = c.seat
      · exact (reseated_of_same hsame).trans hocc
      · refine (reseated_of_other (fun htaken => ?_) (fun hleft => ?_)).trans hocc
        · obtain ⟨y, hy, hyn, hfree⟩ := hreseats.free hsame x.seat htaken
          rw [hordered.seat_unique hy hx hyn, hocc] at hfree
          cases hfree
        · obtain ⟨y, hy, hyn, hyocc⟩ := h.cands i c x.seat hc hleft
          rw [hordered.seat_unique hy hx hyn, hocc] at hyocc
          exact hij (Option.some.inj hyocc).symm
  gone e he hgone := by
    rw [hcands] at he
    obtain rfl | he := mem_cands_set he
    · exact hreseats.gone hgone
    · exact h.gone e he hgone

end Reseated

/-- The seats and the candidates as they were. -/
theorem State.OccupancyAgrees.ofEq (h : s.OccupancyAgrees) (hseats : t.hall.seats = s.hall.seats)
    (hcands : t.hall.cands = s.hall.cands) : t.OccupancyAgrees := by
  have hcand : ∀ i, t.cand? i = s.cand? i := fun i => by rw [State.cand?, hcands, State.cand?]
  refine ⟨?_, ?_, ?_⟩
  · simpa only [hseats, hcand] using h.seats
  · simpa only [hseats, hcand] using h.cands
  · simpa only [hcands] using h.gone

theorem State.OccupancyAgrees.ofAddCand (h : s.OccupancyAgrees) {c : Cand} (hseat : c.seat = none)
    (hseats : t.hall.seats = s.hall.seats) (hcands : t.hall.cands = s.hall.cands ++ [c]) : t.OccupancyAgrees := by
  have hcand : ∀ i d, s.cand? i = some d → t.cand? i = some d := by
    intro i d hd
    rw [State.cand?, hcands]
    exact (List.getElem?_append_left (List.getElem?_eq_some_iff.mp hd).choose).trans hd
  refine h.ofSame (fun y hy i hi => ⟨y, hseats ▸ hy, rfl, hi⟩) (fun y hy i hi => ⟨y, hseats ▸ hy, rfl, hi⟩)
    (fun i d hd => ?_) (fun i d n hd hn => ⟨d, hcand i d hd, hn⟩)
  rw [State.cand?, hcands, List.getElem?_append] at hd
  split at hd
  · exact .inl ⟨d, hd, rfl, rfl⟩
  · obtain rfl := List.mem_singleton.mp (List.mem_of_getElem? hd)
    exact .inr hseat

theorem State.OccupancyAgrees.move (h : s.OccupancyAgrees) (hordered : s.TablesOrdered) (hmove : Move s t) :
    t.OccupancyAgrees := by
  cases hmove with
  | same htables => exact h.ofEq (State.seats_of_tables htables) (State.cands_of_tables htables)
  | seats f hstep hocc htables =>
    have hseats : t.hall.seats = s.hall.seats.map f := State.seats_of_tables htables
    have hcands : t.hall.cands = s.hall.cands := State.cands_of_tables htables
    have hcand : ∀ i, t.cand? i = s.cand? i := fun i => by rw [State.cand?, hcands, State.cand?]
    refine h.ofSame (fun y hy i hi => ?_) (fun x hx i hi => ?_) (fun i d hd => .inl ⟨d, (hcand i).symm.trans hd, rfl, rfl⟩)
      (fun i c n hc hn => ⟨c, (hcand i).trans hc, hn⟩)
    · rw [hseats] at hy
      obtain ⟨x, hx, rfl⟩ := List.mem_map.mp hy
      exact ⟨x, hx, (hstep x).seat.symm, (hocc x).symm.trans hi⟩
    · rw [hseats]
      exact ⟨f x, List.mem_map_of_mem hx, (hstep x).seat, (hocc x).trans hi⟩
  | sitting n f _ _ htables => exact h.ofEq (State.seats_of_tables htables) (State.cands_of_tables htables)
  | cand i c d f hfound _ hseat hreseats htables =>
    exact h.ofCand hordered hfound (fun x => (hseat x).seat) (hreseats hordered h) (State.seats_of_tables htables)
      (State.cands_of_tables htables)
  | addSeat x _ hempty _ htables =>
    have hseats : t.hall.seats = insertSeat x s.hall.seats := State.seats_of_tables htables
    have hcands : t.hall.cands = s.hall.cands := State.cands_of_tables htables
    have hcand : ∀ i, t.cand? i = s.cand? i := fun i => by rw [State.cand?, hcands, State.cand?]
    refine h.ofSame (fun y hy i hi => ?_) (fun y hy i hi => ⟨y, hseats ▸ mem_insertSeat.mpr (.inr hy), rfl, hi⟩)
      (fun i d hd => .inl ⟨d, (hcand i).symm.trans hd, rfl, rfl⟩) (fun i c n hc hn => ⟨c, (hcand i).trans hc, hn⟩)
    rw [hseats] at hy
    obtain rfl | hy := mem_insertSeat.mp hy
    · rw [hempty] at hi
      cases hi
    · exact ⟨y, hy, rfl, hi⟩
  | addSitting x _ _ _ htables => exact h.ofEq (State.seats_of_tables htables) (State.cands_of_tables htables)
  | addCand c _ _ _ hseat _ _ htables =>
    exact h.ofAddCand hseat (State.seats_of_tables htables) (State.cands_of_tables htables)
  | recompute n base _ _ htables =>
    have hseats : t.hall.seats = s.hall.seats := State.seats_of_tables htables
    have hcand : ∀ i, t.cand? i = (s.cand? i).map (fun c => if c.sitting = n then
        { c with entitled := entitlement base c.allowance } else c) := by
      intro i
      rw [State.cand?, State.cands_of_tables htables]
      exact List.getElem?_map
    refine h.ofSame (fun y hy i hi => ⟨y, hseats ▸ hy, rfl, hi⟩) (fun y hy i hi => ⟨y, hseats ▸ hy, rfl, hi⟩)
      (fun i d hd => .inl ?_) (fun i c m hc hm => ?_)
    · rw [hcand] at hd
      obtain ⟨c, hc, rfl⟩ := Option.map_eq_some_iff.mp hd
      exact ⟨c, hc, by split <;> rfl, by split <;> rfl⟩
    · rw [hcand, hc]
      exact ⟨_, rfl, by dsimp only; split <;> exact hm⟩
  | clear htables _ =>
    have hcands : t.hall.cands = [] := State.cands_of_tables htables
    refine ⟨?_, ?_, ?_⟩
    · rw [State.seats_of_tables htables]; exact fun x hx => absurd hx List.not_mem_nil
    · intro i c n hc
      rw [State.cand?, hcands] at hc
      cases hc
    · rw [hcands]; exact fun c hc => absurd hc List.not_mem_nil

end Occupancy

/-! ## The bounds of the clocks (R59, R60, R66, R70, R73) -/

section Clocks
variable {s t : State}

theorem State.clocksBounded_iff (s : State) : s.ClocksBounded ↔ (∀ c ∈ s.hall.cands, c.ClockOk)
    ∧ (∀ x ∈ s.hall.sittings, x.state.early → ∀ c ∈ s.hall.cands, c.sitting = x.number → c.consumed = 0)
    ∧ ∀ x ∈ s.hall.sittings, 0 < x.base :=
  ⟨fun h => ⟨fun c hc => ⟨h.consumed c hc, h.rest c hc, h.writing c hc, h.resting c hc, h.fresh c hc, h.entitled c hc⟩,
      h.early, h.base⟩,
    fun ⟨hclock, hearly, hbase⟩ => ⟨fun c hc => (hclock c hc).consumed, fun c hc => (hclock c hc).rest,
      fun c hc => (hclock c hc).writing, fun c hc => (hclock c hc).resting, fun c hc => (hclock c hc).fresh, hearly, hbase,
      fun c hc => (hclock c hc).entitled⟩⟩

theorem SittingState.not_early_writing : ¬ SittingState.writing.early := by simp [SittingState.early]

/-- Sitting records changed: none is before its start of writing that was not, and none has B 0. -/
theorem State.ClocksBounded.ofSittings (h : s.ClocksBounded) (hcands : t.hall.cands = s.hall.cands)
    (hsittings : ∀ y ∈ t.hall.sittings, ∃ x ∈ s.hall.sittings, y.number = x.number ∧ (y.state.early → x.state.early)
      ∧ (0 < x.base → 0 < y.base)) : t.ClocksBounded := by
  obtain ⟨hclock, hearly, hbase⟩ := (State.clocksBounded_iff s).mp h
  refine (State.clocksBounded_iff t).mpr ⟨hcands ▸ hclock, fun y hy hye c hc hn => ?_, fun y hy => ?_⟩
  · obtain ⟨x, hx, hnum, hxe, -⟩ := hsittings y hy
    exact hearly x hx (hxe hye) c (hcands ▸ hc) (hn.trans hnum)
  · obtain ⟨x, hx, -, -, hb⟩ := hsittings y hy
    exact hb (hbase x hx)

theorem State.ClocksBounded.ofCand (h : s.ClocksBounded) (hcounts : s.CountsAgree) (hordered : s.TablesOrdered)
    (hphases : s.PhasesAgree) {i : Nat} {c d : Cand} (hc : s.cand? i = some c) (hstep : CandStep s c d)
    (hsittings : t.hall.sittings = s.hall.sittings.map (Sitting.moveCount c.sitting c.state d.state))
    (hcands : t.hall.cands = s.hall.cands.set i d) : t.ClocksBounded := by
  obtain ⟨hclock, hearly, hbase⟩ := (State.clocksBounded_iff s).mp h
  have hmem : c ∈ s.hall.cands := List.mem_of_getElem? hc
  have hsame : ∀ x : Sitting, (x.moveCount c.sitting c.state d.state).state = x.state
      ∧ (x.moveCount c.sitting c.state d.state).base = x.base := by
    intro x
    unfold Sitting.moveCount
    split <;> exact ⟨rfl, rfl⟩
  refine (State.clocksBounded_iff t).mpr ⟨fun e he => ?_, ?_, ?_⟩
  · rw [hcands] at he
    obtain rfl | he := mem_cands_set he
    · exact hstep.clock hbase (hcounts.sitting c hmem) (hclock c hmem)
    · exact hclock e he
  · rw [hsittings]
    refine List.forall_mem_map.mpr (fun x hx hxe e he hn => ?_)
    rw [(hsame x).1] at hxe
    rw [Sitting.moveCount_number] at hn
    rw [hcands] at he
    obtain rfl | he := mem_cands_set he
    · rw [hstep.sitting] at hn
      by_contra hconsumed
      obtain hold | hactive := hstep.begun hconsumed
      · exact hold (hearly x hx hxe c hmem hn)
      · obtain ⟨y, hy, hyn, hw⟩ := hphases.active hmem hactive
        rw [hordered.sitting_unique hx hy (hn.symm.trans hyn.symm), hw] at hxe
        exact SittingState.not_early_writing hxe
    · exact hearly x hx hxe e he hn
  · rw [hsittings]
    exact List.forall_mem_map.mpr (fun x hx => (hsame x).2.symm ▸ hbase x hx)

theorem State.ClocksBounded.ofAddCand (h : s.ClocksBounded) {c : Cand} (hstate : c.state = .expected)
    (hentitled : 0 < c.entitled) (hunused : c.consumed = 0 ∧ c.restUsed = 0) {g : Sitting → Sitting}
    (hg : ∀ x, (g x).number = x.number ∧ (g x).state = x.state ∧ (g x).base = x.base)
    (hsittings : t.hall.sittings = s.hall.sittings.map g) (hcands : t.hall.cands = s.hall.cands ++ [c]) :
    t.ClocksBounded := by
  obtain ⟨hclock, hearly, hbase⟩ := (State.clocksBounded_iff s).mp h
  obtain ⟨hconsumed, hrest⟩ := hunused
  have hmem : ∀ d ∈ t.hall.cands, d ∈ s.hall.cands ∨ d = c := by
    intro d hd
    rw [hcands] at hd
    exact (List.mem_append.mp hd).imp_right List.mem_singleton.mp
  refine (State.clocksBounded_iff t).mpr ⟨fun d hd => ?_, ?_, ?_⟩
  · obtain hd | rfl := hmem d hd
    · exact hclock d hd
    · exact ⟨by omega, by omega, by simp [hstate], by simp [hstate], fun _ => hconsumed, hentitled⟩
  · rw [hsittings]
    refine List.forall_mem_map.mpr (fun x hx hxe d hd hn => ?_)
    obtain ⟨hnumber, hxstate, -⟩ := hg x
    obtain hd | rfl := hmem d hd
    · exact hearly x hx (hxstate ▸ hxe) d hd (hn.trans hnumber)
    · exact hconsumed
  · rw [hsittings]
    exact List.forall_mem_map.mpr (fun x hx => (hg x).2.2.symm ▸ hbase x hx)

theorem State.ClocksBounded.ofRecompute (h : s.ClocksBounded) (hcounts : s.CountsAgree) (hphases : s.PhasesAgree)
    (hordered : s.TablesOrdered) {n base : Nat} (hpos : ∀ a, 0 < entitlement base a)
    (hdefined : ∀ x ∈ s.hall.sittings, x.number = n → x.state = .defined) (hsittings : t.hall.sittings = s.hall.sittings)
    (hcands : t.hall.cands = s.hall.cands.map (fun c =>
      if c.sitting = n then { c with entitled := entitlement base c.allowance } else c)) : t.ClocksBounded := by
  obtain ⟨hclock, hearly, hbase⟩ := (State.clocksBounded_iff s).mp h
  refine (State.clocksBounded_iff t).mpr ⟨?_, ?_, ?_⟩
  · rw [hcands]
    refine List.forall_mem_map.mpr (fun c hc => ?_)
    split
    · next hn =>
      obtain ⟨x, hx, hxn⟩ := hcounts.sitting c hc
      have hxd : x.state = .defined := hdefined x hx (hxn.trans hn)
      have hconsumed : c.consumed = 0 := hearly x hx (.inl hxd) c hc hxn.symm
      have hpaper : ¬ (c.state = .writing ∨ c.state = .resting) := by
        intro hstate
        obtain ⟨y, hy, hyn, hw⟩ := hphases.writing c hc hstate
        rw [hordered.sitting_unique hy hx (hyn.trans hxn.symm), hxd] at hw
        cases hw
      refine ⟨?_, (hclock c hc).rest, fun hstate => absurd hstate hpaper, (hclock c hc).resting, (hclock c hc).fresh,
        hpos _⟩
      rw [hconsumed]
      exact Nat.zero_le _
    · exact hclock c hc
  · rw [hsittings, hcands]
    intro x hx hxe
    refine List.forall_mem_map.mpr (fun c hc hn => ?_)
    split at hn
    · next h => rw [if_pos h]; exact hearly x hx hxe c hc hn
    · next h => rw [if_neg h]; exact hearly x hx hxe c hc hn
  · rw [hsittings]
    exact hbase

theorem entitlement_pos {base : Nat} (h : 0 < base) (a : Nat) : 0 < entitlement base a := by
  have hmul : 100 ≤ base * (100 + a) := by nlinarith
  unfold entitlement
  omega

theorem State.ClocksBounded.move (h : s.ClocksBounded) (hcounts : s.CountsAgree) (hordered : s.TablesOrdered)
    (hphases : s.PhasesAgree) (hmove : Move s t) : t.ClocksBounded := by
  cases hmove with
  | same htables =>
    refine h.ofSittings (State.cands_of_tables htables) ?_
    rw [State.sittings_of_tables htables]
    exact fun x hx => ⟨x, hx, rfl, id, id⟩
  | seats f _ _ htables =>
    refine h.ofSittings (State.cands_of_tables htables) ?_
    rw [State.sittings_of_tables htables]
    exact fun x hx => ⟨x, hx, rfl, id, id⟩
  | sitting n f hkeys hstep htables =>
    refine h.ofSittings (State.cands_of_tables htables) ?_
    rw [State.sittings_of_tables htables]
    refine List.forall_mem_map.mpr (fun x hx => ⟨x, hx, ?_⟩)
    split
    · next hn => exact ⟨(hkeys x).1, (hstep hordered x hx hn).early, (hstep hordered x hx hn).base⟩
    · exact ⟨rfl, id, id⟩
  | cand i c d f hfound hstep _ _ htables =>
    exact h.ofCand hcounts hordered hphases hfound hstep (State.sittings_of_tables htables) (State.cands_of_tables htables)
  | addSeat x _ _ _ htables =>
    refine h.ofSittings (State.cands_of_tables htables) ?_
    rw [State.sittings_of_tables htables]
    exact fun x hx => ⟨x, hx, rfl, id, id⟩
  | addSitting x hfresh _ hbounds htables =>
    obtain ⟨hclock, hearly, hbase⟩ := (State.clocksBounded_iff s).mp h
    obtain ⟨-, -, -, hpos⟩ := hbounds
    have hcands : t.hall.cands = s.hall.cands := State.cands_of_tables htables
    refine (State.clocksBounded_iff t).mpr ⟨hcands ▸ hclock, ?_, ?_⟩
    · rw [State.sittings_of_tables htables, hcands]
      intro y hy hye c hc hn
      obtain rfl | hy := mem_insertSitting.mp hy
      · obtain ⟨z, hz, hzn⟩ := hcounts.sitting c hc
        exact absurd (hzn.trans hn) (State.ne_of_sitting?_none hfresh z hz)
      · exact hearly y hy hye c hc hn
    · rw [State.sittings_of_tables htables]
      intro y hy
      obtain rfl | hy := mem_insertSitting.mp hy
      · exact hpos
      · exact hbase y hy
  | addCand c _ _ hstate _ hclock hunused htables =>
    exact h.ofAddCand hstate (hclock h.base) hunused (fun x => by split <;> exact ⟨rfl, rfl, rfl⟩)
      (State.sittings_of_tables htables) (State.cands_of_tables htables)
  | recompute n base hpos hdefined htables =>
    exact h.ofRecompute hcounts hphases hordered (entitlement_pos hpos) (hdefined hordered) (State.sittings_of_tables htables)
      (State.cands_of_tables htables)
  | clear htables _ =>
    refine (State.clocksBounded_iff t).mpr ⟨?_, ?_, ?_⟩
    · rw [State.cands_of_tables htables]; exact fun _ hc => absurd hc List.not_mem_nil
    · rw [State.sittings_of_tables htables]; exact fun _ hx => absurd hx List.not_mem_nil
    · rw [State.sittings_of_tables htables]; exact fun _ hx => absurd hx List.not_mem_nil

/-! ## What every run of moves keeps -/

theorem State.CountsAgree.moves (h : s.CountsAgree) (hmoves : Moves s t) : t.CountsAgree :=
  hmoves.keep (P := State.CountsAgree) (fun _ _ hmove h => h.move hmove) h

theorem State.TablesOrdered.moves (h : s.TablesOrdered) (hmoves : Moves s t) : t.TablesOrdered :=
  hmoves.keep (P := State.TablesOrdered) (fun _ _ hmove h => h.move hmove) h

theorem State.PhasesAgree.moves (h : s.PhasesAgree) (hcounts : s.CountsAgree) (hordered : s.TablesOrdered)
    (hmoves : Moves s t) : t.PhasesAgree :=
  (hmoves.keep (P := fun s => s.CountsAgree ∧ s.TablesOrdered ∧ s.PhasesAgree)
    (fun _ _ hmove ⟨hc, ho, h⟩ => ⟨hc.move hmove, ho.move hmove, h.move hc ho hmove⟩) ⟨hcounts, hordered, h⟩).2.2

theorem State.OccupancyAgrees.moves (h : s.OccupancyAgrees) (hordered : s.TablesOrdered) (hmoves : Moves s t) :
    t.OccupancyAgrees :=
  (hmoves.keep (P := fun s => s.TablesOrdered ∧ s.OccupancyAgrees)
    (fun _ _ hmove ⟨ho, h⟩ => ⟨ho.move hmove, h.move ho hmove⟩) ⟨hordered, h⟩).2

theorem State.FieldsBounded.moves (h : s.FieldsBounded) (hordered : s.TablesOrdered) (hmoves : Moves s t) :
    t.FieldsBounded :=
  (hmoves.keep (P := fun s => s.TablesOrdered ∧ s.FieldsBounded)
    (fun _ _ hmove ⟨ho, h⟩ => ⟨ho.move hmove, h.move ho hmove⟩) ⟨hordered, h⟩).2

theorem State.ClocksBounded.moves (h : s.ClocksBounded) (hcounts : s.CountsAgree) (hordered : s.TablesOrdered)
    (hphases : s.PhasesAgree) (hmoves : Moves s t) : t.ClocksBounded :=
  (hmoves.keep (P := fun s => s.CountsAgree ∧ s.TablesOrdered ∧ s.PhasesAgree ∧ s.ClocksBounded)
    (fun _ _ hmove ⟨hc, ho, hp, h⟩ => ⟨hc.move hmove, ho.move hmove, hp.move hc ho hmove, h.move hc ho hp hmove⟩)
    ⟨hcounts, hordered, hphases, h⟩).2.2.2

end Clocks

end Sys2Proof.Machine
end

section
/-! SUPPORT. The moves of the shared operations: candidates finished, seats released and filled, collection. -/

namespace Sys2Proof.Machine

theorem Moves.trans {s t u : State} (h : Moves s t) (g : Moves t u) : Moves s u := Relation.ReflTransGen.trans h g

/-! ## One candidate's record retold -/

/-- From one state to another the record of one candidate goes from `c` to `d`, with the counts of its sitting and
its seat as it was; of the seats only the displays change. -/
structure Retold (s t : State) (i : Nat) (c d : Cand) : Prop where
  found : s.cand? i = some c
  number : d.number = c.number
  sitting : d.sitting = c.sitting
  seat : d.seat = c.seat
  tables : ∃ f, DisplayOnly f ∧ t.tables =
    { s.tables with seats := s.hall.seats.map f
                    sittings := s.hall.sittings.map (Sitting.moveCount c.sitting c.state d.state)
                    cands := s.hall.cands.set i d }

theorem DisplayOnly.comp {f g : Seat → Seat} (hg : DisplayOnly g) (hf : DisplayOnly f) : DisplayOnly (g ∘ f) := by
  obtain ⟨hfs, hfo⟩ := hf
  obtain ⟨hgs, hgo⟩ := hg
  refine ⟨fun x => ?_, fun x => (hgo (f x)).trans (hfo x)⟩
  have h := hfs x
  have h' := hgs (f x)
  exact ⟨h'.seat.trans h.seat, h'.quiet ∘ h.quiet, h'.miss ∘ h.miss, h'.keys ∘ h.keys⟩

section Retold
variable {s t u : State} {i : Nat} {c d : Cand}

theorem Retold.refl (hc : s.cand? i = some c) : Retold s s i c c where
  found := hc
  number := rfl
  sitting := rfl
  seat := rfl
  tables := by
    refine ⟨id, DisplayOnly.id, ?_⟩
    obtain ⟨hi, rfl⟩ := List.getElem?_eq_some_iff.mp hc
    rw [Sitting.moveCount_self, List.map_id, List.map_id, List.set_getElem_self]
    rfl

theorem Retold.cand? (h : Retold s t i c d) : t.cand? i = some d := by
  obtain ⟨f, -, htables⟩ := h.tables
  rw [State.cand?_of_set h.found (State.cands_of_tables htables), if_pos rfl]

/-- The seats, sittings and candidates after a record retold. -/
theorem Retold.parts (h : Retold s t i c d) : ∃ f, DisplayOnly f ∧ t.tables = ⟨s.hall.seats.map f,
    s.hall.sittings.map (Sitting.moveCount c.sitting c.state d.state), s.hall.cands.set i d, s.tables.blocks⟩
      ∧ t.hall.seats = s.hall.seats.map f
      ∧ t.hall.sittings = s.hall.sittings.map (Sitting.moveCount c.sitting c.state d.state)
      ∧ t.hall.cands = s.hall.cands.set i d := by
  obtain ⟨f, hf, htables⟩ := h.tables
  exact ⟨f, hf, htables, State.seats_of_tables htables, State.sittings_of_tables htables, State.cands_of_tables htables⟩

/-- What leaves the tables leaves a record retold. -/
theorem Retold.same (h : Retold s t i c d) (hu : u.tables = t.tables) : Retold s u i c d :=
  { h with tables := by obtain ⟨f, hf, htables⟩ := h.tables; exact ⟨f, hf, hu.trans htables⟩ }

theorem Retold.display (h : Retold s t i c d)
    (hu : ∃ f, DisplayOnly f ∧ u.tables = { t.tables with seats := t.hall.seats.map f }) : Retold s u i c d := by
  obtain ⟨f, hf, htables, hseats, -⟩ := h.parts
  obtain ⟨g, hg, hu⟩ := hu
  refine { h with tables := ⟨g ∘ f, hg.comp hf, ?_⟩ }
  rw [hu, htables, hseats, List.map_map]

theorem Retold.showCand (h : Retold s t i c d) (code : Option DispCode) : Retold s (t.showCand i code) i c d :=
  h.display (t.showCand_tables i code)

theorem Retold.mapCand (h : Retold s t i c d) {g : Cand → Cand} (hg : (g d).number = d.number ∧ (g d).sitting = d.sitting
    ∧ (g d).seat = d.seat ∧ (g d).state = d.state) : Retold s (t.mapCand i g) i c (g d) := by
  obtain ⟨hnumber, hsitting, hseat, hstate⟩ := hg
  obtain ⟨f, hf, htables, -, -, hcands⟩ := h.parts
  refine ⟨h.found, hnumber.trans h.number, hsitting.trans h.sitting, hseat.trans h.seat, f, hf, ?_⟩
  rw [State.mapCand_tables t h.cand?, htables, hcands, List.set_set, hstate]

theorem Retold.setCandState (h : Retold s t i c d) (hsame : d.state = c.state) {st : CandState} (hst : st ≠ c.state) :
    Retold s (t.setCandState i st) i c { d with state := st } := by
  obtain ⟨f, hf, htables, -, hsittings, hcands⟩ := h.parts
  refine ⟨h.found, h.number, h.sitting, h.seat, f, hf, ?_⟩
  rw [State.setCandState_tables t h.cand? (hsame ▸ hst), htables, hsittings, hcands, List.set_set, hsame,
    Sitting.moveCount_self, List.map_id, h.sitting]

/-- A record retold is one move. -/
theorem Retold.moves (h : Retold s t i c d) (hstep : CandStep s c d) (hgone : d.state.gone → c.state.gone) : Moves s t := by
  obtain ⟨f, hf, htables⟩ := h.tables
  exact Moves.ofCand h.found hstep hf h.seat hgone htables

/-- A record of a candidate without a seat retold is one move. -/
theorem Retold.moves_of_unseated (h : Retold s t i c d) (hstep : CandStep s c d) (hnone : c.seat = none) : Moves s t := by
  obtain ⟨f, hf, htables⟩ := h.tables
  refine (Move.cand i c d f h.found hstep hf.1 (fun _ _ => ⟨fun _ => h.seat.trans hnone, fun x _ => ?_, ?_⟩) htables).moves
  · rw [hf.2, reseated_of_same h.seat]
  · exact fun hne => absurd h.seat hne

end Retold

/-! ## Steps of a candidate's record -/

section Steps
variable {s : State} {c d : Cand}

/-- A candidate state in which no clock of the candidate runs. -/
def CandState.idle (st : CandState) : Prop := st = .finished ∨ st = .collected ∨ st = .absent ∨ st = .withdrawn

/-- A candidate that finishes, is collected, is absent or withdraws, its clocks within their bounds. -/
theorem CandStep.ofIdle (hnumber : d.number = c.number) (hsitting : d.sitting = c.sitting) (hidle : d.state.idle)
    (hbegun : d.consumed ≠ 0 → c.consumed ≠ 0 ∨ s.Active c)
    (hclock : (∀ x ∈ s.hall.sittings, 0 < x.base) → (∃ x ∈ s.hall.sittings, x.number = c.sitting) → c.ClockOk →
      d.consumed ≤ d.entitled ∧ d.restUsed ≤ d.restBudget ∧ 0 < d.entitled) : CandStep s c d := by
  have hnot : ∀ st, (st = .writing ∨ st = .resting ∨ st = .expected ∨ st = .admitted) → d.state ≠ st := by
    intro st hst h
    rw [h] at hidle
    simp only [CandState.idle] at hidle
    obtain rfl | rfl | rfl | rfl := hst <;> simp at hidle
  refine ⟨hnumber, hsitting, fun h => ?_, hbegun, fun hbase hx hok => ?_⟩
  · obtain h | h := h
    · exact absurd h (hnot _ (.inl rfl))
    · exact absurd h (hnot _ (.inr (.inl rfl)))
  · obtain ⟨hconsumed, hrest, hentitled⟩ := hclock hbase hx hok
    refine ⟨hconsumed, hrest, fun h => ?_, fun h => absurd h (hnot _ (.inr (.inl rfl))), fun h => ?_, hentitled⟩
    · obtain h | h := h
      · exact absurd h (hnot _ (.inl rfl))
      · exact absurd h (hnot _ (.inr (.inl rfl)))
    · obtain h | h := h
      · exact absurd h (hnot _ (.inr (.inr (.inl rfl))))
      · exact absurd h (hnot _ (.inr (.inr (.inr rfl))))

/-- The same, where the candidate's clocks stand as they stood. -/
theorem CandStep.toIdle (hnumber : d.number = c.number) (hsitting : d.sitting = c.sitting) (hidle : d.state.idle)
    (hconsumed : d.consumed = c.consumed ∧ d.entitled = c.entitled)
    (hrest : d.restUsed = c.restUsed ∧ d.restBudget = c.restBudget) : CandStep s c d := by
  obtain ⟨hu, he⟩ := hconsumed
  obtain ⟨hr, hb⟩ := hrest
  refine CandStep.ofIdle hnumber hsitting hidle (fun h => .inl (hu ▸ h)) (fun _ _ hok => ?_)
  rw [hu, he, hr, hb]
  exact ⟨hok.consumed, hok.rest, hok.entitled⟩

end Steps

/-! ## Seats released (R37) -/

section Release
variable {s : State} {i : Nat} {c : Cand}

theorem Seat.release_step (x : Seat) : SeatStep x x.release := ⟨rfl, id, id, fun _ => Nat.zero_le 9⟩

theorem State.releaseCand_cand? (hc : s.cand? i = some c) : (s.releaseCand i).cand? i = some { c with seat := none } := by
  cases hseat : c.seat with
  | none =>
    rw [State.releaseCand_of_none hc hseat, hc, ← hseat]
  | some n =>
    rw [State.releaseCand_of_seat hc hseat, State.mapCand_cand?, if_pos rfl, State.mapSeat_cand?, hc]
    rfl

theorem State.releaseCand_moves (s : State) (i : Nat) : Moves s (s.releaseCand i) := by
  cases hc : s.cand? i with
  | none =>
    have hsame : s.releaseCand i = s := by simp only [State.releaseCand, hc, Option.bind_none]
    rw [hsame]
  | some c =>
    cases hseat : c.seat with
    | none => rw [State.releaseCand_of_none hc hseat]
    | some n =>
      rw [State.releaseCand_of_seat hc hseat]
      refine (Move.cand i c { c with seat := none } (fun x => if x.seat = n then x.release else x) hc
        (CandStep.same rfl rfl rfl ⟨rfl, rfl⟩ ⟨rfl, rfl⟩) (fun x => x.release_step.ite)
        (fun _ _ => Reseats.leave rfl (fun x => ?_)) ?_).moves
      · rw [hseat]
        by_cases hn : x.seat = n
        · rw [if_pos hn, hn, if_pos rfl]; rfl
        · rw [if_neg hn, if_neg (fun h => hn (Option.some.inj h).symm)]
      · rw [State.mapCand_tables (s.mapSeat n Seat.release) hc, Sitting.moveCount_self, List.map_id]
        rfl

/-- A release and a change of state go through each other. -/
theorem State.setCandState_releaseCand (hc : s.cand? i = some c) (st : CandState) :
    (s.setCandState i st).releaseCand i = (s.releaseCand i).setCandState i st := by
  have hstate : (s.setCandState i st).cand? i = some { c with state := st } := by
    rw [State.setCandState_of_cand hc]
    simp [hc]
  rw [State.setCandState_of_cand (State.releaseCand_cand? hc)]
  cases hseat : c.seat with
  | none =>
    rw [State.releaseCand_of_none hstate hseat, State.releaseCand_of_none hc hseat, State.setCandState_of_cand hc]
  | some n =>
    rw [State.releaseCand_of_seat hstate hseat, State.releaseCand_of_seat hc hseat, State.setCandState_of_cand hc,
      State.mapCand_mapCand]
    exact congrArg (fun t => State.mapSitting (State.mapSeat t n Seat.release) c.sitting
      (fun x => { x with counts := (x.counts.dec c.state).inc st }))
      (State.mapCand_mapCand s i (fun c => { c with state := st }) (fun c => { c with seat := none }))

/-- A release and a change of a record's other fields go through each other. -/
theorem State.mapCand_releaseCand {g : Cand → Cand} (hseat : ∀ c, (g c).seat = c.seat)
    (hcomm : ∀ c, g { c with seat := none } = { g c with seat := none }) :
    (s.mapCand i g).releaseCand i = (s.releaseCand i).mapCand i g := by
  cases hc : s.cand? i with
  | none => simp [State.releaseCand, hc]
  | some c =>
    have hg : (s.mapCand i g).cand? i = some (g c) := by simp [hc]
    cases hs : c.seat with
    | none => rw [State.releaseCand_of_none hg ((hseat c).trans hs), State.releaseCand_of_none hc hs]
    | some n =>
      rw [State.releaseCand_of_seat hg ((hseat c).trans hs), State.releaseCand_of_seat hc hs, State.mapCand_mapCand]
      refine (congrArg (fun t => State.mapSeat t n Seat.release)
        (State.mapCand_mapCand s i g (fun c => { c with seat := none }))).trans ?_
      have hfun : (fun c => { c with seat := none }) ∘ g = g ∘ (fun c : Cand => { c with seat := none }) :=
        funext (fun c => (hcomm c).symm)
      rw [hfun]
      rfl

/-- A candidate taken out of its seat, and then into a state that has none. -/
theorem State.setCandState_releaseCand_moves (hc : s.cand? i = some c) {st : CandState} (hst : st ≠ c.state) (hidle : st.idle) :
    Moves s ((s.setCandState i st).releaseCand i) := by
  rw [State.setCandState_releaseCand hc]
  refine (s.releaseCand_moves i).trans ?_
  exact ((Retold.refl (State.releaseCand_cand? hc)).setCandState rfl hst).moves_of_unseated
    (CandStep.toIdle rfl rfl hidle ⟨rfl, rfl⟩ ⟨rfl, rfl⟩) rfl

end Release

/-! ## Collection and finishing (R72, R94, R109) -/

section Collection
variable {s t : State} {i : Nat} {c d : Cand}

theorem State.offerCustodyClose_moves (s : State) (i : Nat) (amended : Bool) : Moves s (s.offerCustodyClose i amended) :=
  Moves.ofTables (State.offerCustodyClose_tables ..)

theorem State.collectionTest_moves (s : State) (i : Nat) : Moves s (s.collectionTest i) := by
  cases hc : s.cand? i with
  | none =>
    have hsame : s.collectionTest i = s := by simp [State.collectionTest, State.collectable, hc]
    rw [hsame]
  | some c =>
    by_cases h : c.state = .finished ∧ ∀ e ∈ s.custody, e.cand = some i → e.state ≠ .issued
    · obtain ⟨hstate, hall⟩ := h
      rw [State.collectionTest_of_collectable hc hstate hall]
      refine Moves.trans ?_ ((State.offerCustodyClose_moves ..).trans (State.sittingTests_moves ..))
      have hcollected : s.collected i c.sitting = (s.setCandState i .collected).mapCand i
          (fun y => { y with nilScript := y.nilScript || s.allVoid i }) := by
        rw [State.setCandState_mapCand hc, hstate]
        rfl
      rw [hcollected, State.mapCand_releaseCand (g := fun y => { y with nilScript := y.nilScript || s.allVoid i }) (fun _ => rfl)
        (fun _ => rfl)]
      refine (State.setCandState_releaseCand_moves hc (by rw [hstate]; decide) (.inr (.inl rfl))).trans ?_
      exact State.mapCand_moves_of_same _ _ _ (fun _ => ⟨rfl, rfl, rfl, rfl, rfl, rfl, rfl, rfl⟩)
    · have hsame : s.collectionTest i = s := by
        refine State.collectionTest_of_stays hc ?_
        by_contra hnot
        exact h (by simpa [not_or] using hnot)
      rw [hsame]

/-- A candidate finished, its record as an edit before has left it. -/
theorem Retold.finishCand_moves (h : Retold s t i c d) (hsame : d.state = c.state) (hst : c.state ≠ .finished)
    (hbegun : d.consumed ≠ 0 → c.consumed ≠ 0 ∨ s.Active c)
    (hclock : (∀ x ∈ s.hall.sittings, 0 < x.base) → (∃ x ∈ s.hall.sittings, x.number = c.sitting) → c.ClockOk →
      d.consumed ≤ d.entitled ∧ d.restUsed ≤ d.restBudget ∧ 0 < d.entitled) (cause : FinishCause) :
    Moves s (t.finishCand i cause) := by
  have hfinished := h.setCandState hsame hst.symm
  have hcause := hfinished.mapCand
    (g := fun c => { c with cause := some cause, cuePtr := max c.cuePtr (t.remainingCount d) }) ⟨rfl, rfl, rfl, rfl⟩
  have hshown := (hcause.showCand none).same (State.notifyCollect_tables _ i)
  simp only [State.finishCand, h.cand?]
  refine (hshown.moves (CandStep.ofIdle h.number h.sitting (.inl rfl) hbegun hclock) (fun hgone => ?_)).trans
    ((State.collectionTest_moves ..).trans (State.sittingTests_moves ..))
  simp [CandState.gone] at hgone

/-- A candidate at its paper finished (R72, R94). -/
theorem State.finishCand_moves (hc : s.cand? i = some c) (hstate : c.state = .writing ∨ c.state = .resting) (cause : FinishCause) :
    Moves s (s.finishCand i cause) :=
  (Retold.refl hc).finishCand_moves rfl (by obtain h | h := hstate <;> rw [h] <;> decide) .inl
    (fun _ _ hok => ⟨hok.consumed, hok.rest, hok.entitled⟩) cause

/-- The end of a rest (R22, R73, R90), its record as an edit before has left it. -/
theorem Retold.leaveRest_moves (h : Retold s t i c d) (hsame : d.state = c.state) (hstate : c.state = .resting)
    (hconsumed : d.consumed = c.consumed)
    (hclock : (∀ x ∈ s.hall.sittings, 0 < x.base) → (∃ x ∈ s.hall.sittings, x.number = c.sitting) → c.ClockOk →
      d.consumed < d.entitled ∧ d.restUsed ≤ d.restBudget) (n : Nat) (code : Option DispCode) :
    Moves s (t.leaveRest i n code) := by
  have hwriting := (h.setCandState hsame (st := .writing) (by rw [hstate]; decide)).showCand code
  have hmarked : Retold s (((t.setCandState i .writing).showCand i code).markRestEnded i) i c { d with state := .writing } :=
    hwriting.same rfl
  refine (hmarked.moves ?_ (fun hgone => ?_)).trans (State.sittingTests_moves ..)
  · refine ⟨h.number, h.sitting, fun _ => .inl (.inr hstate), fun hne => .inl (hconsumed ▸ hne), fun hbase hx hok => ?_⟩
    obtain ⟨hlt, hrest⟩ := hclock hbase hx hok
    exact ⟨hlt.le, hrest, fun _ => hlt, nofun, fun h => by simp at h, Nat.zero_lt_of_lt hlt⟩
  · simp [CandState.gone] at hgone

theorem State.leaveRest_moves (hc : s.cand? i = some c) (hstate : c.state = .resting) (n : Nat) (code : Option DispCode) :
    Moves s (s.leaveRest i n code) :=
  (Retold.refl hc).leaveRest_moves rfl hstate rfl
    (fun _ _ hok => ⟨hok.writing (.inr hstate), hok.rest⟩) n code

end Collection

end Sys2Proof.Machine
end

section
/-! SUPPORT. The moves of the seat line, of the clocks and of the hall second. -/

namespace Sys2Proof.Machine

/-! ## Candidates picked by a test -/

section Indexes
variable (s : State) (q : Cand → Bool)

theorem State.mem_indexesWhere (i : Nat) : i ∈ s.indexesWhere q ↔ ∃ c, s.cand? i = some c ∧ q c = true := by
  simp only [State.indexesWhere, List.mem_map, List.mem_filter, Prod.exists, List.mem_zipIdx_iff_getElem?, State.cand?]
  constructor
  · rintro ⟨c, j, ⟨hc, hq⟩, rfl⟩
    exact ⟨c, hc, hq⟩
  · rintro ⟨c, hc, hq⟩
    exact ⟨c, i, ⟨hc, hq⟩, rfl⟩

theorem State.indexesWhere_sorted : (s.indexesWhere q).Pairwise (· < ·) := by
  have hall : (s.hall.cands.zipIdx.map (fun p => p.2)).Pairwise (· < ·) := by
    have hrange : s.hall.cands.zipIdx.map (fun p => p.2) = List.range' 0 s.hall.cands.length := List.zipIdx_map_snd ..
    rw [hrange]
    exact List.pairwise_lt_range'
  exact hall.sublist (List.filter_sublist.map _)

theorem State.indexesWhere_nodup : (s.indexesWhere q).Nodup :=
  (s.indexesWhere_sorted q).imp (fun h => Nat.ne_of_lt h)

theorem State.mem_candsIn (n : Nat) (st : CandState) (i : Nat) :
    i ∈ s.candsIn n st ↔ ∃ c, s.cand? i = some c ∧ c.sitting = n ∧ c.state = st := by
  simp [State.candsIn, State.mem_indexesWhere]

theorem State.candsIn_nodup (n : Nat) (st : CandState) : (s.candsIn n st).Nodup := s.indexesWhere_nodup _

end Indexes

/-- Distinct candidates gone through, each as it stood before: a run of moves. -/
theorem Moves.foldl_cands {f : State → Nat → State} {P : State → Prop} {q : Cand → Prop}
    (hf : ∀ s i c, P s → s.cand? i = some c → q c →
      Moves s (f s i) ∧ P (f s i) ∧ ∀ j, j ≠ i → (f s i).cand? j = s.cand? j)
    (l : List Nat) : ∀ s, l.Nodup → P s → (∀ i ∈ l, ∃ c, s.cand? i = some c ∧ q c) → Moves s (l.foldl f s) := by
  induction l with
  | nil => exact fun _ _ _ _ => .refl
  | cons i l ih =>
    intro s hnodup hP hl
    obtain ⟨hi, hnodup⟩ := List.nodup_cons.mp hnodup
    obtain ⟨c, hc, hqc⟩ := hl i List.mem_cons_self
    obtain ⟨hmoves, hP', hothers⟩ := hf s i c hP hc hqc
    refine hmoves.trans (ih (f s i) hnodup hP' (fun j hj => ?_))
    obtain ⟨d, hd, hqd⟩ := hl j (List.mem_cons_of_mem _ hj)
    exact ⟨d, (hothers j (fun h => hi (h ▸ hj))).trans hd, hqd⟩

theorem Retold.others {s t : State} {i : Nat} {c d : Cand} (h : Retold s t i c d) {j : Nat} (hj : j ≠ i) :
    t.cand? j = s.cand? j := by
  obtain ⟨f, -, htables⟩ := h.tables
  rw [State.cand?_of_set h.found (State.cands_of_tables htables), if_neg (Ne.symm hj)]

/-- A record retold leaves every sitting's state. -/
theorem Retold.sitting_state {s t : State} {i : Nat} {c d : Cand} (h : Retold s t i c d) {n : Nat} {st : SittingState}
    (hx : ∃ x ∈ s.hall.sittings, x.number = n ∧ x.state = st) : ∃ x ∈ t.hall.sittings, x.number = n ∧ x.state = st := by
  obtain ⟨f, -, -, -, hsittings, -⟩ := h.parts
  obtain ⟨x, hx, hn, hstate⟩ := hx
  refine ⟨x.moveCount c.sitting c.state d.state, hsittings ▸ List.mem_map_of_mem hx, (Sitting.moveCount_number ..).trans hn, ?_⟩
  rw [← hstate]
  unfold Sitting.moveCount
  split <;> rfl

/-! ## The close of admission (R68) -/

section Doors
variable {s : State} {i : Nat} {c : Cand}

theorem State.releaseCand_others (s : State) (i : Nat) {j : Nat} (hj : j ≠ i) : (s.releaseCand i).cand? j = s.cand? j := by
  unfold State.releaseCand
  split
  · rfl
  · rw [State.mapCand_cand?, if_neg (Ne.symm hj), State.mapSeat_cand?]

theorem State.makeAbsent_moves (hc : s.cand? i = some c) (hstate : c.state = .expected) : Moves s (s.makeAbsent i) :=
  State.setCandState_releaseCand_moves hc (by rw [hstate]; decide) (.inr (.inr (.inl rfl)))

theorem State.makeAbsent_others (hc : s.cand? i = some c) {j : Nat} (hj : j ≠ i) : (s.makeAbsent i).cand? j = s.cand? j := by
  rw [State.makeAbsent, State.releaseCand_others _ _ hj, State.setCandState_of_cand hc, State.mapSitting_cand?,
    State.mapCand_cand?, if_neg (Ne.symm hj)]

theorem State.closeDoors_moves (s : State) (n : Nat) : Moves s (s.closeDoors n) := by
  have hclosed : Moves s (s.mapSitting n (fun x => { x with admission := false })) :=
    s.mapSitting_moves_of_same n (fun _ => ⟨rfl, rfl, rfl⟩) (fun _ => SittingStep.same rfl rfl rfl ⟨rfl, rfl⟩)
  refine hclosed.trans (Moves.foldl_cands (P := fun _ => True) (q := fun c => c.state = .expected)
    (fun s i c _ hc hq => ⟨State.makeAbsent_moves hc hq, trivial, fun j hj => State.makeAbsent_others hc hj⟩) _ _
    (State.candsIn_nodup ..) trivial (fun i hi => ?_))
  obtain ⟨c, hc, -, hstate⟩ := (State.mem_candsIn _ n .expected i).mp hi
  exact ⟨c, hc, hstate⟩

theorem State.closeAdmission_moves (s : State) (n : Nat) : Moves s (s.closeAdmission n) :=
  (s.closeDoors_moves n).trans (State.sittingTests_moves ..)

end Doors

/-! ## Elapsed cues (R66, R67, R68) -/

section Elapsed
variable (s : State) (n : Nat)

theorem State.writeGroupCode_moves (c : DispCode) : Moves s (s.writeGroupCode n c) := by
  refine Moves.foldl (fun s x => ?_) _ s
  unfold State.showSeatCode
  split
  · exact .refl
  · exact s.showAt_moves ..

theorem State.elapsedEffect_moves {close : State → Nat → State} (hclose : ∀ s n, Moves s (close s n)) (q : Cue) :
    Moves s (State.elapsedEffect close s n q) := by
  simp only [State.elapsedEffect]
  refine Moves.trans ?_ (Moves.ofTables (State.notifyDesks_tables ..))
  split
  · exact hclose s n
  · exact s.mapSitting_moves_of_same n (fun _ => ⟨rfl, rfl, rfl⟩) (fun _ => SittingStep.same rfl rfl rfl ⟨rfl, rfl⟩)
  · exact (s.writeGroupCode_moves n _).trans (Moves.ofTables (State.queueFrame_tables ..))
  · exact .refl
  · exact .refl

theorem State.passElapsed_moves : Moves s (s.passElapsed n) :=
  s.mapSitting_moves_of_same n (fun _ => ⟨rfl, rfl, rfl⟩) (fun _ => SittingStep.same rfl rfl rfl ⟨rfl, rfl⟩)

theorem State.fireElapsed_moves (q : Cue) : Moves s (State.fireElapsed n s q) := by
  unfold State.fireElapsed
  repeat' split
  · exact (s.passElapsed_moves n).trans (State.elapsedEffect_moves _ n State.closeAdmission_moves q)
  · exact .refl
  · exact .refl

theorem State.fireAtStart_moves (q : Cue) : Moves s (State.fireAtStart n s q) :=
  (s.passElapsed_moves n).trans (State.elapsedEffect_moves _ n State.closeDoors_moves q)

theorem State.fireDueElapsed_moves {fire : Nat → State → Cue → State} (hfire : ∀ s n q, Moves s (fire n s q)) :
    Moves s (State.fireDueElapsed fire s n) := by
  unfold State.fireDueElapsed
  split
  · exact Moves.foldl (fun s q => hfire s n q) _ s
  · exact .refl

end Elapsed

/-! ## The start of writing (R66) -/

section Start
variable {s : State} {n i : Nat} {c : Cand}

theorem State.beginWriting_retold (hc : s.cand? i = some c) (hstate : c.state = .admitted) :
    Retold s (State.beginWriting n s i) i c { c with state := .writing, consumed := 0 } := by
  have hset := ((Retold.refl hc).setCandState rfl (st := .writing) (by rw [hstate]; decide)).mapCand
    (g := fun c => { c with consumed := 0 }) ⟨rfl, rfl, rfl, rfl⟩
  exact (hset.same (State.joinSecond_tables _ i n)).showCand none

theorem State.beginWriting_moves (hc : s.cand? i = some c) (hstate : c.state = .admitted) (hsitting : c.sitting = n)
    (hx : ∃ x ∈ s.hall.sittings, x.number = n ∧ x.state = .writing) : Moves s (State.beginWriting n s i) := by
  refine (State.beginWriting_retold hc hstate).moves
    ⟨rfl, rfl, fun _ => .inr (hsitting ▸ hx), fun h => absurd rfl h, fun _ _ hok => ?_⟩ (fun h => by simp [CandState.gone] at h)
  exact ⟨Nat.zero_le _, hok.rest, fun _ => hok.entitled, nofun, fun _ => rfl, hok.entitled⟩

theorem State.startOfWriting_moves {x : Sitting} (hx : s.sitting? n = some x) : Moves s (s.startOfWriting n) := by
  obtain ⟨hmem, hnumber⟩ := State.mem_of_sitting? hx
  have hwriting : Moves s (s.mapSitting n (fun x => { x with state := .writing, sel := 0 })) :=
    s.mapSitting_moves_of_same n (fun _ => ⟨rfl, rfl, rfl⟩) (fun _ => ⟨id, fun _ => Nat.zero_le _, id, fun _ => .inl rfl,
      fun h => absurd h SittingState.not_early_writing⟩)
  have hin : ∃ y ∈ (s.mapSitting n (fun x => { x with state := .writing, sel := 0 })).hall.sittings,
      y.number = n ∧ y.state = .writing := by
    refine ⟨_, List.mem_map_of_mem hmem, ?_⟩
    rw [if_pos hnumber]
    exact ⟨hnumber, rfl⟩
  have hbegin := Moves.foldl_cands (f := State.beginWriting n)
    (P := fun s => ∃ y ∈ s.hall.sittings, y.number = n ∧ y.state = .writing)
    (q := fun c => c.sitting = n ∧ c.state = .admitted)
    (fun s i c hP hc ⟨hsitting, hstate⟩ => ⟨State.beginWriting_moves hc hstate hsitting hP,
      (State.beginWriting_retold hc hstate).sitting_state hP, fun j hj => (State.beginWriting_retold hc hstate).others hj⟩)
    _ _ (State.candsIn_nodup _ n .admitted) hin (fun i hi => (State.mem_candsIn _ n .admitted i).mp hi)
  have hexit : ∀ u : State, Moves u (u.mapSitting n (fun x => { x with exitOpen := x.exitOpen || !x.hasCue .exitOpen })) :=
    fun u => u.mapSitting_moves_of_same n (fun _ => ⟨rfl, rfl, rfl⟩) (fun _ => SittingStep.same rfl rfl rfl ⟨rfl, rfl⟩)
  exact hwriting.trans (hbegin.trans ((hexit _).trans
    ((State.fireDueElapsed_moves _ n (fun s n q => s.fireAtStart_moves n q)).trans (State.sittingTests_moves ..))))

end Start

/-! ## A second at a sitting (R65, R67, R77) -/

section SittingSecond
variable {s : State} {n : Nat} {x : Sitting}

theorem State.heldSecond_moves (s : State) (x : Sitting) : Moves s (s.heldSecond x) := by
  have hsame : ∀ (u : State) (f : Sitting → Sitting), (∀ y, (f y).number = y.number ∧ (f y).enrolled = y.enrolled
      ∧ (f y).counts = y.counts) → (∀ y, SittingStep y (f y)) → Moves u (u.mapSitting x.number f) :=
    fun u _ hkeys hstep => u.mapSitting_moves_of_same x.number hkeys hstep
  have hcount := hsame s (fun y => { y with pauseAcc := x.pauseAcc + 1 }) (fun _ => ⟨rfl, rfl, rfl⟩)
    (fun _ => SittingStep.same rfl rfl rfl ⟨rfl, rfl⟩)
  simp only [State.heldSecond]
  split
  · refine hcount.trans ((hsame _ (fun y => { y with disrupted := true }) (fun _ => ⟨rfl, rfl, rfl⟩)
      (fun _ => SittingStep.same rfl rfl rfl ⟨rfl, rfl⟩)).trans (Moves.ofTables ?_))
    rw [State.notify_tables, State.offer_tables]
  · exact hcount

theorem State.readingSecond_moves (hx : s.sitting? x.number = some x) : Moves s (s.readingSecond x) := by
  have hcount : Moves s (s.mapSitting x.number (fun y => { y with elapsedReading := x.elapsedReading + 1 })) :=
    s.mapSitting_moves_of_same x.number (fun _ => ⟨rfl, rfl, rfl⟩) (fun _ => SittingStep.same rfl rfl rfl ⟨rfl, rfl⟩)
  simp only [State.readingSecond]
  split
  · refine hcount.trans (State.startOfWriting_moves (x := { x with elapsedReading := x.elapsedReading + 1 }) ?_)
    rw [State.mapSitting_sitting? s x.number x.number (fun y => { y with elapsedReading := x.elapsedReading + 1 })
      (fun _ => rfl), if_pos rfl, hx, Option.map_some]
  · exact hcount

theorem State.defaultClose_moves (s : State) (n : Nat) : Moves s (s.defaultClose n) := by
  unfold State.defaultClose
  repeat' split
  · exact s.closeAdmission_moves n
  · exact .refl
  · exact .refl

theorem State.writingSecond_moves (hx : s.sitting? x.number = some x) : Moves s (s.writingSecond x) := by
  unfold State.writingSecond
  split
  · next hsel =>
    have hbound : x.sel < 57600 := hsel
    have hcount : Moves s (s.mapSitting x.number (fun y => { y with sel := y.sel + 1 })) :=
      s.mapSitting_moves_of_found hx (fun _ => ⟨rfl, rfl, rfl⟩)
        ⟨id, fun _ => Nat.succ_le_of_lt hbound, id, .inl, id⟩
    exact hcount.trans ((State.fireDueElapsed_moves _ _ (fun s n q => s.fireElapsed_moves n q)).trans
      (State.defaultClose_moves ..))
  · exact .refl

theorem State.tickSitting_moves (s : State) (n : Nat) : Moves s (s.tickSitting n) := by
  cases hx : s.sitting? n with
  | none => simp only [State.tickSitting, hx]; exact .refl
  | some x =>
    obtain rfl : x.number = n := State.number_of_sitting? hx
    simp only [State.tickSitting, hx]
    split
    · exact State.readingSecond_moves hx
    · exact State.writingSecond_moves hx
    · exact s.heldSecond_moves x
    · exact s.heldSecond_moves x
    · exact .refl

end SittingSecond

/-! ## A second at a candidate (R70 to R73) and at a seat (R55) -/

section CandSecond
variable {s : State} {i : Nat} {c : Cand}

theorem State.fireRemaining_moves (i : Nat) (s : State) (q : Cue) : Moves s (State.fireRemaining i s q) := by
  have hpass := s.mapCand_moves_of_same i (fun c => { c with cuePtr := c.cuePtr + 1 })
    (fun _ => ⟨rfl, rfl, rfl, rfl, rfl, rfl, rfl, rfl⟩)
  simp only [State.fireRemaining]
  split
  · exact hpass.trans (State.showCand_moves ..)
  · exact hpass.trans (State.showCand_moves ..)
  · exact hpass.trans ((State.mapCand_moves_of_same _ i (fun c => { c with exitClosed := true })
      (fun _ => ⟨rfl, rfl, rfl, rfl, rfl, rfl, rfl, rfl⟩)).trans (State.showCand_moves ..))
  · exact hpass
  · exact hpass

theorem State.consume_moves (hc : s.cand? i = some c) (hstate : c.state = .writing) : Moves s (s.consume i c) := by
  have hretold := (Retold.refl hc).mapCand (g := fun d => { d with consumed := c.consumed + 1 }) ⟨rfl, rfl, rfl, rfl⟩
  simp only [State.consume]
  split
  · next hend =>
    refine hretold.finishCand_moves rfl (by rw [hstate]; decide) (fun _ => .inr (.inl (.inl hstate))) (fun _ _ hok => ?_) _
    exact ⟨hend.le, hok.rest, hok.entitled⟩
  · next hend =>
    have hcount : Moves s (s.mapCand i (fun d => { d with consumed := c.consumed + 1 })) := by
      refine hretold.moves ⟨rfl, rfl, fun _ => .inl (.inl hstate), fun _ => .inr (.inl (.inl hstate)), fun _ _ hok => ?_⟩ id
      have hlt : c.consumed + 1 < c.entitled := Nat.lt_of_le_of_ne (hok.writing (.inl hstate)) hend
      exact ⟨hlt.le, hok.rest, fun _ => hlt, hok.resting, fun h => by simp [hstate] at h, hok.entitled⟩
    have hcues := hcount.trans (Moves.foldl (State.fireRemaining_moves i) (s.cuesDue c (c.entitled - (c.consumed + 1))) _)
    split
    · exact hcues.trans (State.showCand_moves ..)
    · exact hcues

theorem State.restSecond_moves (hc : s.cand? i = some c) (hstate : c.state = .resting) : Moves s (s.restSecond i c) := by
  have hretold := (Retold.refl hc).mapCand (g := fun d => { d with restUsed := c.restUsed + 1 }) ⟨rfl, rfl, rfl, rfl⟩
  simp only [State.restSecond]
  split
  · next hend =>
    exact hretold.leaveRest_moves rfl hstate rfl (fun _ _ hok => ⟨hok.writing (.inr hstate), hend.le⟩) _ _
  · next hend =>
    refine hretold.moves ⟨rfl, rfl, fun _ => .inl (.inr hstate), .inl, fun _ _ hok => ?_⟩ id
    have hlt : c.restUsed + 1 < c.restBudget := Nat.lt_of_le_of_ne (hok.resting hstate) hend
    exact ⟨hok.consumed, hlt.le, hok.writing, fun _ => hlt, hok.fresh, hok.entitled⟩

theorem State.tickCand_moves (s : State) (i : Nat) : Moves s (s.tickCand i) := by
  cases hc : s.cand? i with
  | none => simp only [State.tickCand, hc]; exact .refl
  | some c =>
    simp only [State.tickCand, hc]
    split
    · next hstate _ =>
      split
      · exact .refl
      · exact State.consume_moves hc hstate
    · next hstate _ => exact State.restSecond_moves hc hstate
    · exact .refl

theorem State.tickSeat_moves (s : State) (n : Nat) : Moves s (s.tickSeat n) :=
  s.mapSeat_moves n (fun x => by
    split
    · next h => exact ⟨rfl, fun _ => Nat.succ_le_of_lt h.2, id, id⟩
    · exact SeatStep.refl x) (fun x => by split <;> rfl)

end CandSecond

/-! ## The hall second (R1) -/

section Second
variable (s : State)

theorem State.second_moves (k : TickKey) : Moves s (s.second k) := by
  unfold State.second
  split
  · exact .refl
  · refine Moves.trans (Moves.ofTables (t := s.markAhead k) rfl) ?_
    cases k with
    | sitting n => exact State.tickSitting_moves ..
    | cand i => exact State.tickCand_moves ..
    | seat n => exact State.tickSeat_moves ..

theorem State.early_moves (k : TickKey) (arises : Bool) : Moves s (s.early k arises) := by
  unfold State.early
  split
  · exact s.second_moves k
  · exact .refl

theorem State.hallSecond_moves : Moves s s.hallSecond := by
  have hclock : ∀ u : State, Moves u { u with clock := { u.clock with ahead := [], restEnded := [] } } :=
    fun u => Moves.ofTables rfl
  have htime : Moves s { s with hall := { s.hall with time := nextTime s.hall.time } } := Moves.ofTables rfl
  exact htime.trans ((Moves.foldl (fun s n => s.second_moves (.sitting n)) _ _).trans
    ((Moves.foldl (fun s i => s.second_moves (.cand i)) _ _).trans
      ((Moves.foldl (fun s n => s.second_moves (.seat n)) _ _).trans (hclock _))))

end Second

end Sys2Proof.Machine
end

section
/-! SUPPORT. The moves of the seat line, of the allocation and of the candidates' conduct. -/

namespace Sys2Proof.Machine

/-! ## The seat line (R44, R48, R52 to R57) -/

section Line
variable (s : State) (n : Nat)

theorem State.setLine_moves (c : LineCond) : Moves s (s.setLine c) := Moves.ofTables rfl

theorem State.leaveInbox_moves : Moves s s.leaveInbox := Moves.ofTables rfl

theorem State.quietZero_moves : Moves s (s.quietZero n) :=
  s.mapSeat_moves n (fun _ => ⟨rfl, fun _ => Nat.zero_le 8, id, id⟩) (fun _ => rfl)

theorem State.seatPresent_moves : Moves s (s.seatPresent n) := by
  unfold State.seatPresent
  split
  · exact .refl
  · split
    · exact (s.mapSeat_moves n (f := fun y => { y with miss := 0, service := .inService, faultMark := none })
        (fun _ => ⟨rfl, id, fun _ => Nat.zero_le 3, id⟩) (fun _ => rfl)).trans (Moves.ofTables (State.notifyZone_tables ..))
    · exact s.mapSeat_moves n (fun _ => ⟨rfl, id, fun _ => Nat.zero_le 3, id⟩) (fun _ => rfl)

theorem State.seatMiss_moves : Moves s (s.seatMiss n) := by
  unfold State.seatMiss
  split
  · exact .refl
  · split
    · exact (s.mapSeat_moves n (f := fun y => { y with miss := 3, service := .faulty, faultMark := some s.hall.time })
        (fun _ => ⟨rfl, id, fun _ => le_refl 3, id⟩) (fun _ => rfl)).trans (Moves.ofTables (State.notifyZone_tables ..))
    · exact s.mapSeat_moves n (fun _ => ⟨rfl, id, fun _ => min_le_left .., id⟩) (fun _ => rfl)

/-- A change of a seat's other fields. -/
theorem State.mapSeat_moves_of_same {f : Seat → Seat} (hf : ∀ x, (f x).seat = x.seat ∧ (f x).quiet = x.quiet
    ∧ (f x).miss = x.miss ∧ (f x).keys = x.keys ∧ (f x).occupant = x.occupant) : Moves s (s.mapSeat n f) :=
  s.mapSeat_moves n (fun x => by
    obtain ⟨hseat, hquiet, hmiss, hkeys, -⟩ := hf x
    exact ⟨hseat, by rw [hquiet]; exact id, by rw [hmiss]; exact id, by rw [hkeys]; exact id⟩) (fun x => (hf x).2.2.2.2)

theorem State.frameAcked_moves (k : FrameKind) : Moves s (s.frameAcked n k) := by
  simp only [State.frameAcked]
  split
  · exact (s.seatPresent_moves n).trans ((State.mapSeat_moves_of_same _ n
      (f := fun x => { x with unitGroup := unitGroupOf _ }) (fun _ => ⟨rfl, rfl, rfl, rfl, rfl⟩)).trans (Moves.ofTables rfl))
  · exact s.seatPresent_moves n

theorem State.frameNacked_moves (k : FrameKind) : Moves s (s.frameNacked n k) := by
  have howed : ∀ u : State, Moves u (u.mapSeat n (fun x => { x with owed := true })) :=
    fun u => u.mapSeat_moves_of_same n (fun _ => ⟨rfl, rfl, rfl, rfl, rfl⟩)
  simp only [State.frameNacked]
  split
  · exact (s.seatMiss_moves n).trans ((howed _).trans (Moves.ofTables rfl))
  · exact (s.seatMiss_moves n).trans (howed _)
  · exact s.seatMiss_moves n

theorem State.serveSeats_moves : Moves s s.serveSeats := by
  simp only [State.serveSeats]
  split
  · exact (s.mapSeat_moves_of_same _ (f := fun y => { y with owed := false }) (fun _ => ⟨rfl, rfl, rfl, rfl, rfl⟩)).trans
      (Moves.ofTables rfl)
  · split
    · exact Moves.ofTables rfl
    · exact .refl

theorem State.arbiterStart_moves : Moves s s.arbiterStart := by
  unfold State.arbiterStart
  split
  · exact Moves.ofTables rfl
  · split
    · exact Moves.ofTables rfl
    · exact s.serveSeats_moves

theorem State.helloAt_moves (bits : Nat) : Moves s (s.helloAt n bits) := by
  have hstored := s.mapSeat_moves_of_same n (f := fun y => { y with unitFaults := bits, unitGroup := .unknown, owed := true })
    (fun _ => ⟨rfl, rfl, rfl, rfl, rfl⟩)
  unfold State.helloAt
  split
  · exact .refl
  · dsimp only
    split
    · exact hstored
    · exact hstored.trans (Moves.ofTables (State.notifyZone_tables ..))

theorem State.clearKeys_moves : Moves s (s.clearKeys n) :=
  s.mapSeat_moves n (fun _ => ⟨rfl, id, id, fun _ => Nat.zero_le 9⟩) (fun _ => rfl)

end Line

/-! ## Seats filled (R30, R36, R88) -/

section Place
variable {s t : State} {i n : Nat} {c d : Cand}

/-- What a placement does to a seat's record. -/
def Seat.placed (i : Nat) (content : Display → Display) (x : Seat) : Seat :=
  { x with occupant := some i, keys := [], display := content x.display, owed := true }

theorem Seat.placed_step (i : Nat) (content : Display → Display) (x : Seat) : SeatStep x (x.placed i content) :=
  ⟨rfl, id, id, fun _ => Nat.zero_le 9⟩

theorem State.place_cand (hc : s.cand? i = some c) (content : Display → Display) :
    (s.place i n content).cand? i = some { c with seat := some n } := by
  rw [State.place_cand?, if_pos rfl, hc, Option.map_some]

theorem State.place_tables (hc : s.cand? i = some c) (content : Display → Display) : (s.place i n content).tables =
    { s.tables with seats := s.hall.seats.map (fun x => if x.seat = n then x.placed i content else x)
                    cands := s.hall.cands.set i { c with seat := some n } } :=
  State.mapCand_tables (s.mapSeat n (Seat.placed i content)) hc _

/-- A candidate without a seat placed on a free one, its record then retold: one move. -/
theorem Retold.place_moves (hc : s.cand? i = some c) {content : Display → Display}
    (h : Retold (s.place i n content) t i { c with seat := some n } d) (hstep : CandStep s c d)
    (hnone : s.TablesOrdered → s.OccupancyAgrees → c.seat = none)
    (hfree : ∃ x ∈ s.hall.seats, x.seat = n ∧ x.occupant = none) (hgone : s.TablesOrdered → ¬ d.state.gone) :
    Moves s t := by
  obtain ⟨f, hf, htables⟩ := h.tables
  have hplaced := State.place_tables (n := n) hc content
  refine (Move.cand i c d (f ∘ fun x => if x.seat = n then x.placed i content else x) hc hstep (fun x => ?_)
    (fun hordered hocc => ⟨fun h => absurd h (hgone hordered), fun x _ => ?_, fun _ m hm => ?_⟩) ?_).moves
  · have hx : SeatStep x (if x.seat = n then x.placed i content else x) := (x.placed_step i content).ite
    have hf' := hf.1 (if x.seat = n then x.placed i content else x)
    exact ⟨hf'.seat.trans hx.seat, hf'.quiet ∘ hx.quiet, hf'.miss ∘ hx.miss, hf'.keys ∘ hx.keys⟩
  · rw [Function.comp_apply, hf.2, hnone hordered hocc, h.seat]
    by_cases hx : x.seat = n
    · rw [if_pos hx, reseated_of_taken (by simp) (by rw [hx])]
      rfl
    · rw [if_neg hx, reseated_of_other (fun he => hx (Option.some.inj he).symm) (by simp)]
  · rw [h.seat] at hm
    obtain rfl := Option.some.inj hm
    exact hfree
  · rw [htables, hplaced, State.seats_of_tables hplaced, State.sittings_of_tables hplaced, State.cands_of_tables hplaced,
      List.map_map, List.set_set]
    rfl

/-- A candidate without a seat placed on a free one (R30). -/
theorem State.place_moves (hc : s.cand? i = some c) (content : Display → Display)
    (hnone : s.TablesOrdered → s.OccupancyAgrees → c.seat = none)
    (hfree : ∃ x ∈ s.hall.seats, x.seat = n ∧ x.occupant = none) (hgone : s.TablesOrdered → ¬ c.state.gone) :
    Moves s (s.place i n content) :=
  (Retold.refl (State.place_cand hc content)).place_moves hc (CandStep.same rfl rfl rfl ⟨rfl, rfl⟩ ⟨rfl, rfl⟩) hnone hfree hgone

/-- A candidate taken from its seat and placed on a free one (R36). -/
theorem State.release_place_moves (hc : s.cand? i = some c) {m : Nat} (hseat : c.seat = some m) (content : Display → Display)
    (hfree : ∃ x ∈ s.hall.seats, x.seat = n ∧ x.occupant = none) (hgone : ¬ c.state.gone) :
    Moves s ((s.mapSeat m Seat.release).place i n content) := by
  refine (Move.cand i c { c with seat := some n }
    ((fun x => if x.seat = n then x.placed i content else x) ∘ fun x => if x.seat = m then x.release else x) hc
    (CandStep.same rfl rfl rfl ⟨rfl, rfl⟩ ⟨rfl, rfl⟩) (fun x => ?_)
    (fun hordered hocc => ⟨fun h => absurd h hgone, fun x hx => ?_, fun _ k hk => Option.some.inj hk ▸ hfree⟩) ?_).moves
  · have hx : SeatStep x (if x.seat = m then x.release else x) := x.release_step.ite
    have hy : SeatStep (if x.seat = m then x.release else x)
        (if (if x.seat = m then x.release else x).seat = n then (if x.seat = m then x.release else x).placed i content
          else if x.seat = m then x.release else x) := (Seat.placed_step i content _).ite
    exact ⟨hy.seat.trans hx.seat, hy.quiet ∘ hx.quiet, hy.miss ∘ hx.miss, hy.keys ∘ hx.keys⟩
  · have hne : some n ≠ c.seat := by
      intro he
      obtain ⟨y, hy, hyn, hyocc⟩ := hocc.cands i c n hc he.symm
      obtain ⟨z, hz, hzn, hzfree⟩ := hfree
      rw [hordered.seat_unique hz hy (hzn.trans hyn.symm), hyocc] at hzfree
      cases hzfree
    have hnumber : (if x.seat = m then x.release else x).seat = x.seat := by split <;> rfl
    simp only [Function.comp_apply, hnumber]
    by_cases hxn : x.seat = n
    · rw [if_pos hxn, reseated_of_taken hne (by rw [hxn])]
      rfl
    · rw [if_neg hxn]
      by_cases hxm : x.seat = m
      · rw [if_pos hxm, reseated_of_left hne (fun he => hxn (Option.some.inj he).symm) (by rw [hseat, hxm])]
        rfl
      · rw [if_neg hxm, reseated_of_other (fun he => hxn (Option.some.inj he).symm)
          (fun he => hxm (Option.some.inj (hseat.symm.trans he)).symm)]
  · rw [State.place_tables (s := s.mapSeat m Seat.release) hc, Sitting.moveCount_self, List.map_id, ← List.map_map]
    rfl

end Place

/-! ## The allocation (R25 to R33) -/

section Allocation
variable {s : State} {n : Nat}

theorem State.inFlight_moves (s : State) (n : Nat) (b : Bool) :
    Moves s (s.mapSitting n (fun x => { x with inFlight := b })) :=
  s.mapSitting_moves_of_same n (fun _ => ⟨rfl, rfl, rfl⟩) (fun _ => SittingStep.same rfl rfl rfl ⟨rfl, rfl⟩)

theorem State.endRun_moves (s : State) (n : Nat) (aborted : Bool) : Moves s (s.endRun n aborted) :=
  (s.inFlight_moves n false).trans (Moves.ofTables rfl)

theorem State.endIfDone_moves (s : State) (n : Nat) : Moves s (s.endIfDone n) := by
  unfold State.endIfDone
  split
  · exact s.endRun_moves n false
  · exact .refl

/-- The seat a search of the zones finds is a seat of the map, and free. -/
theorem State.free_of_tryZones {zones js : List Nat} {a v : Alloc} {m j : Nat}
    (h : s.tryZones n zones js a = (some (m, j), v)) : ∃ x ∈ s.hall.seats, x.seat = m ∧ x.occupant = none := by
  induction js generalizing a with
  | nil => cases h
  | cons k js ih =>
    rw [State.tryZones] at h
    split at h
    · exact ih h
    · dsimp only at h
      split at h
      · next found hfound =>
        obtain ⟨y, hy, hym, hq⟩ := State.qualifies_of_searchFrom (Prod.ext hfound rfl)
        obtain ⟨⟨rfl, -⟩, -⟩ : (found = m ∧ k = j) ∧ _ := by simpa using h
        have hmem : y ∈ s.serpentine (zones.getD k 0) := List.mem_of_mem_drop hy
        have hseat : y ∈ s.hall.seats := (List.mem_filter.mp ((s.serpentine_perm _).mem_iff.mp hmem)).1
        refine ⟨y, hseat, hym, ?_⟩
        simp only [State.qualifies, Bool.and_eq_true, Option.isNone_iff_eq_none] at hq
        exact hq.1.1.1
      · exact ih h

theorem State.TablesOrdered.cand_unique (h : s.TablesOrdered) {c d : Cand} (hc : c ∈ s.hall.cands) (hd : d ∈ s.hall.cands)
    (hn : c.number = d.number) : c = d := by
  have hnodup : (s.hall.cands.map (·.number)).Nodup := List.pairwise_map.mpr h.numbers
  exact List.inj_on_of_nodup_map hnodup hc hd hn

theorem Cand.awaits_iff (c : Cand) (pass : Pass) (after : Nat) : c.awaits n pass after = true ↔
    c.sitting = n ∧ c.state = .expected ∧ c.seat = none ∧ c.access = decide (pass = .access) ∧ after < c.number := by
  simp [Cand.awaits, and_assoc]

theorem State.giveTurn_moves {x : Sitting} {c : Cand} {a : Alloc} {pass : Pass} {after : Nat} (hc : c ∈ s.hall.cands)
    (hawaits : c.awaits x.number pass after = true) : Moves s (s.giveTurn x c a) := by
  obtain ⟨-, hstate, hnone, -, -⟩ := (Cand.awaits_iff c pass after).mp hawaits
  unfold State.giveTurn
  dsimp only
  split
  · next m j v hfound =>
    unfold State.placeTurn
    refine Moves.trans (t := match s.findCand c.number with
      | some i => s.place i m (fun d => d.placedFor c)
      | none => s) ?_ (Moves.ofTables rfl)
    split
    · next i hi =>
      obtain ⟨hlt, -, -⟩ := List.findIdx?_eq_some_iff_getElem.mp hi
      have hd : s.cand? i = some s.hall.cands[i] := List.getElem?_eq_getElem hlt
      have hsame : s.TablesOrdered → s.hall.cands[i] = c := fun hordered =>
        hordered.cand_unique (List.getElem_mem hlt) hc (State.number_of_findCand hi hd)
      have hexpected : s.TablesOrdered → s.hall.cands[i].state = .expected := fun hordered => by rw [hsame hordered, hstate]
      exact State.place_moves hd _ (fun hordered _ => by rw [hsame hordered, hnone]) (State.free_of_tryZones hfound)
        (fun hordered hgone => by simp [hexpected hordered, CandState.gone] at hgone)
    · exact .refl
  · exact Moves.ofTables rfl

theorem State.allocationTurn_moves (s : State) : Moves s s.allocationTurn := by
  unfold State.allocationTurn
  split
  · dsimp only
    split
    · next c hc =>
      obtain ⟨hmem, hawaits⟩ := State.mem_of_nextTurn hc
      exact (State.giveTurn_moves hmem hawaits).trans (State.endIfDone_moves ..)
    · exact s.endRun_moves ..
  · exact .refl

end Allocation

end Sys2Proof.Machine
end

section
/-! SUPPORT. The moves of admissions, of rests and finishes, of the custody list and of the Scoring Unit. -/

namespace Sys2Proof.Machine

/-! ## Moving a candidate (R36) -/

section MoveCand
variable {s t : State} {i n : Nat} {c d : Cand} {x : Sitting}

theorem State.waiver_moves (s : State) (n : Nat) : Moves s (s.mapSeat n (fun x => { x with waiver := true })) :=
  s.mapSeat_moves_of_same n (fun _ => ⟨rfl, rfl, rfl, rfl, rfl⟩)

theorem State.OccupancyAgrees.seat? (h : s.OccupancyAgrees) (hc : s.cand? i = some c) (hseat : c.seat = some n) :
    ∃ y, s.seat? n = some y := by
  obtain ⟨y, hy, hyn, -⟩ := h.cands i c n hc hseat
  cases hfind : s.seat? n with
  | some y => exact ⟨y, rfl⟩
  | none => exact absurd hyn (State.ne_of_seat?_none hfind y hy)

theorem Cand.movable_not_gone (h : c.movable = true) : ¬ c.state.gone := by
  rintro (h' | h' | h') <;> simp [Cand.movable, h'] at h

theorem State.moveCand_moves (hc : s.cand? i = some c) (hmovable : c.movable = true)
    (hfree : ∃ x ∈ s.hall.seats, x.seat = n ∧ x.occupant = none) (breach : Bool) : Moves s (s.moveCand i c n breach) := by
  have hgone := Cand.movable_not_gone hmovable
  have hplaced : Moves s (match c.seat.bind s.seat? with
      | some u => (s.mapSeat u.seat Seat.release).place i n (fun _ => u.display.movedFor c)
      | none => s.place i n (fun d => d.movedIn c)) := by
    split
    · next u hu =>
      obtain ⟨m, hm, hum⟩ := Option.bind_eq_some_iff.mp hu
      obtain rfl := State.seat_of_seat? hum
      exact State.release_place_moves hc hm _ hfree hgone
    · next hnone =>
      refine State.place_moves hc _ (fun _ hocc => ?_) hfree (fun _ => hgone)
      cases hseat : c.seat with
      | none => rfl
      | some m =>
        obtain ⟨y, hy⟩ := hocc.seat? hc hseat
        rw [hseat, Option.bind_some, hy] at hnone
        cases hnone
  simp only [State.moveCand]
  split
  · exact hplaced.trans (State.waiver_moves ..)
  · exact hplaced

end MoveCand

/-! ## Admissions (R74, R83, R88) -/

section Admission
variable {s t : State} {i n : Nat} {c d : Cand} {x : Sitting}

/-- A candidate's record after a late admission (R74). -/
def Cand.entered (c : Cand) (x : Sitting) (skips : List Cue) (override : Bool) : Cand :=
  { c with state := .writing, consumed := x.sel, late := true, lateOverride := c.lateOverride || override,
           cuePtr := c.cuePtr + skips.length,
           exitClosed := c.exitClosed || skips.any (fun q => decide (q.kind = .exitClose)) }

theorem Retold.enterLate (h : Retold s t i c d) (hsame : d.state = c.state) (hst : c.state ≠ .writing) (e : Cand) (x : Sitting)
    (override : Bool) : ∃ u, Retold s u i c (d.entered x (lateSkips x e) override)
      ∧ t.enterLate i e x override = u.sittingTests x.number := by
  have hset := (h.setCandState hsame hst.symm).mapCand
    (g := fun y => { y with consumed := x.sel, late := true, lateOverride := y.lateOverride || override,
                            cuePtr := y.cuePtr + (lateSkips x e).length,
                            exitClosed := y.exitClosed || (lateSkips x e).any (fun q => decide (q.kind = .exitClose)) })
    ⟨rfl, rfl, rfl, rfl⟩
  exact ⟨_, (hset.same (State.joinSecond_tables _ i x.number)).showCand none, rfl⟩

/-- Writing with S_el consumed, by a candidate of a sitting in WRITING that is not too late (R74). -/
theorem CandStep.entered (hx : s.sitting? c.sitting = some x) (hwriting : x.state = .writing) (hlate : tooLate x c = false)
    (hd : d.number = c.number ∧ d.sitting = c.sitting ∧ d.entitled = c.entitled ∧ d.restUsed = c.restUsed
      ∧ d.restBudget = c.restBudget) (hstate : d.state = .writing) (hconsumed : d.consumed = x.sel) : CandStep s c d := by
  obtain ⟨hnumber, hsitting, hentitled, hused, hbudget⟩ := hd
  obtain ⟨hmem, hn⟩ := State.mem_of_sitting? hx
  have hactive : s.Active c := .inr ⟨x, hmem, hn, hwriting⟩
  have hlt : x.sel < c.entitled := by simpa [tooLate] using hlate
  refine ⟨hnumber, hsitting, fun _ => hactive, fun _ => .inr hactive, fun _ _ hok => ?_⟩
  have hbelow : d.consumed < d.entitled := by rw [hconsumed, hentitled]; exact hlt
  exact ⟨hbelow.le, by rw [hused, hbudget]; exact hok.rest, fun _ => hbelow, fun h => by simp [hstate] at h,
    fun h => by simp [hstate] at h, Nat.zero_lt_of_lt hbelow⟩

theorem State.admitCand_moves (hc : s.cand? i = some c) (hstate : c.state = .expected) (hx : s.sitting? c.sitting = some x)
    (hlate : ¬ (x.state = .writing ∧ tooLate x c = true)) : Moves s (s.admitCand i c x) := by
  unfold State.admitCand
  split
  · next hwriting =>
    obtain ⟨u, hu, hstep⟩ := (Retold.refl hc).enterLate rfl (by rw [hstate]; decide) c x false
    have hsoon : tooLate x c = false := Bool.eq_false_iff.mpr (fun h => hlate ⟨hwriting, h⟩)
    rw [hstep]
    exact (hu.moves (CandStep.entered hx hwriting hsoon ⟨rfl, rfl, rfl, rfl, rfl⟩ rfl rfl)
      (fun h => by simp [CandState.gone, Cand.entered] at h)).trans (State.sittingTests_moves ..)
  · have hset := ((Retold.refl hc).setCandState rfl (st := .admitted) (by rw [hstate]; decide)).mapCand
      (g := fun y => { y with consumed := 0 }) ⟨rfl, rfl, rfl, rfl⟩
    refine (hset.showCand none).moves ⟨rfl, rfl, fun h => by simp at h, fun h => absurd rfl h, fun _ _ hok => ?_⟩
      (fun h => by simp [CandState.gone] at h)
    exact ⟨Nat.zero_le _, hok.rest, fun h => by simp at h, nofun, fun _ => rfl, hok.entitled⟩

theorem State.readmit_moves (hc : s.cand? i = some c) (hstate : c.state = .absent) (hx : s.sitting? c.sitting = some x)
    (hwriting : x.state = .writing) (hlate : tooLate x c = false)
    (hfree : ∃ y ∈ s.hall.seats, y.seat = n ∧ y.occupant = none) (breach : Bool) : Moves s (s.readmit i c x n breach) := by
  have hplaced := Retold.refl (State.place_cand (n := n) hc (fun d => d.placedFor c))
  have hwaived : Retold (s.place i n (fun d => d.placedFor c))
      (if breach then (s.place i n (fun d => d.placedFor c)).mapSeat n (fun y => { y with waiver := true })
        else s.place i n (fun d => d.placedFor c)) i { c with seat := some n } { c with seat := some n } := by
    split
    · exact hplaced.display ⟨fun y => if y.seat = n then { y with waiver := true } else y,
        ⟨fun y => SeatStep.ite ⟨rfl, id, id, id⟩, fun y => by dsimp only; split <;> rfl⟩, rfl⟩
    · exact hplaced
  obtain ⟨u, hu, hstep⟩ := hwaived.enterLate rfl (show c.state ≠ .writing by rw [hstate]; decide) c x true
  have hmoves : Moves s u := Retold.place_moves hc hu
    (CandStep.entered hx hwriting hlate ⟨rfl, rfl, rfl, rfl, rfl⟩ rfl rfl)
    (fun _ hocc => hocc.gone c (List.mem_of_getElem? hc) (.inl hstate)) hfree
    (fun _ h => by simp [CandState.gone, Cand.entered] at h)
  have heq : s.readmit i c x n breach = u.sittingTests x.number := hstep
  rw [heq]
  exact hmoves.trans (State.sittingTests_moves ..)

theorem State.failAt_moves (s : State) (n : Nat) (k : CondCode) (arg : Nat) : Moves s (s.failAt n k arg) := s.writeCode_moves ..

theorem State.judgeAtSeat_moves (hc : s.cand? i = some c) (hx : s.sitting? c.sitting = some x) (n : Nat) :
    Moves s (s.judgeAtSeat n i c x) := by
  have hwrong : ∀ k arg right, Moves s ((s.failAt n k arg).notifyWrongSeat n c.number right) :=
    fun k arg right => (s.failAt_moves n k arg).trans (Moves.ofTables (State.notifyWrongSeat_tables ..))
  have hreshow : Moves s (if c.seat = some n then (s.showCand i).clearKeys n else s.failAt n .already) := by
    split
    · exact (s.showCand_moves i none).trans (State.clearKeys_moves ..)
    · exact s.failAt_moves ..
  unfold State.judgeAtSeat
  split
  · next hstate =>
    split
    · exact hwrong ..
    · split
      · exact hwrong ..
      · split
        · exact s.failAt_moves ..
        · next hlate => exact (State.admitCand_moves hc hstate hx hlate).trans (State.clearKeys_moves ..)
  · exact hreshow
  · exact hreshow
  · exact hreshow
  · exact s.failAt_moves ..
  · exact s.failAt_moves ..
  · exact s.failAt_moves ..
  · exact s.failAt_moves ..

theorem State.cand?_of_candByNumber {number : Nat} (h : s.candByNumber number = some (i, c)) : s.cand? i = some c := by
  obtain ⟨j, -, hj⟩ := Option.bind_eq_some_iff.mp h
  obtain ⟨d, hd, heq⟩ := Option.map_eq_some_iff.mp hj
  obtain ⟨rfl, rfl⟩ := Prod.mk.inj heq
  exact hd

theorem State.admitAtSeat_moves (s : State) (n number : Nat) : Moves s (s.admitAtSeat n number) := by
  unfold State.admitAtSeat
  split
  · exact s.failAt_moves ..
  · split
    · exact s.failAt_moves ..
    · next hfound =>
      split
      · exact s.failAt_moves ..
      · next hx =>
        split
        · exact s.failAt_moves ..
        · exact State.judgeAtSeat_moves (State.cand?_of_candByNumber hfound) hx n

theorem State.keyAt_moves (s : State) (n code : Nat) : Moves s (s.keyAt n code) := by
  unfold State.keyAt
  split
  · exact .refl
  · split
    · exact s.clearKeys_moves n
    · split
      · split
        · exact s.writeCode_moves ..
        · exact s.admitAtSeat_moves ..
      · refine s.mapSeat_moves n (fun y => ⟨rfl, id, id, fun hle => ?_⟩) (fun _ => rfl)
        simp only [pushDigit]
        split <;> simp only [List.length_append, List.length_tail, List.length_singleton] <;> omega

theorem State.cand?_of_occupantOf {y : Seat} (h : s.occupantOf n = some (y, i, c)) : s.cand? i = some c := by
  obtain ⟨z, -, hz⟩ := Option.bind_eq_some_iff.mp h
  obtain ⟨j, -, hj⟩ := Option.bind_eq_some_iff.mp hz
  obtain ⟨d, hd, heq⟩ := Option.map_eq_some_iff.mp hj
  obtain ⟨-, rfl, rfl⟩ : z = y ∧ j = i ∧ d = c := by simpa using heq
  exact hd

theorem State.callAt_moves (s : State) (n : Nat) : Moves s (s.callAt n) := by
  unfold State.callAt
  split
  · exact .refl
  · exact (s.writeDisplay_moves ..).trans (Moves.ofTables (State.notifyZone_tables ..))

theorem State.doneAt_moves (s : State) (n : Nat) : Moves s (s.doneAt n) := by
  unfold State.doneAt
  split
  · exact .refl
  · next hocc =>
    split
    · next h => exact State.finishCand_moves (State.cand?_of_occupantOf hocc) (.inl h.1) .early
    · split <;> exact s.failAt_moves ..

end Admission

/-! ## The custody list (R102 to R108) -/

section Custody
variable {s : State} {i : Nat} {c : Cand}

theorem State.mapEntry_moves (s : State) (t : Nat) (f : Custody → Custody) : Moves s (s.mapEntry t f) := Moves.ofTables rfl

theorem State.createEntry_moves (s : State) (i t : Nat) : Moves s (s.createEntry i t) := by
  simp only [State.createEntry]
  refine Moves.trans ?_ (State.mapCand_moves_of_same _ i (fun c => { c with issued := c.issued + 1 })
    (fun _ => ⟨rfl, rfl, rfl, rfl, rfl, rfl, rfl, rfl⟩))
  exact Moves.ofTables rfl

theorem State.issue_moves (s : State) (i : Nat) (c : Cand) (t : Nat) : Moves s (s.issue i c t).state := by
  unfold State.issue
  repeat' split
  all_goals first | exact .refl | exact s.createEntry_moves i t

theorem State.tagAt_moves (s : State) (n t : Nat) : Moves s (s.tagAt n t) := by
  unfold State.tagAt
  split
  · exact s.writeCode_moves ..
  · exact (s.issue_moves ..).trans (State.writeCode_moves ..)

theorem State.returnIssued_moves (s : State) (t : Nat) (o : Option Nat) : Moves s (s.returnIssued t o).1 := by
  simp only [State.returnIssued]
  split
  · exact s.mapEntry_moves ..
  · exact (s.mapEntry_moves ..).trans ((State.mapCand_moves_of_same _ _ (fun c => { c with returned := c.returned + 1 })
      (fun _ => ⟨rfl, rfl, rfl, rfl, rfl, rfl, rfl, rfl⟩)).trans (State.collectionTest_moves ..))

theorem State.createStray_moves (s : State) (p : Port) (t : Nat) : Moves s (s.createStray p t) :=
  Moves.ofTables (State.notifyDesks_tables ..)

theorem State.returnTag_moves (s : State) (p : Port) (t : Nat) : Moves s (s.returnTag p t).1 := by
  unfold State.returnTag
  split
  · exact .refl
  · split
    · split
      · exact .refl
      · exact s.createStray_moves p t
    · split
      · exact s.returnIssued_moves ..
      · exact .refl
      · exact .refl
      · exact .refl

theorem returnAll_moves (p : Port) (ts : List Nat) : ∀ s, Moves s (returnAll p ts s).1 := by
  induction ts with
  | nil => exact fun _ => .refl
  | cons t ts ih => exact fun s => (s.returnTag_moves p t).trans (ih _)

theorem State.claim_moves (s : State) (i : Nat) (c : Cand) (t : Nat) : Moves s (s.claim i c t) := by
  have hcounts : Moves s ((s.mapEntry t (fun e => { e with cand := some i })).mapCand i
      (fun y => { y with issued := y.issued + 1, returned := y.returned + 1 })) :=
    (s.mapEntry_moves ..).trans (State.mapCand_moves_of_same _ _ _ (fun _ => ⟨rfl, rfl, rfl, rfl, rfl, rfl, rfl, rfl⟩))
  simp only [State.claim]
  split
  · exact hcounts.trans ((State.mapCand_moves_of_same _ _ (fun y => { y with nilScript := false })
      (fun _ => ⟨rfl, rfl, rfl, rfl, rfl, rfl, rfl, rfl⟩)).trans (State.offerCustodyClose_moves ..))
  · exact hcounts.trans (State.collectionTest_moves ..)

end Custody

/-! ## The Scoring Unit (R139 to R141) -/

section Scoring
variable (s : State)

theorem State.mapBatch_moves (f : Batch → Batch) : Moves s (s.mapBatch f) := Moves.ofTables rfl

theorem State.mapSlot_moves (k : Nat) (f : Slot → Slot) : Moves s (s.mapSlot k f) := Moves.ofTables rfl

theorem State.notify_moves (p : Port) (n : Notice) : Moves s (s.notify p n) := Moves.ofTables rfl

theorem State.marking_moves (m : Marking) : Moves s { s with marking := m } := Moves.ofTables rfl

theorem State.queueResult_moves (k : Nat) (r : SheetResult) : Moves s (s.queueResult k r) := by
  unfold State.queueResult
  split
  · exact .refl
  · split
    · exact .refl
    · next c _ =>
      refine Moves.trans ?_ (State.mapSlot_moves ..)
      refine Moves.trans ?_ (State.notify_moves ..)
      refine Moves.trans ?_ (State.mapBatch_moves ..)
      refine Moves.trans ?_ (State.mapEntry_moves ..)
      refine Moves.trans ?_ (State.mapCand_moves_of_same _ _ (fun d => { d with version := c.version + 1, summary := some _ })
        (fun _ => ⟨rfl, rfl, rfl, rfl, rfl, rfl, rfl, rfl⟩))
      exact Moves.ofTables (State.enqueue_tables ..)

theorem State.releaseSlot_moves (k : Nat) (r : SheetResult) : Moves s (s.releaseSlot k r) := by
  simp only [State.releaseSlot]
  split
  · exact s.queueResult_moves k r
  · exact Moves.ofTables rfl

theorem State.takeSlot_moves : Moves s s.takeSlot := by
  unfold State.takeSlot
  repeat' split
  all_goals exact Moves.ofTables rfl

theorem State.serveWaiting_moves : Moves s s.serveWaiting := by
  unfold State.serveWaiting
  repeat' split
  all_goals first | exact .refl | exact (s.marking_moves _).trans (State.queueResult_moves ..)

end Scoring

end Sys2Proof.Machine
end

section
/-! SUPPORT. The moves of the commands. -/

namespace Sys2Proof.Machine

/-! ## Sessions and loading (Chapter 1) -/

section Loading
variable (s : State)

theorem State.closeReset_clear : Move s s.closeReset := Move.clear rfl (.inl rfl)

theorem State.discardReset_clear : Move s s.discardReset := Move.clear rfl (.inl rfl)

theorem State.offer_moves (kind : RecordKind) (body : List Field) (now : Nat) : Moves s (s.offer kind body now) :=
  Moves.ofTables (State.offer_tables ..)

theorem cmdSessionOpen_moves (n time : Nat) : Moves s (cmdSessionOpen n time s).state := by
  simp only [cmdSessionOpen]
  split
  · exact .refl
  · refine Moves.trans ?_ (State.offer_moves ..)
    exact Moves.ofTables rfl

theorem cmdSessionClose_moves : Moves s (cmdSessionClose s).state := by
  unfold cmdSessionClose
  repeat' split
  all_goals exact Moves.ofTables rfl

theorem cmdSessionDiscard_moves : Moves s (cmdSessionDiscard s).state :=
  (State.discardReset_clear s).moves.trans (State.offer_moves ..)

theorem cmdSeatDefine_moves (n row column zone kind : Nat) : Moves s (cmdSeatDefine n row column zone kind s).state := by
  unfold cmdSeatDefine
  repeat' split
  all_goals try exact .refl
  · exact s.mapSeat_moves_of_same n (fun _ => ⟨rfl, rfl, rfl, rfl, rfl⟩)
  · next hnone => exact (Move.addSeat _ hnone rfl ⟨rfl, rfl, rfl⟩ rfl).moves

theorem cmdZoneGrant_moves (d mask chief : Nat) : Moves s (cmdZoneGrant d mask chief s).state := by
  unfold cmdZoneGrant
  repeat' split
  all_goals exact Moves.ofTables rfl

theorem redefineSitting_moves {f : SittingFields} {ip : InvalidPolicy} {fp : FloorPolicy} {x : Sitting}
    (hx : s.sitting? f.sitting = some x) (hbase : 0 < f.base) : Moves s (redefineSitting f ip fp x s).state := by
  simp only [redefineSitting]
  split
  · exact .refl
  · split
    · exact .refl
    · next hstate =>
      have hdefined : x.state = .defined := not_not.mp hstate
      split
      · exact .refl
      · have hstored : Moves s (s.mapSitting f.sitting (fun y =>
            { y with paper := f.paper, base := f.base, reading := f.reading, pauseLimit := f.pauseLimit,
                     zones := f.zones, outMax := f.outMax, passMark := f.passMark, penalty := f.penalty,
                     invalidPolicy := ip, floorPolicy := fp })) :=
          s.mapSitting_moves_of_same f.sitting (fun _ => ⟨rfl, rfl, rfl⟩) (fun _ => ⟨id, id, fun _ => hbase, .inl, id⟩)
        simp only [okay]
        split
        · exact hstored
        · refine hstored.trans (Move.recompute f.sitting f.base hbase (fun hordered y hy hn => ?_) rfl).moves
          have hfound := State.mapSitting_sitting? s f.sitting f.sitting (fun y =>
            { y with paper := f.paper, base := f.base, reading := f.reading, pauseLimit := f.pauseLimit,
                     zones := f.zones, outMax := f.outMax, passMark := f.passMark, penalty := f.penalty,
                     invalidPolicy := ip, floorPolicy := fp }) (fun _ => rfl)
          rw [if_pos rfl, hx, Option.map_some] at hfound
          rw [hordered.eq_sitting hfound hy hn]
          exact hdefined

theorem cmdSittingDefine_moves (f : SittingFields) : Moves s (cmdSittingDefine f s).state := by
  unfold cmdSittingDefine
  split
  · split
    · exact .refl
    · next hok =>
      have hbase : 0 < f.base := by
        simp only [not_not, sittingFieldsOk, Bool.and_eq_true, decide_eq_true_eq] at hok
        omega
      split
      · exact .refl
      · split
        · next hx => exact redefineSitting_moves s hx hbase
        · next hnone => exact (Move.addSitting _ hnone ⟨rfl, rfl⟩ ⟨rfl, rfl, rfl, hbase⟩ rfl).moves
  · exact .refl

theorem cmdCandidateAdd_moves (number n access allowance rest : Nat) :
    Moves s (cmdCandidateAdd number n access allowance rest s).state := by
  unfold cmdCandidateAdd
  repeat' split
  all_goals try exact .refl
  next x hx _ _ hduplicate _ =>
    obtain ⟨hmem, hn⟩ := State.mem_of_sitting? hx
    have hfresh : ∀ d ∈ s.hall.cands, d.number ≠ number := by
      simpa [State.findCand, List.findIdx?_eq_none_iff] using hduplicate
    exact (Move.addCand { number := number, sitting := n, access := decide (access = 1), allowance := allowance,
                          restBudget := rest, entitled := entitlement x.base allowance } hfresh ⟨x, hmem, hn⟩ rfl rfl
        (fun hbase => entitlement_pos (hbase x hmem) _) ⟨rfl, rfl⟩ rfl).moves

/-- What a taken CANDIDATE_AMEND stores (R21). -/
def Cand.amended (c : Cand) (allowance budget e : Nat) (access : Bool) : Cand :=
  { c with allowance := allowance, restBudget := budget, access := access, entitled := e }

theorem amendEffects_moves {i : Nat} {c : Cand} (hc : s.cand? i = some c) {allowance budget e : Nat} {access : Bool}
    (hbudget : c.restUsed ≤ budget) (hamend : c.state = .expected ∨ c.state = .admitted ∨ c.state = .writing ∨ c.state = .resting)
    (hpos : (∀ x ∈ s.hall.sittings, 0 < x.base) → (∃ x ∈ s.hall.sittings, x.number = c.sitting) → 0 < e) :
    Moves s (amendEffects i c e budget ((s.mapCand i (fun c =>
      { c with allowance := allowance, restBudget := budget, access := access, entitled := e })).showCand i)) := by
  have hstored : Retold s ((s.mapCand i (fun c =>
      { c with allowance := allowance, restBudget := budget, access := access, entitled := e })).showCand i) i c
      (c.amended allowance budget e access) :=
    ((Retold.refl hc).mapCand (g := fun c =>
      { c with allowance := allowance, restBudget := budget, access := access, entitled := e }) ⟨rfl, rfl, rfl, rfl⟩).showCand none
  unfold amendEffects
  split
  · next h =>
    obtain ⟨hpaper, hover⟩ := h
    have hends := hstored.mapCand (g := fun c => { c with consumed := e }) ⟨rfl, rfl, rfl, rfl⟩
    exact hends.finishCand_moves rfl (by obtain h | h := hpaper <;> rw [h] <;> decide) (fun _ => .inr (.inl hpaper))
      (fun hbase hx _ => ⟨le_refl e, hbudget, hpos hbase hx⟩) _
  · next hbelow =>
    split
    · next h =>
      obtain ⟨hresting, hused⟩ := h
      refine hstored.leaveRest_moves rfl hresting rfl (fun _ _ _ => ⟨?_, hbudget⟩) _ _
      exact Nat.not_le.mp (fun hle => hbelow ⟨.inr hresting, hle⟩)
    · next hrest =>
      have hlt : c.state = .writing ∨ c.state = .resting → c.consumed < e :=
        fun hpaper => Nat.not_le.mp (fun hle => hbelow ⟨hpaper, hle⟩)
      refine hstored.moves ⟨rfl, rfl, .inl, .inl, fun hbase hx hok => ?_⟩ id
      refine ⟨?_, hbudget, hlt, fun hresting => ?_, hok.fresh, hpos hbase hx⟩
      · obtain h | h | h | h := hamend
        · exact (hok.fresh (.inl h)).le.trans (Nat.zero_le e)
        · exact (hok.fresh (.inr h)).le.trans (Nat.zero_le e)
        · exact (hlt (.inl h)).le
        · exact (hlt (.inr h)).le
      · exact Nat.lt_of_le_of_ne hbudget (fun h => hrest ⟨hresting, h.symm⟩)

theorem State.base_pos {s : State} {n allowance : Nat} (hbase : ∀ x ∈ s.hall.sittings, 0 < x.base)
    (hx : ∃ x ∈ s.hall.sittings, x.number = n) :
    0 < entitlement (((s.sitting? n).map (fun x => x.base)).getD 0) allowance := by
  obtain ⟨x, hmem, hn⟩ := hx
  cases hfind : s.sitting? n with
  | none => exact absurd hn (State.ne_of_sitting?_none hfind x hmem)
  | some y =>
    obtain ⟨hy, -⟩ := State.mem_of_sitting? hfind
    exact entitlement_pos (hbase y hy) allowance

theorem Cand.amendable_iff (c : Cand) : c.amendable = true ↔
    c.state = .expected ∨ c.state = .admitted ∨ c.state = .writing ∨ c.state = .resting := by
  cases h : c.state <;> simp [Cand.amendable, h]

theorem cmdCandidateAmend_moves (number allowance rest access : Nat) :
    Moves s (cmdCandidateAmend number allowance rest access s).state := by
  unfold cmdCandidateAmend
  split
  · exact .refl
  · split
    · exact .refl
    · next i c hfound =>
      have hc : s.cand? i = some c := State.cand?_of_candByNumber (number := number) hfound
      split
      · exact .refl
      · split
        · exact .refl
        · next hamend =>
          exact amendEffects_moves s hc (le_max_right _ _) ((Cand.amendable_iff c).mp (not_not.mp hamend))
            (fun hbase hx => State.base_pos hbase hx)

theorem cmdAllocate_moves (n : Nat) : Moves s (cmdAllocate n s).state := by
  unfold cmdAllocate
  repeat' split
  all_goals try exact .refl
  refine Moves.trans ((s.inFlight_moves n true).trans ?_) (State.endIfDone_moves ..)
  exact Moves.ofTables rfl

theorem cmdAllocAbort_moves : Moves s (cmdAllocAbort s).state := by
  unfold cmdAllocAbort
  split
  · refine Moves.trans ?_ (State.endRun_moves ..)
    exact Moves.ofTables rfl
  · exact .refl

end Loading

/-! ## Sittings: cues, layouts, keys, phases and pauses -/

section Sittings
variable (s : State)

/-- A change of a sitting's other fields. -/
theorem State.sitting_moves (n : Nat) {f : Sitting → Sitting} (hf : ∀ x, (f x).number = x.number ∧ (f x).enrolled = x.enrolled
    ∧ (f x).counts = x.counts ∧ (f x).state = x.state ∧ (f x).sel = x.sel ∧ (f x).base = x.base
    ∧ (f x).elapsedCues = x.elapsedCues ∧ (f x).remainingCues = x.remainingCues) : Moves s (s.mapSitting n f) :=
  s.mapSitting_moves_of_same n (fun x => have ⟨hn, he, hc, _⟩ := hf x; ⟨hn, he, hc⟩)
    (fun x => have ⟨_, _, _, hstate, hsel, hbase, hel, hrem⟩ := hf x; SittingStep.same hstate hsel hbase ⟨hel, hrem⟩)

theorem length_insertElapsed (q : Cue) (l : List Cue) : (insertElapsed q l).length = l.length + 1 := by
  induction l with
  | nil => rfl
  | cons r rs ih => rw [insertElapsed]; split <;> simp [ih]

theorem length_insertRemaining (q : Cue) (l : List Cue) : (insertRemaining q l).length = l.length + 1 := by
  induction l with
  | nil => rfl
  | cons r rs ih => rw [insertRemaining]; split <;> simp [ih]

theorem cmdCueDefine_moves (n kind base value code : Nat) : Moves s (cmdCueDefine n kind base value code s).state := by
  simp only [cmdCueDefine]
  split
  · exact .refl
  · split
    · exact .refl
    · split
      · exact .refl
      · next x hx =>
        split
        · exact .refl
        · split
          · exact .refl
          · split
            · exact .refl
            · split
              · exact .refl
              · next hfull =>
                refine s.mapSitting_moves_of_found hx (fun y => ?_) ⟨fun _ => ?_, ?_, ?_, ?_, ?_⟩
                · split <;> exact ⟨rfl, rfl, rfl⟩
                · split
                  · simp only [length_insertElapsed]; omega
                  · simp only [length_insertRemaining]; omega
                · split <;> exact id
                · split <;> exact id
                · split <;> exact .inl
                · split <;> exact id

theorem cmdLayoutDefine_moves (n pages : Nat) (counts : List Nat) : Moves s (cmdLayoutDefine n pages counts s).state := by
  unfold cmdLayoutDefine
  repeat' split
  all_goals try exact .refl
  exact s.sitting_moves n (fun _ => ⟨rfl, rfl, rfl, rfl, rfl, rfl, rfl, rfl⟩)

theorem cmdKeyItem_moves (f : KeyItemFields) : Moves s (cmdKeyItem f s).state := by
  simp only [cmdKeyItem]
  repeat' split
  all_goals try exact .refl
  exact s.sitting_moves _ (fun _ => ⟨rfl, rfl, rfl, rfl, rfl, rfl, rfl, rfl⟩)

theorem cmdKeySeal_moves (n : Nat) : Moves s (cmdKeySeal n s).state := by
  simp only [cmdKeySeal]
  repeat' split
  all_goals try exact .refl
  exact s.sitting_moves n (fun _ => ⟨rfl, rfl, rfl, rfl, rfl, rfl, rfl, rfl⟩)

theorem cmdKeyUnseal_moves (n : Nat) : Moves s (cmdKeyUnseal n s).state := by
  unfold cmdKeyUnseal
  repeat' split
  all_goals try exact .refl
  exact s.sitting_moves n (fun _ => ⟨rfl, rfl, rfl, rfl, rfl, rfl, rfl, rfl⟩)

theorem cmdRemark_moves (t : Nat) : Moves s (cmdRemark t s).state := by
  unfold cmdRemark
  repeat' split
  all_goals exact Moves.ofTables rfl

/-- A sitting that goes from one phase to another, neither of them WRITING or before the start of writing anew. -/
theorem State.phase_moves {n : Nat} {x : Sitting} (hx : s.sitting? n = some x) (st : SittingState) {f : Sitting → Sitting}
    (hf : ∀ x, (f x).number = x.number ∧ (f x).enrolled = x.enrolled ∧ (f x).counts = x.counts ∧ (f x).state = st
      ∧ (f x).sel = x.sel ∧ (f x).base = x.base ∧ (f x).elapsedCues = x.elapsedCues ∧ (f x).remainingCues = x.remainingCues)
    (hwriting : x.state ≠ .writing) (hearly : st.early → x.state.early) : Moves s (s.mapSitting n f) := by
  obtain ⟨-, -, -, hstate, hsel, hbase, hel, hrem⟩ := hf x
  exact s.mapSitting_moves_of_found hx (fun x => have ⟨hn, he, hc, _⟩ := hf x; ⟨hn, he, hc⟩)
    ⟨by rw [hel, hrem]; exact id, by rw [hsel]; exact id, by rw [hbase]; exact id, fun h => absurd h hwriting,
      by rw [hstate]; exact hearly⟩

theorem cmdFinalise_moves (n : Nat) : Moves s (cmdFinalise n s).state := by
  unfold cmdFinalise
  repeat' split
  all_goals try exact .refl
  next x hx hstate _ =>
    have hclosed : x.state = .closed := not_not.mp hstate
    refine Moves.trans ?_ (State.offer_moves ..)
    exact s.phase_moves hx .final (fun _ => ⟨rfl, rfl, rfl, rfl, rfl, rfl, rfl, rfl⟩) (by rw [hclosed]; decide)
      (fun h => by simp [SittingState.early] at h)

theorem cmdOpenDoors_moves (p : Port) (n : Nat) : Moves s (cmdOpenDoors p n s).state := by
  unfold cmdOpenDoors
  repeat' split
  all_goals try exact .refl
  next x hx _ hstate =>
    have hdefined : x.state = .defined := not_not.mp hstate
    exact s.phase_moves hx .opened (fun _ => ⟨rfl, rfl, rfl, rfl, rfl, rfl, rfl, rfl⟩) (by rw [hdefined]; decide)
      (fun _ => .inl hdefined)

theorem cmdStart_moves (p : Port) (n : Nat) : Moves s (cmdStart p n s).state := by
  unfold cmdStart
  repeat' split
  all_goals try exact .refl
  · next x hx _ _ hstate _ =>
    have hopened : x.state = .opened := not_not.mp hstate
    exact s.phase_moves hx .reading (fun _ => ⟨rfl, rfl, rfl, rfl, rfl, rfl, rfl, rfl⟩) (by rw [hopened]; decide)
      (fun _ => .inr (.inl hopened))
  · next x hx _ _ _ _ => exact State.startOfWriting_moves hx

theorem State.setPause_moves (scope : Nat) (v : Bool) : Moves s (s.setPause scope v) := by
  unfold State.setPause
  split
  · exact Moves.ofTables rfl
  · exact s.sitting_moves scope (fun _ => ⟨rfl, rfl, rfl, rfl, rfl, rfl, rfl, rfl⟩)

theorem State.queueFrame_moves (f : LineFrame) : Moves s (s.queueFrame f) := Moves.ofTables (State.queueFrame_tables ..)

theorem cmdPause_moves (p : Port) (scope : Nat) : Moves s (cmdPause p scope s).state := by
  unfold cmdPause
  repeat' split
  all_goals try exact .refl
  exact ((State.setPause_moves ..).trans (Moves.foldl (fun t i => t.showCand_moves i none) _ _)).trans
    (State.queueFrame_moves ..)

theorem cmdResume_moves (p : Port) (scope : Nat) : Moves s (cmdResume p scope s).state := by
  unfold cmdResume
  repeat' split
  all_goals try exact .refl
  exact ((State.setPause_moves ..).trans (Moves.foldl (fun t i => t.showCand_moves i none) _ _)).trans
    (Moves.foldl (fun t n => t.queueFrame_moves _) _ _)

end Sittings

/-! ## Commands on a candidate (Chapters 2, 5 and 6) -/

section Conduct
variable (s : State)

theorem State.lampOff_cand? (o : Option Nat) (i : Nat) : (s.lampOff o).cand? i = s.cand? i := by
  unfold State.lampOff
  split <;> rfl

theorem screenCand_moves (p : Port) (number : Nat) {own : Nat → Cand → State → Answer}
    (h : ∀ i c t, t.cand? i = some c → Moves t (own i c t).state) : Moves s (screenCand p number s own).state := by
  unfold screenCand
  split
  · exact .refl
  · split
    · exact .refl
    · next hfound =>
      split
      · exact .refl
      · exact (s.lampOff_moves _).trans (h _ _ _ ((s.lampOff_cand? ..).trans (State.cand?_of_candByNumber hfound)))

theorem admitOwn_moves {i : Nat} {c : Cand} (hc : s.cand? i = some c) : Moves s (admitOwn i c s).state := by
  simp only [admitOwn]
  split
  · exact .refl
  · next x hx =>
    repeat' split
    all_goals try exact .refl
    · next hstate _ hlate _ _ _ =>
      exact (State.admitCand_moves hc (not_not.mp hstate) hx hlate).trans (State.clearKeys_moves ..)
    · next hstate _ hlate _ _ => exact State.admitCand_moves hc (not_not.mp hstate) hx hlate

theorem Seat.target_iff (y : Seat) : y.target = true ↔ y.occupant = none ∧ y.service = .inService := by
  simp [Seat.target]

theorem State.free_of_seat? {s : State} {n : Nat} {y : Seat} (hy : s.seat? n = some y) (hfree : y.occupant = none) :
    ∃ x ∈ s.hall.seats, x.seat = n ∧ x.occupant = none :=
  ⟨y, List.mem_of_find?_eq_some hy, State.seat_of_seat? hy, hfree⟩

theorem admitOverride_moves {i : Nat} {c : Cand} (hc : s.cand? i = some c) (hstate : c.state = .absent) (p : Port)
    (seat waiver : Nat) : Moves s (admitOverride p i c seat waiver s).state := by
  simp only [admitOverride]
  split
  · exact .refl
  · split
    · next y x hy hx =>
      repeat' split
      all_goals try exact .refl
      next hwriting htarget _ hlate =>
        have hfree := ((Seat.target_iff y).mp (not_not.mp htarget)).1
        exact State.readmit_moves hc hstate hx (not_not.mp hwriting) (Bool.eq_false_iff.mpr hlate)
          (State.free_of_seat? hy hfree) _
    · exact .refl

theorem cmdAdmit_moves (p : Port) (number o seat waiver : Nat) : Moves s (cmdAdmit p number o seat waiver s).state := by
  unfold cmdAdmit
  split
  · exact .refl
  · split
    · next hfound =>
      split
      · exact .refl
      · split
        · next h => exact admitOverride_moves s (State.cand?_of_candByNumber hfound) h.1 ..
        · exact screenCand_moves s p number (fun i c t hc => admitOwn_moves t hc)
    · exact screenCand_moves s p number (fun i c t hc => admitOwn_moves t hc)

theorem moveScreened_moves {i : Nat} {c : Cand} {x : Seat} (hc : s.cand? i = some c) (hx : s.seat? x.seat = some x) (waiver : Nat) :
    Moves s (moveScreened i c x waiver s).state := by
  simp only [moveScreened]
  repeat' split
  all_goals try exact .refl
  next hmovable htarget _ =>
    exact State.moveCand_moves hc (not_not.mp hmovable)
      (State.free_of_seat? hx ((Seat.target_iff x).mp (not_not.mp htarget)).1) _

theorem State.lampOff_seat? {n : Nat} {x : Seat} (hx : s.seat? n = some x) (o : Option Nat) :
    ∃ y, (s.lampOff o).seat? n = some y ∧ y.seat = n := by
  have hfound : ((s.lampOff o).seat? n).isSome = true := by
    unfold State.lampOff
    split
    · rw [hx]; rfl
    · rw [State.writeDisplay_seat?]
      split <;> simp [hx]
  obtain ⟨y, hy⟩ := Option.isSome_iff_exists.mp hfound
  exact ⟨y, hy, State.seat_of_seat? hy⟩

theorem cmdMove_moves (p : Port) (number seat waiver : Nat) : Moves s (cmdMove p number seat waiver s).state := by
  unfold cmdMove
  split
  · exact .refl
  · split
    · next i c x hfound hx =>
      dsimp only
      split
      · obtain ⟨y, hy, hyn⟩ := s.lampOff_seat? hx c.seat
        rw [hy, Option.getD_some]
        have hc : s.cand? i = some c := State.cand?_of_candByNumber (number := number) hfound
        exact (s.lampOff_moves _).trans (moveScreened_moves _ ((s.lampOff_cand? ..).trans hc) (hyn ▸ hy) waiver)
      · exact .refl
    · exact .refl

theorem Seat.setService_step (v : Service) (x : Seat) : SeatStep x (x.setService v) := by
  unfold Seat.setService
  split
  · exact SeatStep.refl x
  · exact ⟨rfl, id, fun _ => Nat.zero_le 3, id⟩

theorem cmdSeatService_moves (p : Port) (seat direction : Nat) : Moves s (cmdSeatService p seat direction s).state := by
  unfold cmdSeatService
  repeat' split
  all_goals try exact .refl
  all_goals exact s.mapSeat_moves seat (Seat.setService_step _) (fun x => by unfold Seat.setService; split <;> rfl)

theorem restStartOwn_moves {i : Nat} {c : Cand} (hc : s.cand? i = some c) : Moves s (restStartOwn i c s).state := by
  unfold restStartOwn
  split
  · exact .refl
  · next hstate =>
    have hwriting : c.state = .writing := not_not.mp hstate
    split
    · exact .refl
    · next hbudget =>
      have hresting := ((Retold.refl hc).setCandState rfl (st := .resting) (by rw [hwriting]; decide)).showCand none
      refine hresting.moves ⟨rfl, rfl, fun _ => .inl (.inl hwriting), .inl, fun _ _ hok => ?_⟩
        (fun h => by simp [CandState.gone] at h)
      exact ⟨hok.consumed, hok.rest, fun _ => hok.writing (.inl hwriting), fun _ => Nat.not_le.mp hbudget,
        fun h => by simp at h, hok.entitled⟩

theorem restEndOwn_moves {i : Nat} {c : Cand} (hc : s.cand? i = some c) : Moves s (restEndOwn i c s).state := by
  unfold restEndOwn
  split
  · exact .refl
  · next hstate => exact State.leaveRest_moves hc (not_not.mp hstate) ..

theorem finishOwn_moves {i : Nat} {c : Cand} (hc : s.cand? i = some c) : Moves s (finishOwn i c s).state := by
  unfold finishOwn
  split
  · exact .refl
  · next hstate =>
    refine State.finishCand_moves hc ?_ .desk
    by_contra hnot
    exact hstate (not_or.mp hnot)

theorem withdrawOwn_moves {i : Nat} {c : Cand} (hc : s.cand? i = some c) : Moves s (withdrawOwn i c s).state := by
  unfold withdrawOwn
  split
  · exact .refl
  · split
    · exact .refl
    · next h =>
      have hst : .withdrawn ≠ c.state := by
        rintro hstate
        simp [Cand.withdrawable, ← hstate] at h
      refine Moves.trans ?_ (State.sittingTests_moves ..)
      refine Moves.trans ?_ (State.offer_moves ..)
      exact State.setCandState_releaseCand_moves hc hst (.inr (.inr (.inr rfl)))

theorem issueTagOwn_moves (t i : Nat) (c : Cand) : Moves s (issueTagOwn t i c s).state := by
  simp only [issueTagOwn, State.writeCandCode]
  repeat' split
  · exact s.issue_moves ..
  · exact (s.issue_moves ..).trans (State.writeCode_moves ..)
  · exact s.issue_moves ..

theorem cmdIssueTag_moves (p : Port) (number t : Nat) : Moves s (cmdIssueTag p number t s).state := by
  unfold cmdIssueTag
  split
  · exact .refl
  · exact screenCand_moves s p number (fun i c u _ => issueTagOwn_moves u t i c)

theorem cmdReturnTags_moves (p : Port) (count : Nat) (ts : List Nat) : Moves s (cmdReturnTags p count ts s).state := by
  unfold cmdReturnTags
  split
  · exact .refl
  · exact returnAll_moves p ts s

theorem cmdVoidTag_moves (p : Port) (t : Nat) : Moves s (cmdVoidTag p t s).state := by
  simp only [cmdVoidTag]
  repeat' split
  all_goals try exact .refl
  · exact (s.mapEntry_moves ..).trans (State.collectionTest_moves ..)
  · exact s.mapEntry_moves ..

theorem claimOwn_moves (t : Nat) (e : Custody) (i : Nat) (c : Cand) : Moves s (claimOwn t e i c s).state := by
  unfold claimOwn
  repeat' split
  all_goals try exact .refl
  exact s.claim_moves ..

theorem cmdClaimTag_moves (p : Port) (t number : Nat) : Moves s (cmdClaimTag p t number s).state := by
  unfold cmdClaimTag
  repeat' split
  all_goals try exact .refl
  exact screenCand_moves s p number (fun i c u _ => claimOwn_moves u t _ i c)

theorem cmdAnnounce_moves (p : Port) (form value code : Nat) : Moves s (cmdAnnounce p form value code s).state := by
  unfold cmdAnnounce
  repeat' split
  all_goals try exact .refl
  all_goals exact s.queueFrame_moves _

end Conduct

/-! ## Marking and the archive (Chapters 7 to 9) -/

section Marking
variable (s : State)

theorem State.mismatch_moves (t : Nat) : Moves s (s.mismatch t) := by
  simp only [State.mismatch]
  split <;> exact Moves.ofTables rfl

theorem State.placePage_moves (k : Nat) (x : Slot) (f : PageFields) : Moves s (s.placePage k x f).state := by
  simp only [State.placePage]
  split <;> exact Moves.ofTables rfl

theorem cmdBatchOpen_moves (n : Nat) : Moves s (cmdBatchOpen n s).state := by
  unfold cmdBatchOpen
  repeat' split
  all_goals exact Moves.ofTables rfl

theorem cmdBatchClose_moves : Moves s (cmdBatchClose s).state := by
  simp only [cmdBatchClose]
  repeat' split
  all_goals try exact .refl
  dsimp only [okay]
  refine Moves.trans ?_ (State.mapBatch_moves ..)
  refine Moves.trans ?_ (State.offer_moves ..)
  exact Moves.ofTables rfl

theorem cmdPage_moves (f : PageFields) : Moves s (cmdPage f s).state := by
  unfold cmdPage pageCustody pageChecked pagePlace
  repeat' split
  all_goals try exact .refl
  · exact s.mismatch_moves _
  · exact s.placePage_moves ..
  · exact s.placePage_moves ..

theorem cmdSheetDiscard_moves (t : Nat) : Moves s (cmdSheetDiscard t s).state := by
  unfold cmdSheetDiscard
  repeat' split
  all_goals exact Moves.ofTables rfl

/-- A change of the archive that leaves the number of blocks of each plane leaves the tables. -/
theorem State.mapArch_tables (f : Archive → Archive)
    (h : ∀ q, ((f s.arch).plane q).blocks.length = (s.arch.plane q).blocks.length) : (s.mapArch f).tables = s.tables := by
  simp only [State.tables, State.mapArch, h]

theorem State.mapPlane_tables (p : PlaneId) (f : Plane → Plane)
    (h : (f (s.arch.plane p)).blocks.length = (s.arch.plane p).blocks.length) : (s.mapPlane p f).tables = s.tables := by
  refine s.mapArch_tables _ (fun q => ?_)
  by_cases hq : q = p
  · subst hq; rw [Archive.plane_setPlane, h]
  · rw [Archive.plane_setPlane_of_ne _ _ hq]

theorem State.mapPlane_moves (p : PlaneId) {f : Plane → Plane}
    (h : ∀ pl, (f pl).blocks.length = pl.blocks.length) : Moves s (s.mapPlane p f) :=
  Moves.ofTables (s.mapPlane_tables p f (h _))

theorem cmdArchiveExported_moves (q : Nat) : Moves s (cmdArchiveExported q s).state := by
  unfold cmdArchiveExported
  repeat' split
  all_goals try exact .refl
  refine Moves.trans ?_ (Moves.ofTables (State.enqueue_tables ..))
  exact Moves.ofTables (s.mapArch_tables _ (fun p => by cases p <;> rfl))

theorem cmdArchiveErase_moves (plane block : Nat) : Moves s (cmdArchiveErase plane block s).state := by
  unfold cmdArchiveErase
  repeat' split
  all_goals try exact .refl
  exact s.mapPlane_moves _ (f := fun pl => pl.mapBlock block (fun y => { y with state := .erasing }))
    (fun pl => by simp [Plane.mapBlock])

end Marking

/-! ## Every command (R166) -/

theorem Moves.ofEq {s t : State} (h : t = s) : Moves s t := h ▸ .refl

theorem judgeCmd_moves (p : Port) (c : Cmd) (s : State) : Moves s (judgeCmd p c s).state := by
  obtain ⟨hquery, hread, hcand, hseat, hsitting⟩ := judgeCmd_reads s
  cases c with
  | sessionOpen n t => exact cmdSessionOpen_moves ..
  | sessionGo => exact Moves.ofTables rfl
  | sessionClose => exact cmdSessionClose_moves ..
  | sessionDiscard => exact cmdSessionDiscard_moves ..
  | seatDefine => exact cmdSeatDefine_moves ..
  | zoneGrant => exact cmdZoneGrant_moves ..
  | sittingDefine => exact cmdSittingDefine_moves ..
  | cueDefine => exact cmdCueDefine_moves ..
  | layoutDefine => exact cmdLayoutDefine_moves ..
  | candidateAdd => exact cmdCandidateAdd_moves ..
  | candidateAmend => exact cmdCandidateAmend_moves ..
  | allocate => exact cmdAllocate_moves ..
  | allocAbort => exact cmdAllocAbort_moves ..
  | keyItem => exact cmdKeyItem_moves ..
  | keySeal => exact cmdKeySeal_moves ..
  | keyUnseal => exact cmdKeyUnseal_moves ..
  | remark => exact cmdRemark_moves ..
  | finalise => exact cmdFinalise_moves ..
  | archiveExported => exact cmdArchiveExported_moves ..
  | archiveErase => exact cmdArchiveErase_moves ..
  | openDoors => exact cmdOpenDoors_moves ..
  | start => exact cmdStart_moves ..
  | pause => exact cmdPause_moves ..
  | resume => exact cmdResume_moves ..
  | admitDesk => exact cmdAdmit_moves ..
  | move => exact cmdMove_moves ..
  | seatService => exact cmdSeatService_moves ..
  | restStart => exact screenCand_moves s _ _ (fun i c t hc => restStartOwn_moves t hc)
  | restEnd => exact screenCand_moves s _ _ (fun i c t hc => restEndOwn_moves t hc)
  | finish => exact screenCand_moves s _ _ (fun i c t hc => finishOwn_moves t hc)
  | withdraw => exact screenCand_moves s _ _ (fun i c t hc => withdrawOwn_moves t hc)
  | issueTag => exact cmdIssueTag_moves ..
  | returnTags => exact cmdReturnTags_moves ..
  | voidTag => exact cmdVoidTag_moves ..
  | claimTag => exact cmdClaimTag_moves ..
  | announce => exact cmdAnnounce_moves ..
  | batchOpen => exact cmdBatchOpen_moves ..
  | page => exact cmdPage_moves ..
  | sheetQuery t => exact Moves.ofEq (hquery t)
  | sheetDiscard => exact cmdSheetDiscard_moves ..
  | batchClose => exact cmdBatchClose_moves ..
  | archiveRead q => exact Moves.ofEq (hread q)
  | readCandidate sel v => exact Moves.ofEq (hcand sel v)
  | readSeat n => exact Moves.ofEq (hseat n)
  | readSitting n => exact Moves.ofEq (hsitting n)
  | portStatus => exact Moves.ofTables rfl
  | archiveStatus => exact .refl
  | unknown => exact .refl
  | badLength => exact .refl

end Sys2Proof.Machine
end

section
/-! SUPPORT. The moves of the ports, of the archive and of every event, and with them what every step keeps of
the tables. -/

namespace Sys2Proof.Machine

/-! ## The ports (R163 to R166, R169, R176) -/

section Ports
variable (s : State) (p : Port)

theorem State.mapPort_moves (f : PortState → PortState) : Moves s (s.mapPort p f) := Moves.ofTables rfl

theorem State.takeCommand_moves (f : LinkFrame) : Moves s (s.takeCommand p f) := by
  have hjudge : Moves s (s.judge p f.cmd).state := by
    unfold State.judge
    split
    · exact .refl
    · exact judgeCmd_moves ..
  exact hjudge.trans (State.mapPort_moves _ p
    (fun ps => { ps with inService := some f, replySlot := some ((s.judge p f.cmd).reply f) }))

theorem State.flagError_moves : Moves s (s.flagError p) := s.mapPort_moves p _

theorem State.intake_moves (f : LinkFrame) : Moves s (s.intake p f) := by
  unfold State.intake
  split
  · exact s.takeCommand_moves p f
  · exact s.mapPort_moves p _
  · exact s.flagError_moves p

theorem State.arrive_moves (tag : Byte) (c : Cmd) : Moves s (s.arrive p tag c) := by
  unfold State.arrive
  split
  · exact s.flagError_moves p
  · exact s.intake_moves p _

theorem State.assemble_moves (a : Assembly) : Moves s (s.assemble p a) := s.mapPort_moves p _

theorem State.badFrame_moves : Moves s (s.badFrame p) := (s.assemble_moves p _).trans (State.flagError_moves ..)

theorem State.completeFrame_moves (got : List Byte) (bad : Bool) : Moves s (s.completeFrame p got bad) := by
  unfold State.completeFrame
  repeat' split
  all_goals try exact s.badFrame_moves p
  exact (s.assemble_moves p _).trans (State.intake_moves ..)

theorem State.collectByte_moves (got : List Byte) (bad : Bool) : Moves s (s.collectByte p got bad) := by
  unfold State.collectByte
  repeat' split
  · exact .refl
  · exact s.badFrame_moves p
  · exact s.completeFrame_moves p ..
  · exact s.assemble_moves p _

theorem State.receiveByte_moves (b : Byte) (framing bad : Bool) : Moves s (s.receiveByte p b framing bad) := by
  have hflag : Moves s (if bad then s.flagError p else s) := by
    split
    · exact s.flagError_moves p
    · exact .refl
  unfold State.receiveByte
  split
  · exact s.badFrame_moves p
  · exact s.collectByte_moves p ..
  · exact s.flagError_moves p
  · dsimp only
    split
    · exact hflag.trans (State.assemble_moves ..)
    · exact hflag

theorem State.endReply_moves : Moves s (s.endReply p) := by
  have hfree : Moves s (s.mapPort p (fun ps => { ps with sending := .none, replySlot := none, inService := none })) :=
    s.mapPort_moves p _
  unfold State.endReply
  split
  · exact hfree
  · exact (hfree.trans (State.mapPort_moves ..)).trans (State.takeCommand_moves ..)

end Ports

/-! ## The archive (R149 to R160) -/

section Archive
variable (s : State) (p : PlaneId)

theorem Plane.length_mapBlock (pl : Plane) (b : Nat) (f : Block → Block) : (pl.mapBlock b f).blocks.length = pl.blocks.length := by
  simp [Plane.mapBlock]

theorem State.mapMem_moves (f : List Host.Cell → List Host.Cell) : Moves s (s.mapMem f) :=
  Moves.ofTables (s.mapArch_tables _ (fun q => by cases q <;> rfl))

theorem State.disturb_moves : Moves s s.disturb := Moves.ofTables (s.mapArch_tables _ (fun q => by cases q <;> rfl))

theorem State.pump_moves : Moves s (s.pump p) := Moves.ofTables (s.mapArch_tables _ (fun q => by rw [Archive.pump_blocks]))

theorem State.openOrStall_moves : Moves s (s.openOrStall p) := by
  simp only [State.openOrStall]
  split
  · exact s.mapPlane_moves p (fun pl => by simp [Plane.length_mapBlock])
  · refine Moves.trans ?_ (State.notify_moves ..)
    exact s.mapPlane_moves p (fun _ => rfl)

theorem State.programPass_moves (b page : Nat) (r : ArchRecord) : Moves s (s.programPass p b page r) := by
  have hstored : ∀ u : State, Moves u (u.mapArch (fun a =>
      { a with lastStored := max a.lastStored r.seq, queue := freeEntry a.queue r.seq })) :=
    fun u => Moves.ofTables (u.mapArch_tables _ (fun q => by cases q <;> rfl))
  have hprogrammed : Moves s (((s.mapMem (fun m => programPage m p b page r.page)).mapPlane p (fun pl =>
      { (pl.shift .pass).mapBlock b (fun x => x.stored page r.seq) with run := .none, progBuf := none })).mapArch (fun a =>
      { a with lastStored := max a.lastStored r.seq, queue := freeEntry a.queue r.seq })) :=
    (s.mapMem_moves _).trans ((State.mapPlane_moves _ p (fun pl => by simp [Plane.length_mapBlock, Plane.shift])).trans
      (hstored _))
  simp only [State.programPass]
  refine Moves.trans ?_ (State.pump_moves ..)
  split
  · exact hprogrammed.trans (State.openOrStall_moves ..)
  · exact hprogrammed

theorem State.programFail_moves (b page : Nat) (r : ArchRecord) : Moves s (s.programFail p b page r) := by
  simp only [State.programFail]
  refine Moves.trans ?_ (State.notify_moves ..)
  exact ((s.mapMem_moves _).trans (State.disturb_moves _)).trans
    (State.mapPlane_moves _ p (fun pl => by simp [Plane.length_mapBlock, Plane.shift]))

theorem State.tailProgrammed_moves (b : Nat) (pass : Bool) : Moves s (s.tailProgrammed p b pass) := by
  simp only [State.tailProgrammed]
  split
  · exact s.mapMem_moves _
  · exact ((s.mapMem_moves _).trans (State.disturb_moves _)).trans (State.notify_moves ..)

theorem State.retireEnd_moves (b : Nat) (pass : Bool) : Moves s (s.retireEnd p b pass) := by
  simp only [State.retireEnd]
  refine Moves.trans ?_ (State.pump_moves ..)
  refine Moves.trans ?_ (State.openOrStall_moves ..)
  refine Moves.trans (s.tailProgrammed_moves p b pass) ?_
  exact State.mapPlane_moves _ p (fun _ => rfl)

theorem State.resumePrograms_moves : Moves s (s.resumePrograms p) := by
  unfold State.resumePrograms
  refine Moves.trans ?_ (State.pump_moves ..)
  exact s.mapPlane_moves p (fun _ => rfl)

theorem State.erasePass_moves (b : Nat) : Moves s (s.erasePass p b) := by
  have herased : Moves s ((s.mapMem (fun m => eraseBlock m p b)).mapPlane p (fun pl =>
      { pl.mapBlock b (fun _ => { state := .erased }) with eraseBegun := false })) :=
    (s.mapMem_moves _).trans (State.mapPlane_moves _ p (fun pl => by simp [Plane.length_mapBlock]))
  simp only [State.erasePass]
  refine Moves.trans ?_ (State.resumePrograms_moves ..)
  split
  · exact herased.trans (State.openOrStall_moves ..)
  · exact herased

theorem State.eraseFail_moves (b : Nat) : Moves s (s.eraseFail p b) := by
  simp only [State.eraseFail]
  refine Moves.trans ?_ (State.resumePrograms_moves ..)
  refine Moves.trans ?_ (State.notify_moves ..)
  exact ((s.mapMem_moves _).trans (State.disturb_moves _)).trans
    (State.mapPlane_moves _ p (fun pl => by simp [Plane.length_mapBlock]))

theorem State.classify_moves (b : Nat) (c : Scan) : Moves s (s.classify p b c) := by
  simp only [State.classify]
  refine Moves.trans ?_ (Moves.ofTables (State.mapArch_tables _ _ (fun q => by cases q <;> rfl)))
  exact s.mapPlane_moves p (fun pl => Plane.length_mapBlock ..)

theorem Plane.settle_blocks (pl : Plane) : pl.settle.blocks.length = pl.blocks.length := by
  simp only [Plane.settle]
  repeat' split
  all_goals simp [Plane.length_mapBlock]

theorem State.lostSession_moves (c : Scan) : Moves s (s.lostSession c) := by
  unfold State.lostSession
  split
  · exact s.offer_moves ..
  · exact .refl

theorem State.scanEnd_moves (c : Scan) : Moves s (s.scanEnd c) := by
  have hsettle : Moves s (s.mapArch (fun a => a.settle c)) :=
    Moves.ofTables (s.mapArch_tables _ (fun q => by cases q <;> exact Plane.settle_blocks _))
  refine hsettle.trans ((State.lostSession_moves _ c).trans ?_)
  exact Moves.ofTables (State.mapArch_tables _ _ (fun q => by cases q <;> rfl))

theorem State.powerReset_clear : Move s s.powerReset :=
  Move.clear rfl (.inr (funext (fun p => by cases p <;> exact List.length_replicate)))

end Archive

/-! ## Every event -/

/-- An event answers a next state that a run of moves reaches. -/
def Moved (s : State) (o : Host.Outcome State Fault Refusal) : Prop := ∃ t, o = .next t ∧ Moves s t

theorem Moves.moved {s t : State} (h : Moves s t) : Moved s (.next t) := ⟨t, rfl, h⟩

theorem Moved.refl (s : State) : Moved s (.next s) := Moves.moved .refl

section Events
variable (s : State) (p : PlaneId)

theorem execUnknownCommand_moved (q : Port) (tag code : Byte) : Moved s (execUnknownCommand q tag code s) := by
  unfold execUnknownCommand
  split
  · exact Moved.refl s
  · exact (s.arrive_moves ..).moved

theorem execFrameGapTimeout_moved (q : Port) : Moved s (execFrameGapTimeout q s) := by
  unfold execFrameGapTimeout
  split
  · exact (s.badFrame_moves q).moved
  · exact Moved.refl s

theorem execReplyComplete_moved (q : Port) : Moved s (execReplyComplete q s) := by
  unfold execReplyComplete
  split
  · exact (s.endReply_moves q).moved
  · exact Moved.refl s

theorem execNoticeSent_moved (q : Port) : Moved s (execNoticeSent q s) := by
  unfold execNoticeSent
  split
  · exact (s.mapPort_moves q _).moved
  · exact Moved.refl s

theorem execClosingEnd_moved : Moved s (execClosingEnd s) := by
  unfold execClosingEnd
  split
  · exact (s.closeReset_clear).moves.moved
  · exact Moved.refl s

theorem State.drainOffer_moves : Moves s s.drainOffer := by
  unfold State.drainOffer
  repeat' split
  · refine Moves.trans ?_ (State.offerCustodyClose_moves ..)
    exact Moves.ofTables rfl
  · refine Moves.trans ?_ (State.offer_moves ..)
    exact Moves.ofTables rfl
  · exact .refl
  · exact .refl

theorem execLineIdle_moved : Moved s (execLineIdle s) := by
  unfold execLineIdle
  split
  · exact (s.setLine_moves _).moved
  · exact (s.setLine_moves _).moved
  · exact Moved.refl s

theorem execLineArbiterStart_moved : Moved s (execLineArbiterStart s) := by
  unfold execLineArbiterStart
  split
  · exact s.arbiterStart_moves.moved
  · exact Moved.refl s

theorem execControllerFrameAck_moved (ack : Bool) : Moved s (execControllerFrameAck ack s) := by
  have hseat : ∀ n, Moves s ((s.setLine .quiet).quietZero n) :=
    fun n => (s.setLine_moves .quiet).trans (State.quietZero_moves ..)
  simp only [execControllerFrameAck]
  repeat' split
  · exact (s.setLine_moves .quiet).moved
  · exact ((hseat _).trans (State.frameAcked_moves ..)).moved
  · exact ((hseat _).trans (State.frameNacked_moves ..)).moved
  · exact (s.setLine_moves .quiet).moved
  · exact Moved.refl s

theorem execSeatReportHeader_moved : Moved s (execSeatReportHeader s) := by
  unfold execSeatReportHeader
  repeat' split
  · exact (s.setLine_moves _).moved
  · exact (s.setLine_moves _).moved
  · exact (s.setLine_moves _).moved
  · exact Moved.refl s

theorem execHoldTimeout_moved : Moved s (execHoldTimeout s) := by
  unfold execHoldTimeout
  split
  · exact (s.setLine_moves _).moved
  · exact Moved.refl s

theorem execSeatReportStart_moved (rs : List SeatFrame) : Moved s (execSeatReportStart rs s) := by
  unfold execSeatReportStart
  split
  · exact (s.setLine_moves _).moved
  · exact Moved.refl s

theorem State.endReport_moves (ack : Bool) : Moves s (s.endReport ack) := Moves.ofTables rfl

theorem State.pushReport_moves (n : Nat) (k : ReportKind) : Moves s (s.pushReport n k) := Moves.ofTables rfl

theorem execSeatReportEnd_moved : Moved s (execSeatReportEnd s) := by
  unfold execSeatReportEnd
  repeat' split
  · exact (((s.endReport_moves true).trans (State.pushReport_moves ..)).trans
      ((State.quietZero_moves ..).trans (State.seatPresent_moves ..))).moved
  · exact (s.endReport_moves _).moved
  · exact ((s.endReport_moves false).trans ((State.quietZero_moves ..).trans (State.seatPresent_moves ..))).moved
  · exact (s.endReport_moves _).moved
  · exact (s.endReport_moves _).moved
  · exact Moved.refl s

theorem execHello_moved : Moved s (execHello s) := by
  unfold execHello
  split
  · exact (s.leaveInbox_moves.trans (State.helloAt_moves ..)).moved
  · exact Moved.refl s

theorem execKey_moved : Moved s (execKey s) := by
  unfold execKey
  split
  · exact (s.leaveInbox_moves.trans (State.keyAt_moves ..)).moved
  · exact Moved.refl s

theorem execCard_moved : Moved s (execCard s) := by
  unfold execCard
  split
  · exact (s.leaveInbox_moves.trans (State.admitAtSeat_moves ..)).moved
  · exact Moved.refl s

theorem execCallReport_moved : Moved s (execCallReport s) := by
  unfold execCallReport
  split
  · exact (s.leaveInbox_moves.trans (State.callAt_moves ..)).moved
  · exact Moved.refl s

theorem execDoneReport_moved : Moved s (execDoneReport s) := by
  unfold execDoneReport
  split
  · exact (s.leaveInbox_moves.trans (State.doneAt_moves ..)).moved
  · exact Moved.refl s

theorem execTagReport_moved : Moved s (execTagReport s) := by
  unfold execTagReport
  split
  · exact (s.leaveInbox_moves.trans (State.tagAt_moves ..)).moved
  · exact Moved.refl s

theorem execScoringEnd_moved : Moved s (execScoringEnd s) := by
  unfold execScoringEnd
  split
  · exact Moved.refl s
  · exact ((s.marking_moves _).trans ((State.releaseSlot_moves ..).trans (State.takeSlot_moves ..))).moved

theorem execProgramPass_moved : Moved s (execProgramPass p s) := by
  unfold execProgramPass
  split
  · exact (s.programPass_moves ..).moved
  · exact Moved.refl s

theorem execProgramFail_moved : Moved s (execProgramFail p s) := by
  unfold execProgramFail
  split
  · exact (s.programFail_moves ..).moved
  · exact Moved.refl s

theorem execRetireMarkEnd_moved (pass : Bool) : Moved s (execRetireMarkEnd p pass s) := by
  unfold execRetireMarkEnd
  split
  · exact (s.retireEnd_moves ..).moved
  · exact Moved.refl s

theorem execEraseStart_moved : Moved s (execEraseStart p s) := by
  unfold execEraseStart
  split
  · exact (s.mapPlane_moves p (f := fun pl => { pl with eraseBegun := true }) (fun _ => rfl)).moved
  · exact Moved.refl s

theorem execEraseEnd_moved (pass : Bool) : Moved s (execEraseEnd p pass s) := by
  unfold execEraseEnd
  split
  · cases pass
    · exact (s.eraseFail_moves ..).moved
    · exact (s.erasePass_moves ..).moved
  · exact Moved.refl s

theorem execScanBlockClassify_moved (b : Nat) : Moved s (execScanBlockClassify p b s) := by
  unfold execScanBlockClassify
  repeat' split
  · exact (s.classify_moves ..).moved
  · exact Moved.refl s
  · exact Moved.refl s

theorem execScanEnd_moved : Moved s (execScanEnd s) := by
  unfold execScanEnd
  split
  · exact (s.scanEnd_moves _).moved
  · exact Moved.refl s

end Events

/-- Every event answers a next state that a run of moves reaches. -/
theorem exec_moved (i : Instr) (s : State) : Moved s (exec i s) := by
  rcases hcmd : linkCommand i with _ | ⟨p, tag, c⟩
  case some => rw [exec_of_linkCommand hcmd]; exact (s.arrive_moves ..).moved
  case none =>
    cases i
    case powerReset => exact s.powerReset_clear.moves.moved
    case hallSecond => exact s.hallSecond_moves.moved
    case readingEnd => exact (s.early_moves ..).moved
    case elapsedCueFire => exact (s.early_moves ..).moved
    case defaultAdmissionClose => exact (s.early_moves ..).moved
    case remainingCueFire => exact (s.early_moves ..).moved
    case expiry => exact (s.early_moves ..).moved
    case restBudgetEnd => exact (s.early_moves ..).moved
    case pauseLimit => exact (s.early_moves ..).moved
    case seatPollDue => exact (s.early_moves ..).moved
    case closingDrainOffer => exact s.drainOffer_moves.moved
    case closingEnd => exact execClosingEnd_moved s
    case allocationTurn => exact s.allocationTurn_moves.moved
    case unknownCommand => exact execUnknownCommand_moved ..
    case linkByteReceived => exact (s.receiveByte_moves ..).moved
    case frameGapTimeout => exact execFrameGapTimeout_moved ..
    case transmitterStart p => exact (s.mapPort_moves p _).moved
    case replyComplete => exact execReplyComplete_moved ..
    case linkBreak p => exact (s.mapPort_moves p (fun _ => {})).moved
    case lineIdle => exact execLineIdle_moved s
    case lineArbiterStart => exact execLineArbiterStart_moved s
    case controllerFrameAck => exact execControllerFrameAck_moved ..
    case seatReportHeader => exact execSeatReportHeader_moved s
    case holdTimeout => exact execHoldTimeout_moved s
    case seatReportEnd => exact execSeatReportEnd_moved s
    case hello => exact execHello_moved s
    case key => exact execKey_moved s
    case card => exact execCard_moved s
    case callReport => exact execCallReport_moved s
    case doneReport => exact execDoneReport_moved s
    case tagReport => exact execTagReport_moved s
    case scoringStart => exact s.takeSlot_moves.moved
    case scoringEnd => exact execScoringEnd_moved s
    case waitingResultQueue => exact s.serveWaiting_moves.moved
    case programStart => exact (s.pump_moves ..).moved
    case programPass => exact execProgramPass_moved ..
    case programFail => exact execProgramFail_moved ..
    case retireMarkEnd => exact execRetireMarkEnd_moved ..
    case eraseStart => exact execEraseStart_moved ..
    case eraseEnd => exact execEraseEnd_moved ..
    case scanBlockClassify => exact execScanBlockClassify_moved ..
    case scanEnd => exact execScanEnd_moved s
    case seatReportStart => exact execSeatReportStart_moved ..
    case noticeSent => exact execNoticeSent_moved ..
    all_goals cases hcmd

/-- A step is a run of moves. -/
theorem step_moves {s t : State} (h : step s = .next t) : Moves s t := by
  obtain rfl | ⟨c, rest, -, hexec⟩ := step_next h
  · exact .refl
  · obtain ⟨u, hu, hmoves⟩ := exec_moved c { s with pending := rest }
    rw [hexec] at hu
    cases hu
    exact (Moves.ofTables (s := s) (t := { s with pending := rest }) rfl).trans hmoves

/-- Settles O6: the queues from the pass over the events, the records and the clocks from the moves. -/
theorem boundsKept : Obligations.BoundsKept := by
  unfold Obligations.BoundsKept
  exact ⟨fun s t hbounded h => (step_keeps h).2 hbounded,
    fun s t hordered hfields h => hfields.moves hordered (step_moves h),
    fun s t hcounts hordered hphases hclocks h => hclocks.moves hcounts hordered hphases (step_moves h)⟩

/-- Settles O7: every move keeps the counts, the tables' order, the phases and the occupancy. -/
theorem tablesKept : Obligations.TablesKept := by
  unfold Obligations.TablesKept
  exact ⟨fun s t hcounts h => hcounts.moves (step_moves h), fun s t hordered h => hordered.moves (step_moves h),
    fun s t hcounts hordered hphases h => hphases.moves hcounts hordered (step_moves h),
    fun s t hordered hocc h => hocc.moves hordered (step_moves h)⟩

end Sys2Proof.Machine
end

section
/-! SUPPORT. What is left as it was by the notices, the sitting tests and the displays; the candidates that enter a
state (R66, R69, R74); the finish of a candidate (R72, R94). -/

namespace Sys2Proof.Machine

/-! ## What stays -/

section Stays
variable {s : State} {i n : Nat} {x : Sitting}

theorem State.notifyZone_hall (s : State) (z : Nat) (k : Notice) : (s.notifyZone z k).hall = s.hall := by
  rw [State.notifyZone_eq]

theorem State.notifyZone_cand? (s : State) (z : Nat) (k : Notice) (i : Nat) : (s.notifyZone z k).cand? i = s.cand? i := by
  rw [State.notifyZone_eq]; rfl

theorem State.notifyZone_seat? (s : State) (z : Nat) (k : Notice) (n : Nat) : (s.notifyZone z k).seat? n = s.seat? n := by
  rw [State.notifyZone_eq]; rfl

theorem State.notifyZone_sitting? (s : State) (z : Nat) (k : Notice) (n : Nat) : (s.notifyZone z k).sitting? n = s.sitting? n := by
  rw [State.notifyZone_eq]; rfl

theorem State.notifyZone_custody (s : State) (z : Nat) (k : Notice) : (s.notifyZone z k).custody = s.custody := by
  rw [State.notifyZone_eq]

theorem State.offer_hall (s : State) (kind : RecordKind) (body : List Field) (now : Nat) :
    (s.offer kind body now).hall = s.hall := (s.offer_rest kind body now).2.2.2

theorem State.offerCustodyClose_hall (s : State) (i : Nat) (amended : Bool) : (s.offerCustodyClose i amended).hall = s.hall := by
  unfold State.offerCustodyClose
  split
  · rfl
  · exact s.offer_hall ..

theorem State.closedTest_hall (s : State) (n : Nat) :
    (s.closedTest n).hall.cands = s.hall.cands ∧ (s.closedTest n).hall.seats = s.hall.seats := by
  unfold State.closedTest
  repeat' split
  · exact ⟨rfl, rfl⟩
  · rw [State.offer_hall]; exact ⟨rfl, rfl⟩
  · exact ⟨rfl, rfl⟩

theorem State.sittingTests_hall (s : State) (n : Nat) :
    (s.sittingTests n).hall.cands = s.hall.cands ∧ (s.sittingTests n).hall.seats = s.hall.seats := by
  unfold State.sittingTests
  repeat' split
  · exact ⟨rfl, rfl⟩
  · exact State.closedTest_hall _ n
  · exact s.closedTest_hall n

theorem State.sittingTests_cand? (s : State) (n i : Nat) : (s.sittingTests n).cand? i = s.cand? i := by
  rw [State.cand?, (s.sittingTests_hall n).1, State.cand?]

theorem State.sittingTests_seat? (s : State) (n m : Nat) : (s.sittingTests n).seat? m = s.seat? m := by
  rw [State.seat?, (s.sittingTests_hall n).2, State.seat?]

theorem State.closedTest_counts (hx : s.sitting? n = some x) : ∃ z, (s.closedTest n).sitting? n = some z ∧ z.counts = x.counts := by
  by_cases h : x.state = .collecting ∧ x.counts.finished = 0
  · rw [State.closedTest_of_ends hx h.1 h.2, State.sitting?, State.offer_hall]
    have hz := State.mapSitting_sitting? s n n (fun y => { y with state := .closed }) (fun _ => rfl)
    rw [if_pos rfl, hx] at hz
    exact ⟨_, hz, rfl⟩
  · rw [State.closedTest_of_stays hx h]
    exact ⟨x, hx, rfl⟩

theorem State.sittingTests_counts (hx : s.sitting? n = some x) :
    ∃ z, (s.sittingTests n).sitting? n = some z ∧ z.counts = x.counts := by
  by_cases h : x.state = .writing ∧ x.counts.nobodyLeft = true
  · rw [State.sittingTests_of_collecting hx h.1 h.2]
    have hz := State.closedTest_counts (State.collecting_sitting? hx)
    exact hz
  · rw [State.sittingTests_of_not_collecting hx h]
    exact State.closedTest_counts hx

/-- A sitting's hold goes with its flag and the hall's. -/
theorem State.held_mapSitting (s : State) (n m : Nat) {f : Sitting → Sitting} (hf : ∀ y, (f y).number = y.number)
    (hpaused : ∀ y, (f y).paused = y.paused) : (s.mapSitting n f).held m = s.held m := by
  unfold State.held
  rw [State.mapSitting_clock, State.mapSitting_sitting? s n m f hf]
  split
  · rw [Option.map_map]
    exact congrArg (fun o => s.clock.hallPause || Option.getD o false)
      (congrArg (fun g => (s.sitting? m).map g) (funext hpaused))
  · rfl

theorem Counts.dec_inc (k : Counts) (a : CandState) : (k.inc a).dec a = k := by
  cases a <;> rfl

theorem Counts.somebody_inc (k : Counts) {a : CandState}
    (ha : a = .expected ∨ a = .admitted ∨ a = .writing ∨ a = .resting) : ¬ (k.inc a).nobodyLeft = true := by
  rw [Counts.nobodyLeft_iff]
  obtain rfl | rfl | rfl | rfl := ha <;> simp [Counts.inc]

/-- Nobody is left to write or to arrive once no candidate of the sitting is in one of the four states (R78). -/
theorem State.CountsAgree.nobodyLeft_iff (h : s.CountsAgree) (hx : x ∈ s.hall.sittings) : x.counts.nobodyLeft = true ↔
    ∀ d ∈ s.hall.cands, d.sitting = x.number →
      ¬ (d.state = .expected ∨ d.state = .admitted ∨ d.state = .writing ∨ d.state = .resting) := by
  have hzero : ∀ st, x.counts.get st = 0 ↔ ∀ d ∈ s.hall.cands, d.sitting = x.number → d.state ≠ st := by
    intro st
    rw [h.counts x hx, State.inState, List.countP_eq_zero]
    simp
  have hget : x.counts.nobodyLeft = true ↔ x.counts.get .expected = 0 ∧ x.counts.get .admitted = 0
      ∧ x.counts.get .writing = 0 ∧ x.counts.get .resting = 0 := Counts.nobodyLeft_iff _
  rw [hget, hzero, hzero, hzero, hzero]
  constructor
  · rintro ⟨he, ha, hw, hr⟩ d hd hn (hs | hs | hs | hs)
    · exact he d hd hn hs
    · exact ha d hd hn hs
    · exact hw d hd hn hs
    · exact hr d hd hn hs
  · intro hall
    refine ⟨fun d hd hn hs => hall d hd hn ?_, fun d hd hn hs => hall d hd hn ?_, fun d hd hn hs => hall d hd hn ?_,
      fun d hd hn hs => hall d hd hn ?_⟩
    · exact .inl hs
    · exact .inr (.inl hs)
    · exact .inr (.inr (.inl hs))
    · exact .inr (.inr (.inr hs))

end Stays

/-! ## A candidate that enters a state -/

section Enter
variable {s : State} {i m : Nat} {c d : Cand} {x : Sitting} {y : Seat}

/-- A candidate's record with its state and the counts of its sitting moved (R19). -/
def State.moveCandTo (s : State) (i : Nat) (c d : Cand) : State :=
  (s.mapCand i (fun _ => d)).mapSitting c.sitting (fun z => { z with counts := (z.counts.dec c.state).inc d.state })

theorem State.moveCandTo_cand? (hc : s.cand? i = some c) (d : Cand) : (s.moveCandTo i c d).cand? i = some d := by
  rw [State.moveCandTo, State.mapSitting_cand?, State.mapCand_cand?, if_pos rfl, hc, Option.map_some]

theorem State.moveCandTo_sitting? (hx : s.sitting? c.sitting = some x) (i : Nat) (d : Cand) :
    (s.moveCandTo i c d).sitting? c.sitting = some { x with counts := (x.counts.dec c.state).inc d.state } := by
  rw [State.moveCandTo, State.mapSitting_sitting? _ _ _
    (fun z => { z with counts := (z.counts.dec c.state).inc d.state }) (fun _ => rfl), if_pos rfl]
  simp only [State.mapCand_sitting?, hx, Option.map_some]

theorem State.moveCandTo_held (s : State) (i : Nat) (c d : Cand) (n : Nat) : (s.moveCandTo i c d).held n = s.held n :=
  State.held_mapSitting (s.mapCand i (fun _ => d)) c.sitting n (fun _ => rfl) (fun _ => rfl)

/-- A change of state and then of the record is one change of the record. -/
theorem State.setCandState_mapCand_eq (hc : s.cand? i = some c) {new : CandState} (g : Cand → Cand)
    (hstate : (g { c with state := new }).state = new) :
    (s.setCandState i new).mapCand i g = s.moveCandTo i c (g { c with state := new }) := by
  rw [State.setCandState_mapCand hc, State.moveCandTo, hstate]
  exact congrArg (fun t => State.mapSitting t c.sitting (fun z => { z with counts := (z.counts.dec c.state).inc new }))
    (State.mapCand_congr s i hc rfl)

theorem State.setCandState_eq (hc : s.cand? i = some c) (new : CandState) :
    s.setCandState i new = s.moveCandTo i c { c with state := new } := by
  rw [State.setCandState_of_cand hc, State.moveCandTo]
  exact congrArg (fun t => State.mapSitting t c.sitting (fun z => { z with counts := (z.counts.dec c.state).inc new }))
    (State.mapCand_congr s i hc rfl)

theorem State.moveCandTo_retold (hc : s.cand? i = some c) (hnumber : d.number = c.number) (hsitting : d.sitting = c.sitting)
    (hseat : d.seat = c.seat) (hst : d.state ≠ c.state) : Retold s (s.moveCandTo i c d) i c d := by
  refine ⟨hc, hnumber, hsitting, hseat, id, DisplayOnly.id, ?_⟩
  rw [State.moveCandTo, State.mapSitting_tables, State.mapCand_tables s hc, Sitting.moveCount_of_ne hst, List.map_id]
  rfl

/-- The Clock Unit's write of a candidate's display (R69). -/
theorem State.showCand_eq (hc : s.cand? i = some c) (hseat : c.seat = some m) {mode : DisplayMode} {rem num : Nat}
    {lock : Bool} (hshown : c.shown (s.held c.sitting) = some (mode, rem, num, lock)) (code : Option DispCode) :
    s.showCand i code = s.writeDisplay m (fun d =>
      { d with mode := mode, remaining := rem, number := num, lock := lock }.withCode? code) := by
  rw [State.showCand_of_seat hc hseat, State.showAt_of_shown hc hshown]

theorem State.notifyCollect_of_seat (hc : s.cand? i = some c) (hseat : c.seat = some m) (hy : s.seat? m = some y) :
    s.notifyCollect i = s.notifyZone y.zone (.collect m c.number c.cause c.issued c.returned s.hall.time) := by
  simp only [State.notifyCollect, hc, hseat, Option.bind_some, hy, State.seat_of_seat? hy]

end Enter

/-! ## The finish of a candidate (R72, R94) -/

section Finish
variable {s : State} {i m : Nat} {c : Cand} {x : Sitting} {y : Seat}

/-- A candidate's record once it has finished (R72). -/
def Cand.finishedFor (c : Cand) (x : Sitting) (cause : FinishCause) : Cand :=
  { c with state := .finished, cause := some cause, cuePtr := max c.cuePtr x.remainingCues.length }

/-- A finish before the collection and the sitting tests. -/
def State.finished (s : State) (i m : Nat) (c : Cand) (x : Sitting) (y : Seat) (cause : FinishCause) : State :=
  ((s.moveCandTo i c (c.finishedFor x cause)).writeDisplay m (fun d =>
    { d with mode := .finished, remaining := 0, number := 0, lock := true })).notifyZone y.zone
      (.collect m c.number (some cause) c.issued c.returned s.hall.time)

theorem State.finishCand_eq (hc : s.cand? i = some c) (hseat : c.seat = some m) (hy : s.seat? m = some y)
    (hx : s.sitting? c.sitting = some x) (cause : FinishCause) :
    s.finishCand i cause = ((s.finished i m c x y cause).collectionTest i).sittingTests c.sitting := by
  have hlen : s.remainingCount c = x.remainingCues.length := by
    rw [State.remainingCount, hx]
    rfl
  have hmoved : (s.setCandState i .finished).mapCand i (fun d =>
      { d with cause := some cause, cuePtr := max d.cuePtr x.remainingCues.length }) =
      s.moveCandTo i c (c.finishedFor x cause) := State.setCandState_mapCand_eq hc _ rfl
  have hcand := State.moveCandTo_cand? hc (c.finishedFor x cause)
  have hshow := State.showCand_eq (m := m) hcand hseat (mode := .finished) (rem := 0) (num := 0) (lock := true) rfl none
  have hseat' : ((s.moveCandTo i c (c.finishedFor x cause)).writeDisplay m (fun d =>
      { d with mode := .finished, remaining := 0, number := 0, lock := true })).seat? m =
      some { y with display := { y.display with mode := .finished, remaining := 0, number := 0, lock := true }, owed := true } := by
    rw [State.writeDisplay_seat?, if_pos rfl]
    exact congrArg (Option.map _) hy
  have hcollect := State.notifyCollect_of_seat (s := (s.moveCandTo i c (c.finishedFor x cause)).writeDisplay m (fun d =>
      { d with mode := .finished, remaining := 0, number := 0, lock := true })) (c := c.finishedFor x cause) hcand hseat hseat'
  simp only [State.finishCand, hc, hlen, hmoved, hshow]
  exact congrArg (fun t => (State.collectionTest t i).sittingTests c.sitting) hcollect

theorem State.finished_cand? (hc : s.cand? i = some c) (cause : FinishCause) :
    (s.finished i m c x y cause).cand? i = some (c.finishedFor x cause) := by
  rw [State.finished, State.notifyZone_cand?]
  exact State.moveCandTo_cand? hc _

theorem State.finished_sitting? (hx : s.sitting? c.sitting = some x) (cause : FinishCause) :
    (s.finished i m c x y cause).sitting? c.sitting = some { x with counts := (x.counts.dec c.state).inc .finished } := by
  rw [State.finished, State.notifyZone_sitting?]
  exact State.moveCandTo_sitting? hx i (c.finishedFor x cause)

theorem State.finished_custody (cause : FinishCause) : (s.finished i m c x y cause).custody = s.custody := by
  rw [State.finished, State.notifyZone_custody]
  rfl

theorem State.finished_seat? (hy : s.seat? m = some y) (cause : FinishCause) : (s.finished i m c x y cause).seat? m =
    some { y with display := { y.display with mode := .finished, remaining := 0, number := 0, lock := true }, owed := true } := by
  rw [State.finished, State.notifyZone_seat?, State.writeDisplay_seat?, if_pos rfl]
  exact congrArg (Option.map _) hy

theorem State.finished_retold (hc : s.cand? i = some c) (hstate : c.state = .writing ∨ c.state = .resting) (cause : FinishCause) :
    Retold s (s.finished i m c x y cause) i c (c.finishedFor x cause) := by
  have hst : CandState.finished ≠ c.state := by obtain h | h := hstate <;> rw [h] <;> decide
  exact ((State.moveCandTo_retold hc (d := c.finishedFor x cause) rfl rfl rfl hst).display
    (State.writeDisplay_tables _ m _)).same (State.notifyZone_tables ..)

/-- The counts after a candidate has left its paper: nobody is left exactly where nobody else was. -/
theorem State.moveCandTo_nobodyLeft (hc : s.cand? i = some c) (hx : s.sitting? c.sitting = some x) (hcounts : s.CountsAgree)
    {d : Cand} (hnumber : d.number = c.number) (hsitting : d.sitting = c.sitting) (hseat : d.seat = c.seat)
    (hst : d.state ≠ c.state)
    (hleft : ¬ (d.state = .expected ∨ d.state = .admitted ∨ d.state = .writing ∨ d.state = .resting)) :
    ((x.counts.dec c.state).inc d.state).nobodyLeft = true ↔ ¬ ∃ j e, j ≠ i ∧ s.cand? j = some e ∧ e.sitting = c.sitting
      ∧ (e.state = .expected ∨ e.state = .admitted ∨ e.state = .writing ∨ e.state = .resting) := by
  have hretold := State.moveCandTo_retold hc hnumber hsitting hseat hst
  obtain ⟨f, -, -, -, hsittings, hcands⟩ := hretold.parts
  have hcounts' := hcounts.ofCand hc hsitting hsittings hcands
  obtain ⟨hmem, hn⟩ := State.mem_of_sitting? (State.moveCandTo_sitting? hx i d)
  rw [hcounts'.nobodyLeft_iff hmem]
  constructor
  · rintro hnobody ⟨j, e, hj, he, hes, hs⟩
    exact hnobody e (List.mem_of_getElem? ((hretold.others hj).trans he)) (hes.trans hn.symm) hs
  · intro hothers e he hes hs
    obtain ⟨j, hj⟩ := List.getElem?_of_mem he
    by_cases hji : j = i
    · subst hji
      obtain rfl := Option.some.inj ((State.moveCandTo_cand? hc d).symm.trans hj)
      exact hleft hs
    · exact hothers ⟨j, e, hji, (hretold.others hji).symm.trans hj, hes.trans hn, hs⟩

/-- The candidate that has just come into a state is counted in it. -/
theorem Counts.inc_pos (k : Counts) (a : CandState) : 0 < (k.inc a).get a := by
  cases a <;> exact Nat.succ_pos _

/-- A collected candidate, and the counts of its sitting (R109). -/
theorem State.collectionTest_of_finished {s : State} {i m : Nat} {c : Cand} {x : Sitting} {y : Seat} (hc : s.cand? i = some c)
    (hstate : c.state = .finished) (hseat : c.seat = some m) (hy : s.seat? m = some y) (hx : s.sitting? c.sitting = some x)
    (hall : ∀ e ∈ s.custody, e.cand = some i → e.state ≠ .issued) :
    let t := s.collectionTest i
    t.cand? i = some { c with state := .collected, nilScript := c.nilScript || s.allVoid i, seat := none }
    ∧ t.seat? m = some y.release ∧ ∃ z, t.sitting? c.sitting = some z ∧ z.counts = (x.counts.dec .finished).inc .collected := by
  intro t
  have ht : t = (((s.collected i c.sitting).releaseCand i).offerCustodyClose i false).sittingTests c.sitting :=
    State.collectionTest_of_collectable hc hstate hall
  have hcollected : (s.collected i c.sitting).cand? i = some { c with state := .collected, nilScript := c.nilScript || s.allVoid i } := by
    rw [State.collected, State.mapSitting_cand?, State.mapCand_cand?, if_pos rfl, hc, Option.map_some]
  have hrelease := State.releaseCand_of_seat (n := m) hcollected hseat
  have hsitting : ((s.collected i c.sitting).releaseCand i).sitting? c.sitting =
      some { x with counts := (x.counts.dec .finished).inc .collected } := by
    rw [hrelease, State.mapCand_sitting?, State.mapSeat_sitting?, State.collected, State.mapSitting_sitting? _ _ _
      (fun y => { y with counts := (y.counts.dec .finished).inc .collected }) (fun _ => rfl), if_pos rfl,
      State.mapCand_sitting?, hx, Option.map_some]
  have hoffer : (((s.collected i c.sitting).releaseCand i).offerCustodyClose i false).sitting? c.sitting =
      some { x with counts := (x.counts.dec .finished).inc .collected } := by
    rw [State.sitting?, State.offerCustodyClose_hall]
    exact hsitting
  refine ⟨?_, ?_, ?_⟩
  · rw [ht, State.sittingTests_cand?, State.cand?, State.offerCustodyClose_hall]
    exact State.releaseCand_cand? hcollected
  · rw [ht, State.sittingTests_seat?, State.seat?, State.offerCustodyClose_hall, hrelease]
    have hz := State.mapSeat_seat? (s.collected i c.sitting) m m Seat.release (fun _ => rfl)
    rw [if_pos rfl] at hz
    exact hz.trans (congrArg (Option.map Seat.release) hy)
  · rw [ht]
    have hz := State.sittingTests_counts hoffer
    exact hz

end Finish

/-- Settles O30: the finish, with the collection and the sitting tests. -/
theorem finishEffects : Obligations.FinishEffects := by
  unfold Obligations.FinishEffects
  intro s i m c x y cause hc hstate hseat hy hx moved v waits others
  have hv : v = s.finished i m c x y cause := rfl
  have heq : s.finishCand i cause = (v.collectionTest i).sittingTests c.sitting := State.finishCand_eq hc hseat hy hx cause
  have hcand : v.cand? i = some moved := State.finished_cand? hc cause
  have hsitting := State.finished_sitting? (i := i) (m := m) (y := y) hx cause
  have hcustody : v.custody = s.custody := State.finished_custody cause
  have hst : CandState.finished ≠ c.state := by obtain h | h := hstate <;> rw [h] <;> decide
  have hstays : waits → v.collectionTest i = v := fun ⟨e, he, hcand', hissued⟩ =>
    State.collectionTest_of_stays hcand (.inr ⟨e, hcustody ▸ he, hcand', hissued⟩)
  have hnobody := fun hcounts : s.CountsAgree => State.moveCandTo_nobodyLeft (d := moved) hc hx hcounts rfl rfl rfl hst
    (by simp [moved])
  refine ⟨heq, fun hwriting hcounts _ hwaits hothers => ?_, fun hwriting hcounts _ hwaits hothers => ?_, fun hwaits _ => ?_⟩
  · rw [heq, hstays hwaits]
    exact State.sittingTests_of_somebody hsitting hwriting (fun h => (hnobody hcounts).mp h hothers)
  · rw [heq, hstays hwaits]
    exact State.sittingTests_of_nobody hsitting hwriting ((hnobody hcounts).mpr hothers)
      (Nat.pos_iff_ne_zero.mp (Counts.inc_pos (x.counts.dec c.state) .finished))
  · intro nil t
    have hall : ∀ e ∈ v.custody, e.cand = some i → e.state ≠ .issued :=
      fun e he hcand' hissued => hwaits ⟨e, hcustody ▸ he, hcand', hissued⟩
    obtain ⟨hcand', hseat', z, hz, hcounts⟩ :=
      State.collectionTest_of_finished hcand rfl hseat (State.finished_seat? hy cause) hsitting hall
    have hvoid : v.allVoid i = nil := by rw [State.allVoid, hcustody]
    obtain ⟨w, hw, hwcounts⟩ := State.sittingTests_counts hz
    have ht : t = (v.collectionTest i).sittingTests c.sitting := heq
    refine ⟨?_, ?_, w, ?_, ?_⟩
    · rw [ht, State.sittingTests_cand?, hcand', hvoid]
    · rw [ht, State.sittingTests_seat?, hseat']
      rfl
    · rw [ht]; exact hw
    · rw [hwcounts, hcounts, Counts.dec_inc]

end Sys2Proof.Machine
end

section
/-! SUPPORT. The entry into the paper (R74, R83). -/

namespace Sys2Proof.Machine

/-! ## A candidate that enters WRITING with its sitting -/

section Enter
variable {s : State} {i m : Nat} {c : Cand} {x : Sitting}

theorem State.joinSecond_of_not_ahead (h : TickKey.sitting n ∉ s.clock.ahead) (i : Nat) : s.joinSecond i n = s := by
  rw [State.joinSecond, if_neg]
  simpa using h

theorem State.joinSecond_of_ahead (h : TickKey.sitting n ∈ s.clock.ahead) (i : Nat) : s.joinSecond i n =
    { s with clock := { s.clock with ahead := s.clock.ahead ++ [TickKey.cand i] } } := by
  rw [State.joinSecond, if_pos]
  simpa using h

theorem State.joinSecond_hall (s : State) (i n : Nat) : (s.joinSecond i n).hall = s.hall := by
  unfold State.joinSecond; split <;> rfl

theorem State.joinSecond_held (s : State) (i n m : Nat) : (s.joinSecond i n).held m = s.held m := by
  unfold State.joinSecond; split <;> rfl

/-- The sitting tests do nothing to a sitting in WRITING that a candidate has just come to write or rest in. -/
theorem State.sittingTests_of_entered {t : State} (hx : s.sitting? c.sitting = some x) (hstate : x.state = .writing) {d : Cand}
    (hd : d.state = .writing ∨ d.state = .resting) (ht : t.hall.sittings = (s.moveCandTo i c d).hall.sittings) :
    t.sittingTests c.sitting = t := by
  have hsitting : t.sitting? c.sitting = some { x with counts := (x.counts.dec c.state).inc d.state } := by
    rw [State.sitting?, ht]
    exact State.moveCandTo_sitting? hx i d
  exact State.sittingTests_of_somebody hsitting hstate (Counts.somebody_inc _ (.inr (.inr hd)))

/-- A late admission (R74), with the display it shows. -/
theorem State.enterLate_eq (hc : s.cand? i = some c) (hseat : c.seat = some m) (hx : s.sitting? c.sitting = some x)
    (hstate : x.state = .writing) (override : Bool) : s.enterLate i c x override =
      ((s.moveCandTo i c (c.entered x (lateSkips x c) override)).joinSecond i c.sitting).writeDisplay m (fun d =>
        { d with mode := if s.held c.sitting then .held else .count, remaining := c.entitled - x.sel, number := 0,
                 lock := false }) := by
  have hmoved : (s.setCandState i .writing).mapCand i (fun y =>
      { y with consumed := x.sel, late := true, lateOverride := y.lateOverride || override,
               cuePtr := y.cuePtr + (lateSkips x c).length,
               exitClosed := y.exitClosed || (lateSkips x c).any (fun q => decide (q.kind = .exitClose)) }) =
      s.moveCandTo i c (c.entered x (lateSkips x c) override) := State.setCandState_mapCand_eq hc _ rfl
  have hcand : ((s.moveCandTo i c (c.entered x (lateSkips x c) override)).joinSecond i c.sitting).cand? i =
      some (c.entered x (lateSkips x c) override) := by
    rw [State.cand?, State.joinSecond_hall]
    exact State.moveCandTo_cand? hc _
  have hheld := (State.joinSecond_held (s.moveCandTo i c (c.entered x (lateSkips x c) override)) i c.sitting c.sitting).trans
    (State.moveCandTo_held s i c (c.entered x (lateSkips x c) override) c.sitting)
  have hshow := State.showCand_eq (m := m) hcand hseat (mode := if s.held c.sitting then .held else .count)
    (rem := c.entitled - x.sel) (num := 0) (lock := false) (congrArg _ hheld) none
  have hsittings := congrArg Hall.sittings
    (State.joinSecond_hall (s.moveCandTo i c (c.entered x (lateSkips x c) override)) i c.sitting)
  simp only [State.enterLate, hmoved, State.number_of_sitting? hx, hshow]
  exact State.sittingTests_of_entered (d := c.entered x (lateSkips x c) override) hx hstate (.inl rfl) hsittings

/-- An admission before the start of writing (R83), with the display it shows. -/
theorem State.admitCand_of_early (hc : s.cand? i = some c) (hseat : c.seat = some m) (hstate : x.state ≠ .writing) :
    s.admitCand i c x = (s.moveCandTo i c { c with state := .admitted, consumed := 0 }).writeDisplay m (fun d =>
      { d with mode := .ready, remaining := c.entitled, number := 0, lock := false }) := by
  have hmoved : (s.setCandState i .admitted).mapCand i (fun y => { y with consumed := 0 }) =
      s.moveCandTo i c { c with state := .admitted, consumed := 0 } := State.setCandState_mapCand_eq hc _ rfl
  rw [State.admitCand, if_neg hstate, hmoved]
  exact State.showCand_eq (State.moveCandTo_cand? hc { c with state := .admitted, consumed := 0 }) hseat rfl none

theorem State.admitCand_of_late (hstate : x.state = .writing) : s.admitCand i c x = s.enterLate i c x false := by
  rw [State.admitCand, if_pos hstate]

end Enter

/-- Settles O34: the early and the late admission. -/
theorem admissionEffects : Obligations.AdmissionEffects := by
  unfold Obligations.AdmissionEffects
  intro s i m c x hc hexpected hseat hx hahead
  refine ⟨fun hearly => ?_, fun hwriting hsel => ?_⟩
  · have hstate : x.state ≠ .writing := by obtain h | h := hearly <;> rw [h] <;> decide
    rw [State.admitCand_of_early hc hseat hstate, State.moveCandTo, hexpected,
      State.mapCand_congr s i hc (f := fun d => { d with state := .admitted, consumed := 0 })
        (g := fun _ => { c with state := .admitted, consumed := 0 }) rfl]
    rfl
  · intro skipped
    rw [State.admitCand_of_late hwriting, State.enterLate_eq hc hseat hx hwriting, State.joinSecond_of_not_ahead
      (s := s.moveCandTo i c (c.entered x (lateSkips x c) false)) hahead, State.moveCandTo, hexpected,
      State.mapCand_congr s i hc (f := fun d =>
        { d with state := .writing, consumed := x.sel, late := true, cuePtr := d.cuePtr + skipped.length,
                 exitClosed := d.exitClosed || skipped.any (fun q => decide (q.kind = .exitClose)) })
        (g := fun _ => c.entered x (lateSkips x c) false) (by simp only [Cand.entered, Bool.or_false]; rfl)]
    rfl

end Sys2Proof.Machine
end

section
/-! SUPPORT. ADMIT (R87, R88), rest (R89, R90), FINISH and WITHDRAW (R95, R96). -/

namespace Sys2Proof.Machine

/-! ## ADMIT (R87, R88) -/

section Admit
variable {s : State} {p : Port} {i m number : Nat} {c e : Cand} {x : Sitting}

theorem State.candByNumber_of_find (hi : s.findCand number = some i) (hc : s.cand? i = some c) :
    s.candByNumber number = some (i, c) := by
  simp only [State.candByNumber, hi, Option.bind_some, hc, Option.map_some]

/-- A command on a candidate that passes the screening goes on with the lamp of its seat out (R86, R93). -/
theorem screenCand_of_passes (hnumber : numberOk number = true) (hi : s.findCand number = some i) (hc : s.cand? i = some c)
    (hpass : s.passes p (s.candZone c) = true) (own : Nat → Cand → State → Answer) :
    screenCand p number s own = own i c (s.lampOff c.seat) := by
  rw [screenCand, if_neg (not_not.mpr hnumber), State.candByNumber_of_find hi hc]
  exact if_neg (not_not.mpr hpass)

theorem admitFields_of_cand (h : s.cand? i = some e) : admitFields s i =
    [optField 2 e.seat, ⟨2, e.entitled⟩, ⟨2, e.remaining⟩, ⟨1, flagsValue [e.late, e.lateOverride]⟩] := by
  simp only [admitFields, h]

theorem State.enterLate_cand? (hc : s.cand? i = some c) (hseat : c.seat = some m) (hx : s.sitting? c.sitting = some x)
    (hstate : x.state = .writing) (override : Bool) :
    (s.enterLate i c x override).cand? i = some (c.entered x (lateSkips x c) override) := by
  rw [State.enterLate_eq hc hseat hx hstate]
  exact (congrArg (fun h => h.cands[i]?) (State.joinSecond_hall ..)).trans (State.moveCandTo_cand? hc _)

/-- What the reply to an admission at the candidate's own seat tells of it (R87). -/
theorem admitFields_of_admitted (hc : s.cand? i = some c) (hseat : c.seat = some m) (hx : s.sitting? c.sitting = some x) :
    admitFields ((s.admitCand i c x).clearKeys m) i =
      [⟨2, m⟩, ⟨2, c.entitled⟩, ⟨2, c.entitled - (if x.state = .writing then x.sel else 0)⟩,
        ⟨1, flagsValue [c.late || decide (x.state = .writing), c.lateOverride]⟩] := by
  by_cases hstate : x.state = .writing
  · have hcand : ((s.admitCand i c x).clearKeys m).cand? i = some (c.entered x (lateSkips x c) false) := by
      rw [State.admitCand_of_late hstate]
      exact State.enterLate_cand? hc hseat hx hstate false
    rw [admitFields_of_cand hcand, if_pos hstate, decide_eq_true hstate]
    simp only [Cand.entered, Cand.remaining, hseat, optField, Option.getD_some, Bool.or_false, Bool.or_true]
  · have hcand : ((s.admitCand i c x).clearKeys m).cand? i = some { c with state := .admitted, consumed := 0 } := by
      rw [State.admitCand_of_early hc hseat hstate]
      exact State.moveCandTo_cand? hc _
    rw [admitFields_of_cand hcand, if_neg hstate, decide_eq_false hstate]
    simp only [Cand.remaining, hseat, optField, Option.getD_some, Bool.or_false]

theorem Sitting.admits_of (h : x.state = .opened ∨ x.state = .reading ∨ x.state = .writing ∧ x.sel < c.entitled) :
    x.admits = true ∧ ¬ (x.state = .writing ∧ tooLate x c = true) := by
  obtain h | h | ⟨h, hsel⟩ := h
  · simp [Sitting.admits, h]
  · simp [Sitting.admits, h]
  · simp [Sitting.admits, h, tooLate, hsel]

/-- ADMIT of an EXPECTED candidate in its seat (R87). -/
theorem admitOwn_of_seated (hx : s.sitting? c.sitting = some x) (hflight : x.inFlight = false)
    (hstate : c.state = .expected) (hseat : c.seat = some m)
    (htime : x.state = .opened ∨ x.state = .reading ∨ x.state = .writing ∧ x.sel < c.entitled) :
    admitOwn i c s = okay ((s.admitCand i c x).clearKeys m) (admitFields ((s.admitCand i c x).clearKeys m) i) := by
  obtain ⟨hadmits, hlate⟩ := Sitting.admits_of htime
  simp only [admitOwn, hx, hflight, hadmits, hstate, hseat, Bool.false_eq_true, if_false, not_true_eq_false, ne_eq,
    Option.isNone_some, if_neg hlate]

/-- The candidate that an override returns to the paper stands on its new seat, its breach marked (R88). -/
def State.reseated (s : State) (i seat : Nat) (c : Cand) (breach : Bool) : State :=
  if breach then (s.place i seat (fun d => d.placedFor c)).mapSeat seat (fun y => { y with waiver := true })
  else s.place i seat (fun d => d.placedFor c)

theorem State.reseated_cand? (hc : s.cand? i = some c) (seat : Nat) (breach : Bool) :
    (s.reseated i seat c breach).cand? i = some { c with seat := some seat } := by
  have hplace : (s.place i seat (fun d => d.placedFor c)).cand? i = some { c with seat := some seat } := by
    rw [State.place_cand?, if_pos rfl, hc, Option.map_some]
  cases breach <;> exact hplace

/-- An override is a late admission on the new seat (R88). -/
theorem State.readmit_eq (i seat : Nat) (breach : Bool) :
    s.readmit i c x seat breach = (s.reseated i seat c breach).enterLate i { c with seat := some seat } x true := rfl

/-- ADMIT with override of a candidate onto a seat that can take it (R88). -/
theorem admitOverride_of_target {seat waiver : Nat} {y : Seat} (hpos : 1 ≤ seat) (hy : s.seat? seat = some y)
    (hx : s.sitting? c.sitting = some x) (hpass : s.passes p y.zone = true) (hflight : x.inFlight = false)
    (hwriting : x.state = .writing) (htarget : y.target = true)
    (hbreach : s.neighbourOf y c.sitting none = true → waiver = 1) (hsel : x.sel < c.entitled) :
    admitOverride p i c seat waiver s = okay (s.readmit i c x seat (s.neighbourOf y c.sitting none))
      (admitFields (s.readmit i c x seat (s.neighbourOf y c.sitting none)) i) := by
  have hwaived : ¬ (s.neighbourOf y c.sitting none = true ∧ waiver = 0) := fun ⟨h, h0⟩ => by
    rw [hbreach h] at h0
    cases h0
  have hlate : ¬ tooLate x c = true := by simp [tooLate, hsel]
  rw [admitOverride, if_neg (Nat.ne_of_gt hpos)]
  simp only [hy, hx, hpass, hflight, hwriting, htarget, if_neg hwaived, if_neg hlate, Bool.false_eq_true, if_false,
    not_true_eq_false, ne_eq]

end Admit

/-- Settles O37: the admission at the candidate's own seat, and the override on a named one. -/
theorem admittedByDesk : Obligations.AdmittedByDesk := by
  unfold Obligations.AdmittedByDesk
  intro d tag number override seat waiver i c x s hready hsession hlo hhi hover hseat511 hwaiver hi hc hx hflight
  have hgate : sessionTakes (.admitDesk number override seat waiver) s.hall.session = true := by simp [sessionTakes, hsession]
  have hnumber := numberOk_of_inRange hlo hhi
  have hrange : ¬ (¬ markOk override ∨ 511 < seat ∨ ¬ markOk waiver) := by
    simp [markOk_of_le hover, markOk_of_le hwaiver, hseat511]
  have hdispatch : cmdAdmit (.desk d) number override seat waiver s =
      if c.state = .absent ∧ override = 1 then admitOverride (.desk d) i c seat waiver s
      else screenCand (.desk d) number s admitOwn := by
    rw [cmdAdmit, if_neg hrange, State.candByNumber_of_find hi hc]
    exact if_neg (not_not.mpr hnumber)
  refine ⟨fun m hstate hseat hpass htime => ?_, fun y hstate hoverride hy hpos hpass hwriting hocc hservice hbreach hsel => ?_⟩
  · have hlamp : (s.lampOff (some m)).cand? i = some c := hc
    have hcmd : cmdAdmit (.desk d) number override seat waiver s =
        okay (((s.lampOff (some m)).admitCand i c x).clearKeys m)
          (admitFields (((s.lampOff (some m)).admitCand i c x).clearKeys m) i) := by
      rw [hdispatch, if_neg (by rw [hstate]; exact fun h => CandState.noConfusion h.1),
        screenCand_of_passes (p := .desk d) hnumber hi hc hpass, hseat]
      exact admitOwn_of_seated (s := s.lampOff (some m)) hx hflight hstate hseat htime
    rw [admitFields_of_admitted (s := s.lampOff (some m)) hlamp hseat hx] at hcmd
    exact exec_taken rfl hready ⟨rfl, rfl, rfl⟩ hgate hcmd
  · intro p q skips v w
    have hstays : c.state = .absent ∧ override = 1 := ⟨hstate, hoverride⟩
    have htarget : y.target = true := by simp [Seat.target, hocc, hservice]
    have hcand := State.reseated_cand? hc seat (s.neighbourOf y c.sitting none)
    have hsitting : (s.reseated i seat c (s.neighbourOf y c.sitting none)).sitting? c.sitting = some x := by
      cases s.neighbourOf y c.sitting none <;> exact hx
    have hfields := admitFields_of_cand (State.enterLate_cand? hcand rfl hsitting hwriting true)
    have hcmd := hdispatch
    rw [if_pos hstays, admitOverride_of_target (p := .desk d) (i := i) hpos hy hx hpass hflight hwriting htarget hbreach hsel]
      at hcmd
    rw [State.readmit_eq, hfields, State.enterLate_eq hcand rfl hsitting hwriting] at hcmd
    have hclock : q.clock = s.clock := by simp only [q]; split <;> rfl
    have hheld : q.held c.sitting = s.held c.sitting := by simp only [q]; split <;> rfl
    have hv : q.moveCandTo i { c with seat := some seat }
        (Cand.entered { c with seat := some seat } x (lateSkips x { c with seat := some seat }) true) = v := by
      simp only [v, State.moveCandTo, hstate]
      refine congrArg (fun u => State.mapSitting u c.sitting _) ((State.mapCand_congr q i hcand ?_).symm)
      simp only [Cand.entered, Bool.or_true]
      rfl
    have hw : (q.moveCandTo i { c with seat := some seat }
        (Cand.entered { c with seat := some seat } x (lateSkips x { c with seat := some seat }) true)).joinSecond i c.sitting
        = w := by
      have hahead : v.clock.ahead = s.clock.ahead := congrArg Clock.ahead hclock
      rw [hv]
      by_cases h : TickKey.sitting c.sitting ∈ s.clock.ahead
      · rw [State.joinSecond_of_ahead (hahead ▸ h)]
        exact (if_pos h).symm
      · rw [State.joinSecond_of_not_ahead (hahead ▸ h)]
        exact (if_neg h).symm
    have hflags : flagsValue [true, c.lateOverride || true] = 3 := by rw [Bool.or_true]; rfl
    rw [← hw, ← hheld, ← hflags]
    exact exec_taken rfl hready ⟨rfl, rfl, rfl⟩ hgate hcmd

/-! ## Rest, FINISH and WITHDRAW (R89, R90, R95, R96) -/

section Endings
variable {s : State} {i m : Nat} {c : Cand} {x : Sitting}

/-- A change of state, and what the seat shows after it (R69). -/
theorem State.setCandState_showCand (hc : s.cand? i = some c) (hseat : c.seat = some m) {new : CandState} {mode : DisplayMode}
    {rem num : Nat} {lock : Bool}
    (hshown : Cand.shown { c with state := new } (s.held c.sitting) = some (mode, rem, num, lock)) :
    (s.setCandState i new).showCand i = ((s.mapCand i (fun y => { y with state := new })).mapSitting c.sitting (fun y =>
      { y with counts := (y.counts.dec c.state).inc new })).writeDisplay m (fun d =>
        { d with mode := mode, remaining := rem, number := num, lock := lock }) := by
  have hcand : (s.setCandState i new).cand? i = some { c with state := new } := by
    rw [State.setCandState_eq hc]
    exact State.moveCandTo_cand? hc _
  have hheld : (s.setCandState i new).held c.sitting = s.held c.sitting := by
    rw [State.setCandState_eq hc]
    exact State.moveCandTo_held ..
  rw [State.showCand_eq hcand hseat (by rw [← hshown]; exact congrArg _ hheld) none, State.setCandState_of_cand hc]
  rfl

/-- What a candidate's display shows is in the seat map. -/
theorem State.showAt_eq_seats (s : State) (n i : Nat) (code : Option DispCode) :
    ∃ seats, s.showAt n i code = { s with hall := { s.hall with seats := seats } } := by
  unfold State.showAt
  split
  · exact ⟨_, rfl⟩
  · exact ⟨_, rfl⟩
  · exact ⟨s.hall.seats, rfl⟩

theorem State.showCand_eq_seats (s : State) (i : Nat) (code : Option DispCode) :
    ∃ seats, s.showCand i code = { s with hall := { s.hall with seats := seats } } := by
  unfold State.showCand
  split
  · exact ⟨s.hall.seats, rfl⟩
  · exact State.showAt_eq_seats ..

/-- The end of a rest by a desk (R90). -/
theorem State.leaveRest_of_writing (hc : s.cand? i = some c) (hx : s.sitting? c.sitting = some x) (hstate : x.state = .writing) :
    s.leaveRest i c.sitting none = ((s.setCandState i .writing).showCand i).markRestEnded i := by
  refine State.sittingTests_of_entered (d := { c with state := .writing }) (i := i) hx hstate (.inl rfl) ?_
  obtain ⟨seats, hshow⟩ := State.showCand_eq_seats (s.setCandState i .writing) i none
  rw [← State.setCandState_eq hc, hshow]
  rfl

theorem Cand.withdrawable_of (h : c.state = .expected ∨ c.state = .admitted ∨ c.state = .writing ∨ c.state = .resting
    ∨ c.state = .finished) : c.withdrawable = true := by
  obtain h | h | h | h | h := h <;> rw [Cand.withdrawable, h]

theorem State.lampOff_withdrawnBody (s : State) (o : Option Nat) (c : Cand) :
    (s.lampOff o).withdrawnBody c = s.withdrawnBody c := by
  cases o <;> rfl

end Endings

/-- Settles O38: REST_START and REST_END, FINISH and WITHDRAW. -/
theorem restsAndEndings : Obligations.RestsAndEndings := by
  unfold Obligations.RestsAndEndings
  refine ⟨fun d tag number i m c x s hready hsession hlo hhi hi hc hseat hx hwriting hpass => ?_,
    fun d tag number i c x s hready hsession hlo hhi hi hc hx hpass => ?_⟩
  · intro moved
    have hscreen := screenCand_of_passes (p := .desk d) (numberOk_of_inRange hlo hhi) hi hc hpass
    rw [hseat] at hscreen
    refine ⟨fun hstate hleft => ?_, fun hstate => ?_⟩
    · have hgate : sessionTakes (.restStart number) s.hall.session = true := by simp [sessionTakes, hsession]
      have hcmd : cmdRestStart (.desk d) number s = okay (moved .resting .rest) [⟨2, c.restBudget - c.restUsed⟩] := by
        rw [cmdRestStart, hscreen, restStartOwn, if_neg (not_not.mpr hstate), if_neg (Nat.not_le.mpr hleft)]
        exact congrArg (fun t => okay t _) (State.setCandState_showCand (s := s.lampOff (some m)) hc hseat rfl)
      exact exec_taken rfl hready ⟨rfl, rfl, rfl⟩ hgate hcmd
    · have hgate : sessionTakes (.restEnd number) s.hall.session = true := by simp [sessionTakes, hsession]
      have hcmd : cmdRestEnd (.desk d) number s = okay ((moved .writing .count).markRestEnded i)
          [⟨2, c.restUsed⟩, ⟨2, c.restBudget - c.restUsed⟩] := by
        rw [cmdRestEnd, hscreen, restEndOwn, if_neg (not_not.mpr hstate),
          State.leaveRest_of_writing (s := s.lampOff (some m)) hc hx hwriting]
        exact congrArg (fun t => okay (State.markRestEnded t i) _)
          (State.setCandState_showCand (s := s.lampOff (some m)) hc hseat rfl)
      exact exec_taken rfl hready ⟨rfl, rfl, rfl⟩ hgate hcmd
  · have hscreen := screenCand_of_passes (p := .desk d) (numberOk_of_inRange hlo hhi) hi hc hpass
    have hlamp : (s.lampOff c.seat).cand? i = some c := (State.lampOff_cand? ..).trans hc
    refine ⟨fun hstate => ?_, fun hflight hstate => ?_⟩
    · have hgate : sessionTakes (.finish number) s.hall.session = true := by simp [sessionTakes, hsession]
      have hcmd : cmdFinish (.desk d) number s = okay ((s.lampOff c.seat).finishCand i .desk)
          [⟨2, c.consumed⟩, ⟨2, c.issued⟩, ⟨2, c.returned⟩] := by
        rw [cmdFinish, hscreen, finishOwn, if_neg fun h => hstate.elim h.1 h.2]
      exact exec_taken rfl hready ⟨rfl, rfl, rfl⟩ hgate hcmd
    · have hgate : sessionTakes (.withdraw number) s.hall.session = true := by simp [sessionTakes, hsession]
      have hrun : (s.lampOff c.seat).inFlight c.sitting = false := by
        rw [State.lampOff_inFlight, State.inFlight_eq hx, hflight]
      have hcmd := hscreen withdrawOwn
      rw [withdrawOwn, hrun, if_neg Bool.false_ne_true, if_neg (not_not.mpr (Cand.withdrawable_of hstate)),
        State.lampOff_withdrawnBody, State.setCandState_of_cand hlamp] at hcmd
      exact exec_taken rfl hready ⟨rfl, rfl, rfl⟩ hgate hcmd

end Sys2Proof.Machine
end

section
/-! SUPPORT. Issue, return, void and claim of tags (Chapter 6). -/

namespace Sys2Proof.Machine

/-! ## Issue (R102 to R104) -/

section Issue
variable {s : State} {i t n : Nat} {c : Cand} {e : Custody}

theorem scriptOk_iff (t : Nat) : scriptOk t = true ↔ 1 ≤ t / 10000000 ∧ t ≤ 99999999 := by
  rw [scriptOk, leadingDigit, Bool.and_eq_true, decide_eq_true_iff, decide_eq_true_iff]
  omega

theorem not_scriptOk_of (h : t / 10000000 = 0 ∨ 99999999 < t) : ¬ scriptOk t = true := by
  rw [scriptOk_iff]
  omega

theorem scriptKind_sheet_iff (hhi : t ≤ 99999999) : scriptKind t = .sheet ↔ t / 10000000 = 8 ∨ t / 10000000 = 9 := by
  unfold scriptKind leadingDigit
  split
  next h => exact ⟨nofun, fun hk => by omega⟩
  next h => exact ⟨fun _ => by omega, fun _ => rfl⟩

theorem State.hasLiveSheet_iff (s : State) (i : Nat) : s.hasLiveSheet i = true ↔
    ∃ e ∈ s.custody, e.cand = some i ∧ e.kind = .sheet ∧ e.state ≠ .void := by
  simp [State.hasLiveSheet, and_assoc]

theorem Cand.issuable_iff (c : Cand) : c.issuable = true ↔ c.state = .admitted ∨ c.state = .writing ∨ c.state = .resting := by
  unfold Cand.issuable
  cases c.state <;> simp

theorem State.issue_of_range (h : ¬ scriptOk t = true) : s.issue i c t = ⟨s, .range, false⟩ := if_pos h

theorem State.issue_of_state (hscript : scriptOk t = true) (h : ¬ c.issuable = true) : s.issue i c t = ⟨s, .state, false⟩ := by
  rw [State.issue, if_neg (not_not.mpr hscript), if_pos h]

theorem State.issue_of_entry (hscript : scriptOk t = true) (hcand : c.issuable = true) (he : s.entry? t = some e) :
    s.issue i c t = if e.cand = some i ∧ e.state = .issued then ⟨s, .ok, true⟩
      else if e.state = .void then ⟨s, .state, false⟩ else ⟨s, .duplicate, false⟩ := by
  rw [State.issue, if_neg (not_not.mpr hscript), if_neg (not_not.mpr hcand), he]

theorem State.issue_of_fresh (hscript : scriptOk t = true) (hcand : c.issuable = true) (he : s.entry? t = none) :
    s.issue i c t = if scriptKind t = .sheet ∧ s.hasLiveSheet i = true then ⟨s, .duplicate, false⟩
      else if 2048 ≤ s.custody.length then ⟨s, .full, false⟩ else ⟨s.createEntry i t, .ok, false⟩ := by
  rw [State.issue, if_neg (not_not.mpr hscript), if_neg (not_not.mpr hcand), he]
  rfl

/-- What an issue comes to (R102): an entry created, a repeat, or a refusal that changes nothing. -/
theorem State.issue_cases (s : State) (i : Nat) (c : Cand) (t : Nat) :
    s.issue i c t = ⟨s.createEntry i t, .ok, false⟩ ∨ s.issue i c t = ⟨s, .ok, true⟩
    ∨ ∃ r, (r = .range ∨ r = .state ∨ r = .duplicate ∨ r = .full) ∧ s.issue i c t = ⟨s, r, false⟩ := by
  by_cases hscript : scriptOk t = true
  · by_cases hcand : c.issuable = true
    · cases he : s.entry? t with
      | some e =>
        rw [State.issue_of_entry hscript hcand he]
        split
        · exact .inr (.inl rfl)
        · split
          · exact .inr (.inr ⟨_, .inr (.inl rfl), rfl⟩)
          · exact .inr (.inr ⟨_, .inr (.inr (.inl rfl)), rfl⟩)
      | none =>
        rw [State.issue_of_fresh hscript hcand he]
        split
        · exact .inr (.inr ⟨_, .inr (.inr (.inl rfl)), rfl⟩)
        · split
          · exact .inr (.inr ⟨_, .inr (.inr (.inr rfl)), rfl⟩)
          · exact .inl rfl
    · exact .inr (.inr ⟨_, .inr (.inl rfl), State.issue_of_state hscript hcand⟩)
  · exact .inr (.inr ⟨_, .inl rfl, State.issue_of_range hscript⟩)

/-- How many tags a candidate holds after an issue that was taken (R102). -/
theorem State.issue_issued (hc : s.cand? i = some c) (hok : (s.issue i c t).result = .ok) :
    ((s.issue i c t).state.cand? i).map (fun y => y.issued) =
      some (if (s.issue i c t).again then c.issued else c.issued + 1) := by
  obtain h | h | ⟨r, hr, h⟩ := State.issue_cases s i c t
  · have hcand : (s.createEntry i t).cand? i = some { c with issued := c.issued + 1 } := by
      rw [State.createEntry, State.mapCand_cand?, if_pos rfl]
      exact congrArg (Option.map _) hc
    rw [h, hcand]
    rfl
  · rw [h, hc]
    rfl
  · rw [h] at hok
    cases hok
    simp at hr

theorem scriptKind_code (t : Nat) : TagKind.code (scriptKind t) = if t / 10000000 ≤ 7 then 0 else 1 := by
  unfold scriptKind leadingDigit
  split <;> rfl

theorem exec_tagReport_eq {time : Nat} {rest : List Report} (h : s.line.inbox = ⟨n, .tag t, time⟩ :: rest) :
    exec .tagReport s = .next (s.leaveInbox.tagAt n t) := by
  have harm : exec .tagReport s = execTagReport s := rfl
  rw [harm, execTagReport, h]

theorem State.tagAt_of_empty (h : s.occupantOf n = none) : s.tagAt n t = s.writeCode n (.cond .state) 0 := by
  rw [State.tagAt, h]

theorem State.tagAt_of_occupied {x : Seat} (h : s.occupantOf n = some (x, i, c)) : s.tagAt n t =
    (s.issue i c t).state.writeCode n (.cond (issueCode (s.issue i c t).result))
      (if (s.issue i c t).result = .ok then lastFour t else 0) := by
  rw [State.tagAt, h]

end Issue

/-- Settles O39: the tests of an issue in order, ISSUE_TAG and the TAG report. -/
theorem issuesJudged : Obligations.IssuesJudged := by
  unfold Obligations.IssuesJudged
  refine ⟨fun s i t c hc => ?_, fun d tag number t i m c s hready hsession hlo hhi ht hi hc hseat hpass => ?_,
    fun s n t time rest x hinbox hx => ⟨fun hocc => ?_, fun i c hocc hc => ?_⟩⟩
  · intro r sheet live
    refine ⟨fun h => State.issue_of_range (not_scriptOk_of h), fun hlo hhi => ?_⟩
    have hscript := scriptOk_of_inRange hlo hhi
    refine ⟨fun h => State.issue_of_state hscript (fun hi => h (c.issuable_iff.mp hi)), fun hstate => ?_⟩
    have hcand := c.issuable_iff.mpr hstate
    have hentry := fun e (he : s.entry? t = some e) => State.issue_of_entry (i := i) hscript hcand he
    have hfresh := fun he : s.entry? t = none => State.issue_of_fresh (i := i) hscript hcand he
    have hdouble : (scriptKind t = .sheet ∧ s.hasLiveSheet i = true) ↔ sheet ∧ live :=
      and_congr (scriptKind_sheet_iff hhi) (State.hasLiveSheet_iff s i)
    refine ⟨fun e he hmine hissued => ?_, fun e he hvoid => ?_, fun e he hvoid hother => ?_, fun he hsheet hlive => ?_,
      fun he hfree hfull => ?_, fun he hfree hroom => ?_⟩
    · exact (hentry e he).trans (if_pos ⟨hmine, hissued⟩)
    · have hother : ¬ (e.cand = some i ∧ e.state = .issued) := by rw [hvoid]; exact fun h => TagState.noConfusion h.2
      exact (hentry e he).trans ((if_neg hother).trans (if_pos hvoid))
    · exact (hentry e he).trans ((if_neg hother).trans (if_neg hvoid))
    · exact (hfresh he).trans (if_pos (hdouble.mpr ⟨hsheet, hlive⟩))
    · exact (hfresh he).trans ((if_neg (mt hdouble.mp hfree)).trans (if_pos hfull))
    · intro e
      have hkind : scriptKind t = e.kind := by
        by_cases hsheet : t / 10000000 = 8 ∨ t / 10000000 = 9
        · exact ((scriptKind_sheet_iff hhi).mpr hsheet).trans (if_pos hsheet).symm
        · have hbooklet : scriptKind t = .booklet := by
            cases hk : scriptKind t with
            | booklet => rfl
            | sheet => exact absurd ((scriptKind_sheet_iff hhi).mp hk) hsheet
          exact hbooklet.trans (if_neg hsheet).symm
      have hissue := (hfresh he).trans ((if_neg (mt hdouble.mp hfree)).trans (if_neg (Nat.not_le.mpr hroom)))
      rw [State.createEntry, hkind] at hissue
      exact hissue
  · intro r
    have hgate : sessionTakes (.issueTag number t) s.hall.session = true := by simp [sessionTakes, hsession]
    have hscreen := screenCand_of_passes (p := .desk d) (numberOk_of_inRange hlo hhi) hi hc hpass (issueTagOwn t)
    rw [hseat] at hscreen
    have hcmd : cmdIssueTag (.desk d) number t s = issueTagOwn t i c (s.lampOff (some m)) := by
      rw [cmdIssueTag, if_neg (Nat.not_lt.mpr ht), hscreen]
    refine ⟨fun hok => ?_, fun hrefused => ?_⟩
    · have hissued := State.issue_issued (s := s.lampOff (some m)) hc hok
      have hown : issueTagOwn t i c (s.lampOff (some m)) = okay (r.state.writeCode m (.cond .issued) (t % 10000))
          [⟨1, if t / 10000000 ≤ 7 then 0 else 1⟩, ⟨2, if r.again then c.issued else c.issued + 1⟩, markField r.again] := by
        rw [issueTagOwn, if_pos hok, scriptKind_code, hseat]
        exact congrArg (fun o => okay (r.state.writeCode m (.cond .issued) (t % 10000))
          [⟨1, if t / 10000000 ≤ 7 then 0 else 1⟩, ⟨2, Option.getD o 0⟩, markField r.again]) hissued
      exact exec_taken rfl hready ⟨rfl, rfl, rfl⟩ hgate (hcmd.trans hown)
    · have hstate : r.state = s.lampOff (some m) := by
        obtain h | h | ⟨k, -, h⟩ := State.issue_cases (s.lampOff (some m)) i c t
        · exact absurd (congrArg Issued.result h) hrefused
        · exact absurd (congrArg Issued.result h) hrefused
        · exact congrArg Issued.state h
      have hown : issueTagOwn t i c (s.lampOff (some m)) = ⟨s.lampOff (some m), r.result, []⟩ := by
        rw [issueTagOwn, if_neg hrefused]
        exact congrArg (fun u => Answer.mk u r.result []) hstate
      exact exec_taken rfl hready ⟨rfl, rfl, rfl⟩ hgate (hcmd.trans hown)
  · rw [exec_tagReport_eq hinbox, State.tagAt_of_empty (State.occupantOf_of_empty (s := s.leaveInbox) hx hocc)]
  · intro r
    rw [exec_tagReport_eq hinbox, State.tagAt_of_occupied (State.occupantOf_of_occupied (s := s.leaveInbox) hx hocc hc)]
    obtain h | h | ⟨k, hk, h⟩ := State.issue_cases s.leaveInbox i c t
    · simp only [r, h]
      rfl
    · simp only [r, h]
      rfl
    · simp only [r, h]
      obtain rfl | rfl | rfl | rfl := hk <;> rfl

end Sys2Proof.Machine
end

section
/-! SUPPORT. Return, void and claim of tags (R105 to R108). -/

namespace Sys2Proof.Machine

/-! ## Candidate numbers kept -/

section Numbers
variable {s t u : State} {i : Nat} {c : Cand}

/-- The candidate numbers, index by index, are the same. -/
def State.SameNumbers (s t : State) : Prop := ∀ j, (t.cand? j).map (fun c => c.number) = (s.cand? j).map (fun c => c.number)

theorem State.SameNumbers.refl (s : State) : s.SameNumbers s := fun _ => rfl

theorem State.SameNumbers.trans (h : s.SameNumbers t) (h' : t.SameNumbers u) : s.SameNumbers u :=
  fun j => (h' j).trans (h j)

theorem State.SameNumbers.of_cands (h : t.hall.cands = s.hall.cands) : s.SameNumbers t := fun j => by
  rw [State.cand?, State.cand?, h]

theorem State.mapCand_sameNumbers (s : State) (i : Nat) {f : Cand → Cand} (hf : ∀ c, (f c).number = c.number) :
    s.SameNumbers (s.mapCand i f) := fun j => by
  rw [State.mapCand_cand?]
  split
  · rw [Option.map_map]
    exact congrArg (fun g => (s.cand? j).map g) (funext hf)
  · rfl

theorem State.releaseCand_sameNumbers (s : State) (i : Nat) : s.SameNumbers (s.releaseCand i) := by
  unfold State.releaseCand
  split
  · exact State.SameNumbers.refl s
  next n _ => exact State.mapCand_sameNumbers (s.mapSeat n Seat.release) i (fun _ => rfl)

theorem State.sittingTests_sameNumbers (s : State) (n : Nat) : s.SameNumbers (s.sittingTests n) := fun j => by
  rw [State.sittingTests_cand?]

theorem State.collectionTest_sameNumbers (hc : s.cand? i = some c) : s.SameNumbers (s.collectionTest i) := by
  by_cases h : c.state = .finished ∧ ∀ e ∈ s.custody, e.cand = some i → e.state ≠ .issued
  · rw [State.collectionTest_of_collectable hc h.1 h.2]
    have hcollected : s.SameNumbers (s.collected i c.sitting) :=
      State.mapCand_sameNumbers s i (f := fun y => { y with state := .collected, nilScript := y.nilScript || s.allVoid i })
        (fun _ => rfl)
    have hreleased := hcollected.trans (State.releaseCand_sameNumbers _ i)
    have hoffered := hreleased.trans (.of_cands (congrArg Hall.cands (State.offerCustodyClose_hall _ i false)))
    exact hoffered.trans (State.sittingTests_sameNumbers _ c.sitting)
  · rw [State.collectionTest, if_neg (mt (State.collectable_iff hc).mp h)]
    exact State.SameNumbers.refl s

end Numbers

/-! ## Return (R105, R106) -/

section Return
variable {s : State} {t i : Nat} {c : Cand} {e : Custody} {p : Port}

theorem State.returnTag_of_range (h : ¬ scriptOk t = true) : s.returnTag p t = (s, .range, false) := if_pos h

theorem State.returnTag_of_fresh (hscript : scriptOk t = true) (he : s.entry? t = none) : s.returnTag p t =
    if 2048 ≤ s.custody.length then (s, .full, false) else (s.createStray p t, .ok, false) := by
  rw [State.returnTag, if_neg (not_not.mpr hscript), he]
  rfl

theorem State.returnTag_of_issued (hscript : scriptOk t = true) (he : s.entry? t = some e) (hstate : e.state = .issued) :
    s.returnTag p t = ((s.returnIssued t e.cand).1, .ok, (s.returnIssued t e.cand).2) := by
  rw [State.returnTag, if_neg (not_not.mpr hscript), he]
  simp only [hstate]

theorem State.returnTag_of_returned (hscript : scriptOk t = true) (he : s.entry? t = some e)
    (hstate : e.state = .returned ∨ e.state = .marked) : s.returnTag p t = (s, .duplicate, false) := by
  rw [State.returnTag, if_neg (not_not.mpr hscript), he]
  obtain h | h := hstate <;> simp only [h]

theorem State.returnTag_of_void (hscript : scriptOk t = true) (he : s.entry? t = some e) (hstate : e.state = .void) :
    s.returnTag p t = (s, .state, false) := by
  rw [State.returnTag, if_neg (not_not.mpr hscript), he]
  simp only [hstate]

theorem State.createStray_hall (s : State) (p : Port) (t : Nat) : (s.createStray p t).hall = s.hall := by
  rw [State.createStray, State.notifyDesks, State.notifyWhere_eq]

theorem State.returnIssued_sameNumbers (s : State) (t : Nat) (o : Option Nat) : s.SameNumbers (s.returnIssued t o).1 := by
  cases o with
  | none => exact State.SameNumbers.refl s
  | some i =>
    have hcounted := State.mapCand_sameNumbers (s.mapEntry t (fun e =>
      { e with state := .returned, returnTime := some s.hall.time })) i (f := fun c => { c with returned := c.returned + 1 })
      (fun _ => rfl)
    cases hc : ((s.mapEntry t (fun e => { e with state := .returned, returnTime := some s.hall.time })).mapCand i
        (fun c => { c with returned := c.returned + 1 })).cand? i with
    | some c => exact hcounted.trans (State.collectionTest_sameNumbers hc)
    | none =>
      have hstays : ∀ u : State, u.cand? i = none → u.collectionTest i = u := fun u hu => by
        rw [State.collectionTest, State.collectable, hu]
        exact if_neg Bool.false_ne_true
      have hsame := hcounted
      rw [← hstays _ hc] at hsame
      exact hsame

theorem State.returnTag_sameNumbers (s : State) (p : Port) (t : Nat) : s.SameNumbers (s.returnTag p t).1 := by
  by_cases hscript : scriptOk t = true
  · cases he : s.entry? t with
    | none =>
      rw [State.returnTag_of_fresh hscript he]
      split
      · exact State.SameNumbers.refl s
      · exact .of_cands (congrArg Hall.cands (State.createStray_hall s p t))
    | some e =>
      cases hstate : e.state with
      | issued =>
        rw [State.returnTag_of_issued hscript he hstate]
        exact State.returnIssued_sameNumbers s t e.cand
      | returned =>
        rw [State.returnTag_of_returned hscript he (.inl hstate)]
        exact State.SameNumbers.refl s
      | marked =>
        rw [State.returnTag_of_returned hscript he (.inr hstate)]
        exact State.SameNumbers.refl s
      | void =>
        rw [State.returnTag_of_void hscript he hstate]
        exact State.SameNumbers.refl s
  · rw [State.returnTag_of_range hscript]
    exact State.SameNumbers.refl s

/-- The tags judged one after the other. -/
def State.returnTags (s : State) (p : Port) (ts : List Nat) : State := ts.foldl (fun u t => (u.returnTag p t).1) s

theorem State.returnTags_sameNumbers (p : Port) (ts : List Nat) : ∀ s : State, s.SameNumbers (s.returnTags p ts) := by
  induction ts with
  | nil => exact State.SameNumbers.refl
  | cons t ts ih => exact fun s => (State.returnTag_sameNumbers s p t).trans (ih _)

/-- What the reply tells of one tag, its candidate number read where the tags began. -/
def returnTold (s : State) (p : Port) (left : Nat → State) (k t : Nat) : List Field :=
  [⟨4, t⟩, ⟨1, ResultCode.code ((left k).returnTag p t).2.1⟩,
    ⟨4, (((((left (k + 1)).entry? t).bind (fun e => e.cand)).bind s.cand?).map (fun c => c.number)).getD 0⟩,
    ⟨1, (((left (k + 1)).entry? t).map (fun e => TagState.code e.state)).getD 4⟩,
    markField ((left k).returnTag p t).2.2]

theorem State.SameNumbers.numberOf {s u : State} (h : s.SameNumbers u) (o : Option Nat) :
    u.numberOf o = (o.bind s.cand?).map (fun c => c.number) := by
  cases o with
  | none => rfl
  | some i => exact h i

theorem tagStateCode_map (o : Option Custody) :
    tagStateCode (o.map (fun e => e.state)) = (o.map (fun e => TagState.code e.state)).getD 4 := by
  cases o <;> rfl

theorem returnFields_eq {s u : State} (h : s.SameNumbers u) (p : Port) (t : Nat) :
    returnFields (u.returnTag p t).1 t (u.returnTag p t).2.1 (u.returnTag p t).2.2 =
      returnTold s p (fun k => if k = 0 then u else (u.returnTag p t).1) 0 t := by
  simp only [returnFields, returnTold, optField, (h.trans (State.returnTag_sameNumbers u p t)).numberOf, tagStateCode_map,
    Nat.zero_add, Nat.one_ne_zero, if_true, if_false]

/-- The reply's fields tag by tag, each told of what the tags before it left (R105). -/
theorem returnAll_eq {s : State} (p : Port) (ts : List Nat) : ∀ u : State, s.SameNumbers u → returnAll p ts u =
    (u.returnTags p ts,
      (ts.zipIdx.map (fun q => returnTold s p (fun k => u.returnTags p (ts.take k)) q.2 q.1)).flatten) := by
  induction ts with
  | nil => exact fun u _ => rfl
  | cons t ts ih =>
    intro u h
    have hrest := ih (u.returnTag p t).1 (h.trans (State.returnTag_sameNumbers u p t))
    have hfirst : returnTold s p (fun k => u.returnTags p ((t :: ts).take k)) 0 t =
        returnFields (u.returnTag p t).1 t (u.returnTag p t).2.1 (u.returnTag p t).2.2 := by
      rw [returnFields_eq h]
      rfl
    rw [returnAll, hrest, List.zipIdx_cons', List.map_cons, List.flatten_cons, hfirst, List.map_map]
    rfl

/-- A tag that was ISSUED to a candidate (R105). -/
theorem State.returnIssued_eq {u : State}
    (hu : u = (s.mapEntry t (fun e => { e with state := .returned, returnTime := some s.hall.time })).mapCand i
      (fun c => { c with returned := c.returned + 1 })) (hc : s.cand? i = some c) :
    s.returnIssued t (some i) = (u.collectionTest i, decide (c.state = .finished) &&
      u.custody.all (fun f => !decide (f.cand = some i) || decide (f.state ≠ .issued))) := by
  have hcand : u.cand? i = some { c with returned := c.returned + 1 } := by
    rw [hu, State.mapCand_cand?, if_pos rfl]
    exact congrArg (Option.map _) hc
  have hcollectable : u.collectable i = (decide (c.state = .finished) &&
      u.custody.all (fun f => !decide (f.cand = some i) || decide (f.state ≠ .issued))) := by
    rw [State.collectable, hcand]
    exact congrArg (fun b => decide (c.state = .finished) && b)
      (State.all_entriesOf (s := u) (i := i) (fun e => decide (e.state ≠ .issued)))
  rw [← hcollectable, hu]
  rfl

theorem cmdReturnTags_of_counted {n : Nat} {ts : List Nat} (hlo : 1 ≤ n) (hhi : n ≤ 16) (hlen : ts.length = n) :
    cmdReturnTags p n ts s = okay (returnAll p ts s).1 (returnAll p ts s).2 := by
  rw [cmdReturnTags, if_neg]
  omega

end Return

/-- Settles O40: the reply tag by tag, and each tag judged. -/
theorem tagsReturned : Obligations.TagsReturned := by
  unfold Obligations.TagsReturned
  refine ⟨fun d tag n ts s hready hsession => ?_, fun d t s => ?_⟩
  · intro left told
    have hgate : sessionTakes (.returnTags n ts) s.hall.session = true := by simp [sessionTakes, hsession]
    refine ⟨fun hlo hhi hlen => ?_, fun hrange => ?_⟩
    · have hcmd := cmdReturnTags_of_counted (p := .desk d) (s := s) hlo hhi hlen
      have hleft : s.returnTags (.desk d) ts = left n := by
        simp only [left, ← hlen, List.take_length]
        rfl
      rw [returnAll_eq (.desk d) ts s (State.SameNumbers.refl s), hleft] at hcmd
      exact exec_taken rfl hready ⟨rfl, rfl, rfl⟩ hgate hcmd
    · have hcmd : cmdReturnTags (.desk d) n ts s = refuse s .range := by
        rw [cmdReturnTags, if_pos hrange]
      exact exec_taken rfl hready ⟨rfl, rfl, rfl⟩ hgate hcmd
  · refine ⟨fun h => State.returnTag_of_range (not_scriptOk_of h), fun hlo hhi => ?_⟩
    have hscript := scriptOk_of_inRange hlo hhi
    refine ⟨fun e i c he hstate hcand hc => ?_, fun e he hstate => State.returnTag_of_returned hscript he hstate,
      fun e he hstate => State.returnTag_of_void hscript he hstate, fun he hfull => ?_, fun he hroom => ?_⟩
    · intro u
      rw [State.returnTag_of_issued hscript he hstate, hcand, State.returnIssued_eq (u := u) rfl hc]
    · rw [State.returnTag_of_fresh hscript he, if_pos hfull]
    · rw [State.returnTag_of_fresh hscript he, if_neg (Nat.not_le.mpr hroom)]
      rfl

/-! ## Void and claim (R107, R108) -/

section Claim
variable {s : State} {t i : Nat} {c : Cand} {e : Custody}

/-- A claim taken before the collection test or the amended record (R108). -/
def State.claimed (s : State) (t i : Nat) : State :=
  (s.mapEntry t (fun y => { y with cand := some i })).mapCand i (fun y =>
    { y with issued := y.issued + 1, returned := y.returned + 1 })

theorem State.claimed_cand? (hc : s.cand? i = some c) (t : Nat) :
    (s.claimed t i).cand? i = some { c with issued := c.issued + 1, returned := c.returned + 1 } := by
  rw [State.claimed, State.mapCand_cand?, if_pos rfl]
  exact congrArg (Option.map _) hc

theorem claimFields_of_cand (hc : s.cand? i = some c) :
    claimFields s i = [⟨1, CandState.code c.state⟩, ⟨2, c.issued⟩, ⟨2, c.returned⟩] := by
  simp only [claimFields, hc]

theorem Cand.claims_iff (c : Cand) : c.claims = true ↔ c.state ≠ .expected ∧ c.state ≠ .absent := by
  unfold Cand.claims
  cases c.state <;> simp

/-- A claim that passes its tests is taken. -/
theorem claimOwn_of_free (hfree : e.cand = none) (hclaims : c.claims = true)
    (hsheet : e.kind = .sheet → s.hasLiveSheet i = false) :
    claimOwn t e i c s = okay (s.claim i c t) (claimFields (s.claim i c t) i) := by
  have hstate : ¬ (e.cand.isSome = true ∨ ¬ c.claims = true) := by simp [hfree, hclaims]
  have hlive : ¬ (e.kind = .sheet ∧ s.hasLiveSheet i = true) := fun ⟨hk, h⟩ => by
    rw [hsheet hk] at h
    cases h
  rw [claimOwn, if_neg hstate, if_neg hlive]

theorem State.claim_of_collected (h : c.state = .collected) : s.claim i c t =
    ((s.claimed t i).mapCand i (fun y => { y with nilScript := false })).offerCustodyClose i true := if_pos h

theorem State.claim_of_waiting (hc : s.cand? i = some c) (h : c.state ≠ .collected)
    (hwaits : c.state = .finished → ∃ f ∈ s.custody, f.cand = some i ∧ f.state = .issued ∧ f.script ≠ t) :
    s.claim i c t = s.claimed t i := by
  have hstays : (s.claimed t i).collectionTest i = s.claimed t i := by
    refine State.collectionTest_of_stays (State.claimed_cand? hc t) ?_
    by_cases hfinished : c.state = .finished
    · obtain ⟨f, hf, hcand, hissued, hscript⟩ := hwaits hfinished
      exact .inr ⟨f, List.mem_map.mpr ⟨f, hf, if_neg hscript⟩, hcand, hissued⟩
    · exact .inl hfinished
  exact (if_neg h).trans hstays

theorem cmdVoidTag_of_issued {p : Port} (hscript : scriptOk t = true) (he : s.entry? t = some e) (hcand : e.cand = some i)
    (hc : s.cand? i = some c) (hpass : s.passes p (s.candZone c) = true) (hstate : e.state = .issued) :
    cmdVoidTag p t s = okay ((s.mapEntry t (fun y => { y with state := .void })).collectionTest i)
      [⟨4, c.number⟩, ⟨1, TagKind.code e.kind⟩] := by
  have hpasses : s.entryPasses p e = true := by
    rw [State.entryPasses, hcand, Option.bind_some, hc]
    exact hpass
  rw [cmdVoidTag, if_neg (not_not.mpr hscript), he]
  simp only [hpasses, hstate, hcand, State.numberOf, Option.bind_some, hc, optField, Option.map_some, Option.getD_some,
    not_true_eq_false, ne_eq, if_false]

end Claim

/-- Settles O41: VOID_TAG of an ISSUED entry, and the claims of a stray. -/
theorem tagsVoidedAndClaimed : Obligations.TagsVoidedAndClaimed := by
  unfold Obligations.TagsVoidedAndClaimed
  intro d tag t i e c s hready hsession hlo hhi he hc hpass
  have hscript := scriptOk_of_inRange hlo hhi
  refine ⟨fun hcand hstate => ?_, fun number hn1 hn2 hi hfree hexpected habsent hsheet => ?_⟩
  · have hgate : sessionTakes (.voidTag t) s.hall.session = true := by simp [sessionTakes, hsession]
    have hcmd := cmdVoidTag_of_issued (p := .desk d) hscript he hcand hc hpass hstate
    exact exec_taken rfl hready ⟨rfl, rfl, rfl⟩ hgate hcmd
  · intro u
    have hgate : sessionTakes (.claimTag t number) s.hall.session = true := by simp [sessionTakes, hsession]
    have hlamp : (s.lampOff c.seat).cand? i = some c := (State.lampOff_cand? ..).trans hc
    have hcustody : (s.lampOff c.seat).custody = s.custody := by cases c.seat <;> rfl
    have hlive : e.kind = .sheet → (s.lampOff c.seat).hasLiveSheet i = false := fun hk =>
      Bool.eq_false_iff.mpr fun h => by
        obtain ⟨f, hf, hmine⟩ := (State.hasLiveSheet_iff _ i).mp h
        exact hsheet hk f (hcustody ▸ hf) hmine
    have hcmd : cmdClaimTag (.desk d) t number s = okay ((s.lampOff c.seat).claim i c t)
        (claimFields ((s.lampOff c.seat).claim i c t) i) := by
      rw [cmdClaimTag, if_neg (by simp [hscript, numberOk_of_inRange hn1 hn2]), he]
      exact (screenCand_of_passes (p := .desk d) (numberOk_of_inRange hn1 hn2) hi hc hpass (claimOwn t e)).trans
        (claimOwn_of_free hfree (c.claims_iff.mpr ⟨hexpected, habsent⟩) hlive)
    have hu : (s.lampOff c.seat).claimed t i = u := rfl
    have hclaimed : u.cand? i = some { c with issued := c.issued + 1, returned := c.returned + 1 } :=
      State.claimed_cand? hlamp t
    refine ⟨fun hstate => ?_, fun hstate hwaits => ?_⟩
    · have hcand : ((u.mapCand i (fun y => { y with nilScript := false })).offerCustodyClose i true).cand? i =
          some { c with issued := c.issued + 1, returned := c.returned + 1, nilScript := false } := by
        rw [State.cand?, State.offerCustodyClose_hall, ← State.cand?, State.mapCand_cand?, if_pos rfl, hclaimed]
        rfl
      have hfields := claimFields_of_cand hcand
      rw [hstate] at hfields
      rw [State.claim_of_collected hstate, hu, hfields] at hcmd
      exact exec_taken rfl hready ⟨rfl, rfl, rfl⟩ hgate hcmd
    · have hissued : c.state = .finished →
          ∃ f ∈ (s.lampOff c.seat).custody, f.cand = some i ∧ f.state = .issued ∧ f.script ≠ t := by
        rw [hcustody]
        exact hwaits
      rw [State.claim_of_waiting hlamp hstate hissued, hu, claimFields_of_cand hclaimed] at hcmd
      exact exec_taken rfl hready ⟨rfl, rfl, rfl⟩ hgate hcmd

end Sys2Proof.Machine
end

section
/-! SUPPORT. CUE_DEFINE (R61, R62), the second at one record (logs 2 and 3), the limits (R55, R77) and the group
frames (R54, R75, R76). -/

namespace Sys2Proof.Machine

/-! ## CUE_DEFINE (R61, R62) -/

section Cues
variable {s : State} {n : Nat} {x : Sitting} {q : Cue} {k : CueKind}

/-- An elapsed cue stands after every cue whose offset is not above its own (R62). -/
theorem insertElapsed_eq (q : Cue) {l : List Cue} (hl : l.Pairwise (fun a b => a.value ≤ b.value)) : insertElapsed q l =
    l.filter (fun r => r.value ≤ q.value) ++ q :: l.filter (fun r => q.value < r.value) := by
  induction l with
  | nil => rfl
  | cons r rs ih =>
    obtain ⟨hr, hrs⟩ := List.pairwise_cons.mp hl
    by_cases h : q.value < r.value
    · have habove : ∀ a ∈ r :: rs, q.value < a.value := fun a ha => by
        obtain rfl | ha := List.mem_cons.mp ha
        · exact h
        · exact Nat.lt_of_lt_of_le h (hr a ha)
      have hbelow : (r :: rs).filter (fun r => r.value ≤ q.value) = [] :=
        List.filter_eq_nil_iff.mpr fun a ha => by simpa using habove a ha
      have hall : (r :: rs).filter (fun r => q.value < r.value) = r :: rs :=
        List.filter_eq_self.mpr fun a ha => by simpa using habove a ha
      rw [insertElapsed, if_pos h, hbelow, hall]
      rfl
    · rw [insertElapsed, if_neg h, ih hrs, List.filter_cons_of_pos (by simpa using h), List.filter_cons_of_neg (by simpa using h)]
      rfl

/-- A remaining cue stands after every cue whose threshold is not below its own (R62). -/
theorem insertRemaining_eq (q : Cue) {l : List Cue} (hl : l.Pairwise (fun a b => b.value ≤ a.value)) : insertRemaining q l =
    l.filter (fun r => q.value ≤ r.value) ++ q :: l.filter (fun r => r.value < q.value) := by
  induction l with
  | nil => rfl
  | cons r rs ih =>
    obtain ⟨hr, hrs⟩ := List.pairwise_cons.mp hl
    by_cases h : r.value < q.value
    · have hbelow : ∀ a ∈ r :: rs, a.value < q.value := fun a ha => by
        obtain rfl | ha := List.mem_cons.mp ha
        · exact h
        · exact Nat.lt_of_le_of_lt (hr a ha) h
      have habove : (r :: rs).filter (fun r => q.value ≤ r.value) = [] :=
        List.filter_eq_nil_iff.mpr fun a ha => by simpa using hbelow a ha
      have hall : (r :: rs).filter (fun r => r.value < q.value) = r :: rs :=
        List.filter_eq_self.mpr fun a ha => by simpa using hbelow a ha
      rw [insertRemaining, if_pos h, habove, hall]
      rfl
    · rw [insertRemaining, if_neg h, ih hrs, List.filter_cons_of_pos (by simpa using h), List.filter_cons_of_neg (by simpa using h)]
      rfl

/-- With the sitting numbers distinct, a change of a sitting is what it makes of the one record (R14). -/
theorem State.mapSitting_of_ordered (h : s.TablesOrdered) (hx : s.sitting? n = some x) (f : Sitting → Sitting) :
    s.mapSitting n f = s.mapSitting n (fun _ => f x) := by
  simp only [State.mapSitting]
  congr 2
  apply List.map_congr_left
  intro y hy
  split
  next hn => rw [h.eq_sitting hx hy hn]
  next => rfl

theorem CueKind.coded_iff (k : CueKind) : k.coded = true ↔ k = .warn ∨ k = .note := by
  cases k <;> simp [CueKind.coded]

theorem CueKind.single_iff (k : CueKind) : k.single = true ↔ k = .lastEntry ∨ k = .exitOpen ∨ k = .exitClose := by
  cases k <;> simp [CueKind.single]

theorem elapsedBase_iff (k : CueKind) (base : Nat) :
    elapsedBase k base = true ↔ k = .lastEntry ∨ k = .exitOpen ∨ (k = .note ∧ base = 0) := by
  cases k <;> simp [elapsedBase]

theorem Sitting.hasCue_eq_false : x.hasCue k = false ↔ ∀ q ∈ x.elapsedCues ++ x.remainingCues, q.kind ≠ k := by
  simp only [Sitting.hasCue, List.any_eq_false, decide_eq_true_eq, ne_eq]

/-- A CUE_DEFINE that passes its tests (R61). -/
theorem cmdCueDefine_of_taken {kind base value code : Nat} (hkind : cueKindOf kind = some k)
    (hrange : cueInRange n k base value code = true) (hx : s.sitting? n = some x)
    (hstate : x.state = .defined ∨ x.state = .opened) (hvalue : value < x.base)
    (hpos : elapsedBase k base = true ∨ 0 < value) (hsingle : k.single = true → x.hasCue k = false)
    (hroom : x.elapsedCues.length + x.remainingCues.length < 8) : cmdCueDefine n kind base value code s =
      okay (s.mapSitting n (fun y =>
        if elapsedBase k base = true then
          { y with elapsedCues := insertElapsed ⟨k, value, if k.coded then code else 0⟩ y.elapsedCues }
        else { y with remainingCues := insertRemaining ⟨k, value, if k.coded then code else 0⟩ y.remainingCues }))
        [⟨1, x.elapsedCues.length + x.remainingCues.length + 1⟩] := by
  have hphase : ¬ (x.state ≠ .defined ∧ x.state ≠ .opened) := fun h => hstate.elim h.1 h.2
  have hplace : ¬ (x.base ≤ value ∨ ¬ elapsedBase k base = true ∧ value = 0) := by
    rintro (h | ⟨hel, h0⟩)
    · exact absurd hvalue (Nat.not_lt.mpr h)
    · exact hpos.elim hel (fun hp => Nat.ne_of_gt hp h0)
  have hother : ¬ (k.single = true ∧ x.hasCue k = true) := fun ⟨h1, h2⟩ => by
    rw [hsingle h1] at h2
    cases h2
  rw [cmdCueDefine, hkind]
  simp only [hrange, hx, not_true_eq_false, if_false, if_neg hphase, if_neg hplace, if_neg hother,
    if_neg (Nat.not_le.mpr hroom)]

end Cues

/-- Settles O27: where a cue stands in its list. -/
theorem cueDefined : Obligations.CueDefined := by
  unfold Obligations.CueDefined
  intro tag n kind base value code k x s hready hsession hn1 hn2 hkind hnote hcode hx hstate hvalue hmax hsingle hroom
    helapsed hremaining q elapsed y hpos hordered
  have hgate : sessionTakes (.cueDefine n kind base value code) s.hall.session = true := by
    obtain h | h := hsession <;> simp [sessionTakes, h]
  have hof : cueKindOf kind = some k := by
    simp only [List.mem_cons, Prod.mk.injEq, List.not_mem_nil, or_false] at hkind
    obtain ⟨rfl, rfl⟩ | ⟨rfl, rfl⟩ | ⟨rfl, rfl⟩ | ⟨rfl, rfl⟩ | ⟨rfl, rfl⟩ := hkind <;> rfl
  have hrange : cueInRange n k base value code = true := by
    have hbase : k ≠ .note ∨ base ≤ 1 := or_iff_not_imp_left.mpr fun h => hnote (not_not.mp h)
    have hcoded : k.coded = false ∨ 1 ≤ code ∧ code ≤ 255 := by
      cases h : k.coded
      · exact .inl rfl
      · exact .inr (hcode (k.coded_iff.mp h))
    simp only [cueInRange, sittingOk_of_inRange hn1 hn2, Bool.true_and, Bool.and_eq_true, Bool.or_eq_true, decide_eq_true_eq,
      Bool.not_eq_true']
    exact ⟨⟨hbase, hmax⟩, hcoded⟩
  have hcmd := cmdCueDefine_of_taken (s := s) hof hrange hx hstate hvalue
    (hpos.imp (elapsedBase_iff k base).mpr id) (fun h => Sitting.hasCue_eq_false.mpr (hsingle (k.single_iff.mp h))) hroom
  have hq : (⟨k, value, if k.coded then code else 0⟩ : Cue) = q := by
    simp only [q, k.coded_iff]
  have hy : (if elapsedBase k base = true then { x with elapsedCues := insertElapsed q x.elapsedCues }
      else { x with remainingCues := insertRemaining q x.remainingCues }) = y := by
    simp only [y, elapsedBase_iff, insertElapsed_eq q helapsed, insertRemaining_eq q hremaining]
    rfl
  rw [hq, State.mapSitting_of_ordered hordered hx, hy] at hcmd
  exact exec_taken rfl hready ⟨rfl, rfl, rfl⟩ hgate hcmd

/-! ## The second at one record (logs 2 and 3) -/

section Second
variable {s : State} {k : TickKey} {n : Nat} {x : Sitting}

theorem State.second_of_not_ahead (h : k ∉ s.clock.ahead) : s.second k = (s.markAhead k).tick k := by
  rw [State.second, if_neg]
  simpa [State.isAhead] using h

theorem State.second_of_ahead (h : k ∈ s.clock.ahead) : s.second k = s := by
  rw [State.second, if_pos]
  simpa [State.isAhead] using h

theorem State.early_of_due {due : Bool} (hdue : due = true) (h : k ∉ s.clock.ahead) :
    s.early k due = (s.markAhead k).tick k := by
  rw [State.early, if_pos hdue, State.second_of_not_ahead h]

theorem State.early_of_not_due {due : Bool} (hdue : due = false) : s.early k due = s := by
  rw [State.early, if_neg (by simp [hdue])]

theorem State.tickSitting_of_held (hx : s.sitting? n = some x) (hstate : x.state = .reading ∨ x.state = .writing)
    (hheld : s.held n = true) : s.tickSitting n = s.heldSecond x := by
  obtain h | h := hstate <;> simp only [State.tickSitting, hx, h, hheld]

theorem State.tickSitting_of_reading (hx : s.sitting? n = some x) (hstate : x.state = .reading)
    (hheld : s.held n = false) : s.tickSitting n = s.readingSecond x := by
  simp only [State.tickSitting, hx, hstate, hheld]

theorem State.tickSitting_of_writing (hx : s.sitting? n = some x) (hstate : x.state = .writing)
    (hheld : s.held n = false) : s.tickSitting n = s.writingSecond x := by
  simp only [State.tickSitting, hx, hstate, hheld]

end Second

/-- Settles O32: the pause limit, and a seat that becomes poll-due. -/
theorem limitsReached : Obligations.LimitsReached := by
  unfold Obligations.LimitsReached
  refine ⟨fun s n x hx hstate hheld hpos hdisrupted hlimit hahead => ?_, fun s n x hx hocc hquiet hahead => ?_⟩
  · have hdue : s.pauseLimitDue n = true := by
      simp only [State.pauseLimitDue, hx, hheld, hdisrupted, hlimit, decide_eq_true hpos, Bool.and_true, Bool.not_false,
        beq_self_eq_true]
      obtain h | h := hstate <;> rw [h] <;> rfl
    have harm : exec (.pauseLimit n) s = .next (s.early (.sitting n) (s.pauseLimitDue n)) := rfl
    have hreached : 0 < x.pauseLimit ∧ ¬ x.disrupted = true ∧ x.pauseAcc + 1 = x.pauseLimit :=
      ⟨hpos, Bool.eq_false_iff.mp hdisrupted, hlimit⟩
    have htick : (s.markAhead (.sitting n)).tick (.sitting n) = (s.markAhead (.sitting n)).heldSecond x :=
      State.tickSitting_of_held hx hstate hheld
    rw [harm, State.early_of_due hdue hahead, htick, State.heldSecond, if_pos hreached, State.number_of_sitting? hx, hlimit,
      State.mapSitting_mapSitting _ _ (f := fun y => { y with pauseAcc := x.pauseLimit }) (fun _ => rfl)]
    rfl
  · have hdue : s.pollDueNext n = true := by
      simp only [State.pollDueNext, hx, hocc, hquiet, beq_self_eq_true, Bool.and_self]
    have harm : exec (.seatPollDue n) s = .next (s.early (.seat n) (s.pollDueNext n)) := rfl
    have hcounts : x.occupant.isSome = true ∧ x.quiet < 8 := ⟨hocc, by omega⟩
    refine ⟨(s.markAhead (.seat n)).tickSeat n, ?_, ?_, rfl, rfl⟩
    · rw [harm, State.early_of_due hdue hahead]
      rfl
    · have hseat := State.mapSeat_seat? (s.markAhead (.seat n)) n n
        (fun x => if x.occupant.isSome ∧ x.quiet < 8 then { x with quiet := x.quiet + 1 } else x)
        (fun y => by split <;> rfl)
      rw [if_pos rfl] at hseat
      refine hseat.trans ((congrArg (Option.map _) hx).trans ?_)
      rw [Option.map_some, if_pos hcounts, hquiet]

/-! ## PAUSE, RESUME and ANNOUNCE (R54, R75, R76) -/

section Pause
variable {s : State} {n scope : Nat} {x : Sitting}

theorem State.setPause_time (s : State) (scope : Nat) (v : Bool) : (s.setPause scope v).hall.time = s.hall.time := by
  unfold State.setPause; split <;> rfl

theorem State.setPause_cands (s : State) (scope : Nat) (v : Bool) : (s.setPause scope v).hall.cands = s.hall.cands := by
  unfold State.setPause; split <;> rfl

theorem State.setPause_pauseFrame (s : State) (scope : Nat) (v : Bool) (address : Nat) (a : AnnounceAction) :
    (s.setPause scope v).pauseFrame address a = s.pauseFrame address a := by
  rw [State.pauseFrame, State.setPause_time]
  rfl

theorem cmdPause_of_clear {p : Port} (hscope : ¬ 12 < scope ∧ ¬ (scope ≠ 0 ∧ (s.sitting? scope).isNone = true))
    (hchief : s.isChief p = true) (hclear : s.pauseRefused scope = false) : cmdPause p scope s =
      okay ((((s.setPause scope true).runningIn scope).foldl (fun t i => t.showCand i) (s.setPause scope true)).queueFrame
        (s.pauseFrame (scopeAddress scope) .hold)) := by
  rw [cmdPause, if_neg hscope.1, if_neg hscope.2, if_neg (not_not.mpr hchief), if_neg (Bool.eq_false_iff.mp hclear)]
  simp only [State.setPause_pauseFrame]

theorem cmdResume_of_set {p : Port} (hscope : ¬ 12 < scope ∧ ¬ (scope ≠ 0 ∧ (s.sitting? scope).isNone = true))
    (hchief : s.isChief p = true) (hset : s.pauseSet scope = true) : cmdResume p scope s =
      okay (((s.setPause scope false).runTargets scope).foldl (fun t n => t.queueFrame (s.pauseFrame (groupAddress n) .run))
        (((s.setPause scope false).unheldIn scope).foldl (fun t i => t.showCand i) (s.setPause scope false))) := by
  rw [cmdResume, if_neg hscope.1, if_neg hscope.2, if_neg (not_not.mpr hchief), if_neg (not_not.mpr hset)]
  simp only [State.setPause_pauseFrame]

/-- The RUN frames go to the sittings that no flag holds any more (R76). -/
theorem State.setPause_runTargets (s : State) (scope : Nat) : (s.setPause scope false).runTargets scope =
    if scope = 0 then (s.hall.sittings.filter (fun x => (decide (x.state = .reading) || decide (x.state = .writing))
      && !x.paused)).map (fun x => x.number)
    else if s.clock.hallPause then [] else [scope] := by
  unfold State.runTargets State.setPause
  by_cases h : scope = 0
  · simp only [if_pos h]
  · simp only [if_neg h]
    rfl

theorem State.indexesWhere_congr {s t : State} (h : t.hall.cands = s.hall.cands) (q : Cand → Bool) :
    t.indexesWhere q = s.indexesWhere q := by
  rw [State.indexesWhere, State.indexesWhere, h]

theorem cmdAnnounce_of_passes {p : Port} {form value code : Nat} (hrange : announceInRange form value code = true)
    (hfound : ¬ ((form = 0 ∧ (s.seat? value).isNone = true) ∨ (form = 1 ∧ (s.sitting? value).isNone = true)))
    (hpass : (if form = 0 then s.passes p (((s.seat? value).map (fun x => x.zone)).getD 0) else s.isChief p) = true) :
    cmdAnnounce p form value code s = if 8 ≤ s.line.groupQueue.length then refuse s .full
      else okay (s.queueFrame ⟨announceAddress form value, .announce code .show⟩) := by
  rw [cmdAnnounce, if_neg (not_not.mpr hrange), if_neg hfound, if_neg (not_not.mpr hpass)]
  rfl

theorem State.queueFrame_of_room (f : LineFrame) (h : s.line.groupQueue.length < 8) :
    s.queueFrame f = { s with line := { s.line with groupQueue := s.line.groupQueue ++ [f] } } := if_pos h

end Pause

/-- Settles O33: PAUSE, RESUME and ANNOUNCE, and the frames they queue. -/
theorem groupFramesQueued : Obligations.GroupFramesQueued := by
  unfold Obligations.GroupFramesQueued
  refine ⟨fun tag scope s hready hsession => ?_, fun d tag form value code address s hready hsession hc1 hc2 htarget => ?_⟩
  · intro set running frame
    have hchief : s.isChief (.desk s.hall.chief) = true := by simp [State.isChief_desk]
    have hset : ∀ v, s.setPause scope v = set v := fun _ => rfl
    have hrunning : ∀ v q, (s.setPause scope v).indexesWhere (fun c => inScope scope c.sitting
        && (decide (c.state = .writing) || decide (c.state = .resting)) && q c) = running q := fun v q =>
      State.indexesWhere_congr (s.setPause_cands scope v) _
    refine ⟨fun hclear => ?_, fun hpaused => ?_⟩
    · have hgate : sessionTakes (.pause scope) s.hall.session = true := by simp [sessionTakes, hsession]
      have hscope : ¬ 12 < scope ∧ ¬ (scope ≠ 0 ∧ (s.sitting? scope).isNone = true) := by
        obtain ⟨h, -⟩ | ⟨-, hle, x, hx, -⟩ := hclear
        · simp [h]
        · simp [hx, hle]
      have hfree : s.pauseRefused scope = false := by
        obtain ⟨h, hp⟩ | ⟨hpos, -, x, hx, hp, hstate⟩ := hclear
        · rw [State.pauseRefused, if_pos h, hp]
        · rw [State.pauseRefused, if_neg (Nat.ne_of_gt hpos), hx]
          simpa [hp, imp_iff_not_or] using hstate
      have haddress : scopeAddress scope = if scope = 0 then 0 else 512 + scope := rfl
      have hlist := hrunning true (fun _ => true)
      simp only [Bool.and_true] at hlist
      have hcmd := cmdPause_of_clear hscope hchief hfree
      rw [State.runningIn, hlist, hset, haddress] at hcmd
      exact exec_taken rfl hready ⟨rfl, rfl, rfl⟩ hgate hcmd
    · have hgate : sessionTakes (.resume scope) s.hall.session = true := by simp [sessionTakes, hsession]
      have hscope : ¬ 12 < scope ∧ ¬ (scope ≠ 0 ∧ (s.sitting? scope).isNone = true) := by
        obtain ⟨h, -⟩ | ⟨-, hle, x, hx, -⟩ := hpaused
        · simp [h]
        · simp [hx, hle]
      have hflag : s.pauseSet scope = true := by
        obtain ⟨h, hp⟩ | ⟨hpos, -, x, hx, hp⟩ := hpaused
        · rw [State.pauseSet, if_pos h, hp]
        · rw [State.pauseSet, if_neg (Nat.ne_of_gt hpos), hx]
          exact hp
      have hcmd := cmdResume_of_set hscope hchief hflag
      rw [State.setPause_runTargets, State.unheldIn, hrunning false, hset] at hcmd
      exact exec_taken rfl hready ⟨rfl, rfl, rfl⟩ hgate hcmd
  · intro f
    have hgate : sessionTakes (.announce form value code) s.hall.session = true := by simp [sessionTakes, hsession]
    have hcmd : cmdAnnounce (.desk d) form value code s =
        if 8 ≤ s.line.groupQueue.length then refuse s .full else okay (s.queueFrame f) := by
      obtain ⟨rfl, rfl, hv1, hv2, x, hx, hpass⟩ | ⟨rfl, rfl, hv1, hv2, hx, hd⟩ | ⟨rfl, rfl, hd⟩ := htarget
      · refine cmdAnnounce_of_passes ?_ (by simp [hx]) ?_
        · simp [announceInRange, hc1, hc2, seatOk_of_inRange hv1 hv2]
        · rw [if_pos rfl, hx]
          exact hpass
      · refine cmdAnnounce_of_passes ?_ (by simp [Option.isSome_iff_ne_none.mp hx]) ?_
        · simp [announceInRange, hc1, hc2, sittingOk_of_inRange hv1 hv2]
        · rw [if_neg Nat.one_ne_zero, State.isChief_desk, decide_eq_true hd]
      · refine cmdAnnounce_of_passes ?_ (by simp) ?_
        · simp [announceInRange, hc1, hc2]
        · rw [if_neg (by decide), State.isChief_desk, decide_eq_true hd]
    refine ⟨fun hroom => ?_, fun hfull => ?_⟩
    · rw [if_neg (Nat.not_le.mpr hroom), State.queueFrame_of_room f hroom] at hcmd
      exact exec_taken rfl hready ⟨rfl, rfl, rfl⟩ hgate hcmd
    · rw [if_pos hfull] at hcmd
      exact exec_taken rfl hready ⟨rfl, rfl, rfl⟩ hgate hcmd

end Sys2Proof.Machine
end

section
/-! SUPPORT. The second at a candidate (R70 to R73). -/

namespace Sys2Proof.Machine

section Cand
variable {s : State} {i m : Nat} {c : Cand} {x : Sitting} {q : Cue}

theorem State.restJustEnded_of_mem (h : i ∈ s.clock.restEnded) : s.restJustEnded i = true := by
  simpa [State.restJustEnded] using h

theorem State.restJustEnded_of_not_mem (h : i ∉ s.clock.restEnded) : s.restJustEnded i = false := by
  simpa [State.restJustEnded] using h

theorem State.consumeDue_of_ended (hc : s.cand? i = some c) (h : i ∈ s.clock.restEnded) (q : Cand → Bool) :
    s.consumeDue i q = false := by
  simp only [State.consumeDue, hc, State.restJustEnded_of_mem h, Bool.not_true, Bool.and_false, Bool.false_and]

theorem State.consumeDue_of_writing (hc : s.cand? i = some c) (hstate : c.state = .writing) (hheld : s.held c.sitting = false)
    (h : i ∉ s.clock.restEnded) (q : Cand → Bool) : s.consumeDue i q = q c := by
  simp only [State.consumeDue, hc, hstate, hheld, State.restJustEnded_of_not_mem h, decide_true, Bool.not_false, Bool.true_and]

theorem State.restEndDue_of_resting (hc : s.cand? i = some c) (hstate : c.state = .resting) (hheld : s.held c.sitting = false) :
    s.restEndDue i = (c.restUsed + 1 == c.restBudget) := by
  simp only [State.restEndDue, hc, hstate, hheld, decide_true, Bool.not_false, Bool.true_and]

theorem State.tickCand_of_writing (hc : s.cand? i = some c) (hstate : c.state = .writing) (hheld : s.held c.sitting = false)
    (h : i ∉ s.clock.restEnded) : s.tickCand i = s.consume i c := by
  simp only [State.tickCand, hc, hstate, hheld, State.restJustEnded_of_not_mem h, Bool.false_eq_true, if_false]

theorem State.tickCand_of_ended (hc : s.cand? i = some c) (hstate : c.state = .writing) (h : i ∈ s.clock.restEnded) :
    s.tickCand i = s := by
  cases hheld : s.held c.sitting <;> simp only [State.tickCand, hc, hstate, hheld, State.restJustEnded_of_mem h, if_true]

theorem State.tickCand_of_resting (hc : s.cand? i = some c) (hstate : c.state = .resting) (hheld : s.held c.sitting = false) :
    s.tickCand i = s.restSecond i c := by
  simp only [State.tickCand, hc, hstate, hheld]

theorem State.tickCand_of_held (hc : s.cand? i = some c) (hheld : s.held c.sitting = true) : s.tickCand i = s := by
  cases hstate : c.state <;> simp only [State.tickCand, hc, hstate, hheld]

theorem State.tickCand_of_other (hc : s.cand? i = some c) (hw : c.state ≠ .writing) (hr : c.state ≠ .resting) :
    s.tickCand i = s := by
  cases hstate : c.state with
  | writing => exact absurd hstate hw
  | resting => exact absurd hstate hr
  | _ => simp only [State.tickCand, hc, hstate]

theorem State.consume_of_expired (h : c.consumed + 1 = c.entitled) : s.consume i c =
    (s.mapCand i (fun d => { d with consumed := c.entitled })).finishCand i .time := by
  simp only [State.consume, h, if_true]

theorem State.cuesDue_eq (hx : s.sitting? c.sitting = some x) (rem : Nat) :
    s.cuesDue c rem = (x.remainingCues.drop c.cuePtr).takeWhile (fun q => decide (rem ≤ q.value)) := by
  simp only [State.cuesDue, hx, Option.map_some, Option.getD_some, Sitting.dueRemaining]

theorem State.consume_of_left (h : c.consumed + 1 ≠ c.entitled) : s.consume i c =
    (let u := (s.cuesDue c (c.entitled - (c.consumed + 1))).foldl (State.fireRemaining i)
        (s.mapCand i (fun d => { d with consumed := c.consumed + 1 }))
    if (c.entitled - (c.consumed + 1)) % 60 = 0 ∨ c.entitled - (c.consumed + 1) < 60 then u.showCand i else u) := by
  simp only [State.consume, if_neg h]

theorem State.restSecond_of_used (h : c.restUsed + 1 = c.restBudget) : s.restSecond i c =
    (s.mapCand i (fun d => { d with restUsed := c.restBudget })).leaveRest i c.sitting (some (.cond .restOver)) := by
  simp only [State.restSecond, h, if_true]

theorem State.restSecond_of_left (h : c.restUsed + 1 ≠ c.restBudget) : s.restSecond i c =
    s.mapCand i (fun d => { d with restUsed := c.restUsed + 1 }) := by
  simp only [State.restSecond, if_neg h]

/-- What a code's write shows of a candidate in WRITING (R69). -/
theorem State.showCand_writing_code (hc : s.cand? i = some c) (hseat : c.seat = some m) (hstate : c.state = .writing)
    (k : DispCode) : s.showCand i (some k) = s.writeDisplay m (fun d =>
      { d with mode := if s.held c.sitting then .held else .count, remaining := c.entitled - c.consumed, number := 0,
               lock := false, code := k, arg := 0, codeSeq := (d.codeSeq + 1) % 256 }) := by
  have hshown : c.shown (s.held c.sitting) =
      some (if s.held c.sitting then .held else .count, c.entitled - c.consumed, 0, false) := by
    rw [Cand.shown, hstate]
    rfl
  exact State.showCand_eq hc hseat hshown (some k)

theorem State.mapCand_cand?_self (hc : s.cand? i = some c) (f : Cand → Cand) : (s.mapCand i f).cand? i = some (f c) := by
  rw [State.mapCand_cand?, if_pos rfl, hc, Option.map_some]

end Cand

/-- Settles O31: the expiry, the remaining cues and the end of a rest budget. -/
theorem candidateSeconds : Obligations.CandidateSeconds := by
  unfold Obligations.CandidateSeconds
  refine ⟨fun s i c hc hheld hahead => ?_, fun s i m c q hc hseat hstate => ?_⟩
  · intro t
    have hexpiry : exec (.expiry i) s = .next (s.early (.cand i)
      (s.consumeDue i (fun c => c.consumed + 1 == c.entitled))) := rfl
    have hfire : exec (.remainingCueFire i) s = .next (s.early (.cand i) (s.consumeDue i (fun c =>
      c.consumed + 1 != c.entitled && !(s.cuesDue c (c.entitled - (c.consumed + 1))).isEmpty))) := rfl
    have hrest : exec (.restBudgetEnd i) s = .next (s.early (.cand i) (s.restEndDue i)) := rfl
    have htick : (s.markAhead (.cand i)).tick (.cand i) = t.tickCand i := rfl
    refine ⟨fun hstate hended => ⟨?_, ?_⟩, fun hstate hended hlast => ?_, fun x qs hstate hended hleft hx hqs hne => ?_,
      fun hstate hlast => ?_⟩
    · rw [hexpiry, State.early_of_not_due (State.consumeDue_of_ended hc hended _)]
    · rw [hfire, State.early_of_not_due (State.consumeDue_of_ended hc hended _)]
    · have hdue : s.consumeDue i (fun c => c.consumed + 1 == c.entitled) = true := by
        rw [State.consumeDue_of_writing hc hstate hheld hended, hlast, beq_self_eq_true]
      rw [hexpiry, State.early_of_due hdue hahead, htick, State.tickCand_of_writing (s := t) hc hstate hheld hended,
        State.consume_of_expired hlast]
    · have hcues := (State.cuesDue_eq hx (c.entitled - (c.consumed + 1))).trans hqs.symm
      have hneq : c.consumed + 1 ≠ c.entitled := Nat.ne_of_lt hleft
      have hdue : s.consumeDue i (fun c => c.consumed + 1 != c.entitled
          && !(s.cuesDue c (c.entitled - (c.consumed + 1))).isEmpty) = true := by
        rw [State.consumeDue_of_writing hc hstate hheld hended, hcues]
        simp [hneq, hne]
      have hcues' : t.cuesDue c (c.entitled - (c.consumed + 1)) = qs := hcues
      rw [hfire, State.early_of_due hdue hahead, htick, State.tickCand_of_writing (s := t) hc hstate hheld hended,
        State.consume_of_left hneq, hcues']
    · have hdue : s.restEndDue i = true := by
        rw [State.restEndDue_of_resting hc hstate hheld, hlast, beq_self_eq_true]
      rw [hrest, State.early_of_due hdue hahead, htick, State.tickCand_of_resting (s := t) hc hstate hheld,
        State.restSecond_of_used hlast]
      rfl
  · refine ⟨fun hkind => ?_, fun hkind => ?_⟩
    · have hcand := State.mapCand_cand?_self hc (fun d => { d with cuePtr := d.cuePtr + 1 })
      have hshow := State.showCand_writing_code (m := m) hcand hseat hstate (.announce q.code)
      obtain h | h := hkind <;> simp only [State.fireRemaining, h] <;> exact hshow
    · have hcand := State.mapCand_cand?_self hc (fun d => { d with cuePtr := d.cuePtr + 1, exitClosed := true })
      have hshow := State.showCand_writing_code (m := m) hcand hseat hstate (.cond .exitClosed)
      simp only [State.fireRemaining, hkind, State.mapCand_mapCand]
      exact hshow

end Sys2Proof.Machine
end

section
/-! SUPPORT. What the parts of a hall second leave unchanged (section 4.7): one relation that every one of them
keeps. -/

namespace Sys2Proof.Machine

/-! ## The frame of a part of the second -/

/-- The fields of a seat that no part of a second but the seat's own changes (R10, R55 to R57). -/
def Seat.unit (x : Seat) : Nat × Nat × Service × Option Nat := (x.quiet, x.miss, x.service, x.faultMark)

/-- A candidate that has not begun and may yet be admitted or begin writing (R66, R68). -/
def CandState.young : CandState → Bool
  | .expected | .admitted => true
  | .writing | .resting | .finished | .collected | .absent | .withdrawn => false

/-- What a part of a hall second leaves: it touches sitting records of `S` alone, with `π` kept of each, and
candidate records of `C` alone; a candidate leaves a seat and takes none, and a seat loses an occupant only
where its candidate has left it. -/
structure Frame {α : Type} (π : Sitting → α) (S C : Nat → Prop) (s t : State) : Prop where
  time : t.hall.time = s.hall.time
  session : t.hall.session = s.hall.session
  hallPause : t.clock.hallPause = s.clock.hallPause
  custody : t.custody = s.custody
  ahead_old : ∀ k ∈ s.clock.ahead, k ∈ t.clock.ahead
  ahead_new : ∀ k ∈ t.clock.ahead, k ∈ s.clock.ahead ∨ (∃ n, S n ∧ k = .sitting n) ∨ ∃ j, C j ∧ k = .cand j
  ended_old : ∀ j ∈ s.clock.restEnded, j ∈ t.clock.restEnded
  ended_new : ∀ j ∈ t.clock.restEnded, j ∈ s.clock.restEnded ∨ C j
  held : ∀ n, t.held n = s.held n
  kept : ∀ n, (t.sitting? n).map π = (s.sitting? n).map π
  sittings : ∀ n, ¬ S n → t.sitting? n = s.sitting? n
  cands : ∀ j, ¬ C j → t.cand? j = s.cand? j
  names : ∀ j, (t.cand? j).map (fun c => (c.number, c.sitting)) = (s.cand? j).map (fun c => (c.number, c.sitting))
  unseated : ∀ j c d, s.cand? j = some c → t.cand? j = some d → d.seat = c.seat ∨ d.seat = none
  young : ∀ j d, t.cand? j = some d → d.state.young = true → ∃ c, s.cand? j = some c ∧ c.state.young = true
  numbers : t.hall.seats.map (fun x => x.seat) = s.hall.seats.map (fun x => x.seat)
  units : ∀ n, (t.seat? n).map Seat.unit = (s.seat? n).map Seat.unit
  left : ∀ n x y, s.seat? n = some x → t.seat? n = some y → y.occupant = x.occupant
    ∨ y.occupant = none ∧ ∃ j c d, s.cand? j = some c ∧ c.seat = some n ∧ t.cand? j = some d ∧ d.seat = none

section Rules
variable {α β : Type} {π : Sitting → α} {S C S' C' : Nat → Prop} {s t u : State} {i n : Nat} {c : Cand} {x : Sitting}

/-- A record that stands before a part of a second stands after it. -/
theorem some_of_map_eq {α β : Type} {f : α → β} {o p : Option α} (h : p.map f = o.map f) {a : α} (ha : o = some a) :
    ∃ b, p = some b ∧ f b = f a := by
  subst ha
  cases p with
  | none => cases h
  | some b => exact ⟨b, rfl, Option.some.inj h⟩

theorem Frame.cand (h : Frame π S C s t) (hc : s.cand? i = some c) :
    ∃ d, t.cand? i = some d ∧ d.number = c.number ∧ d.sitting = c.sitting := by
  obtain ⟨d, hd, heq⟩ := some_of_map_eq (h.names i) hc
  exact ⟨d, hd, congrArg Prod.fst heq, congrArg Prod.snd heq⟩

theorem Frame.cand_before (h : Frame π S C s t) {d : Cand} (hd : t.cand? i = some d) :
    ∃ c, s.cand? i = some c ∧ c.number = d.number ∧ c.sitting = d.sitting := by
  obtain ⟨c, hc, heq⟩ := some_of_map_eq (h.names i).symm hd
  exact ⟨c, hc, congrArg Prod.fst heq, congrArg Prod.snd heq⟩

theorem Frame.sitting (h : Frame π S C s t) (hx : s.sitting? n = some x) : ∃ y, t.sitting? n = some y ∧ π y = π x :=
  some_of_map_eq (h.kept n) hx

theorem Frame.refl (s : State) : Frame π S C s s where
  time := rfl
  session := rfl
  hallPause := rfl
  custody := rfl
  ahead_old := fun _ h => h
  ahead_new := fun _ h => .inl h
  ended_old := fun _ h => h
  ended_new := fun _ h => .inl h
  held := fun _ => rfl
  kept := fun _ => rfl
  sittings := fun _ _ => rfl
  cands := fun _ _ => rfl
  names := fun _ => rfl
  unseated := fun j c d hc hd => by rw [hc] at hd; cases hd; exact .inl rfl
  young := fun _ d hd hyoung => ⟨d, hd, hyoung⟩
  numbers := rfl
  units := fun _ => rfl
  left := fun n x y hx hy => by rw [hx] at hy; cases hy; exact .inl rfl

theorem Frame.trans (h : Frame π S C s t) (h' : Frame π S C t u) : Frame π S C s u where
  time := h'.time.trans h.time
  session := h'.session.trans h.session
  hallPause := h'.hallPause.trans h.hallPause
  custody := h'.custody.trans h.custody
  ahead_old := fun k hk => h'.ahead_old k (h.ahead_old k hk)
  ahead_new := fun k hk => (h'.ahead_new k hk).elim (h.ahead_new k) .inr
  ended_old := fun j hj => h'.ended_old j (h.ended_old j hj)
  ended_new := fun j hj => (h'.ended_new j hj).elim (h.ended_new j) .inr
  held := fun n => (h'.held n).trans (h.held n)
  kept := fun n => (h'.kept n).trans (h.kept n)
  sittings := fun n hn => (h'.sittings n hn).trans (h.sittings n hn)
  cands := fun j hj => (h'.cands j hj).trans (h.cands j hj)
  names := fun j => (h'.names j).trans (h.names j)
  unseated := fun j c e hc he => by
    obtain ⟨d, hd, -⟩ := h.cand hc
    obtain heq | hnone := h'.unseated j d e hd he
    · rw [heq]
      exact h.unseated j c d hc hd
    · exact .inr hnone
  young := fun j e he hyoung => by
    obtain ⟨d, hd, hyoung⟩ := h'.young j e he hyoung
    exact h.young j d hd hyoung
  numbers := h'.numbers.trans h.numbers
  units := fun n => (h'.units n).trans (h.units n)
  left := fun n x z hx hz => by
    obtain ⟨y, hy, -⟩ := some_of_map_eq (h.units n) hx
    have hfirst := h.left n x y hx hy
    obtain hsame | ⟨hnone, j, d, e, hd, hseat, he, hleft⟩ := h'.left n y z hy hz
    · rw [hsame]
      obtain hsame' | ⟨hnone, j, c, d, hc, hseat, hd, hleft⟩ := hfirst
      · exact .inl hsame'
      · obtain ⟨e, he, -⟩ := h'.cand hd
        refine .inr ⟨hnone, j, c, e, hc, hseat, he, ?_⟩
        exact (h'.unseated j d e hd he).elim (fun heq => heq.trans hleft) id
    · obtain ⟨c, hc, -⟩ := h.cand_before hd
      refine .inr ⟨hnone, j, c, e, hc, ?_, he, hleft⟩
      obtain heq | hd0 := h.unseated j c d hc hd
      · rw [← heq, hseat]
      · rw [hd0] at hseat
        cases hseat

theorem Frame.mono (h : Frame π S C s t) (hS : ∀ n, S n → S' n) (hC : ∀ j, C j → C' j) : Frame π S' C' s t :=
  { h with
    ahead_new := fun k hk => (h.ahead_new k hk).imp id (Or.imp (fun ⟨n, hn, e⟩ => ⟨n, hS n hn, e⟩)
      (fun ⟨j, hj, e⟩ => ⟨j, hC j hj, e⟩))
    ended_new := fun j hj => (h.ended_new j hj).imp id (hC j)
    sittings := fun n hn => h.sittings n (fun h => hn (hS n h))
    cands := fun j hj => h.cands j (fun h => hj (hC j h)) }

theorem Frame.weaken {π' : Sitting → β} (h : Frame π S C s t) (hπ : ∀ x y, π y = π x → π' y = π' x) : Frame π' S C s t :=
  { h with
    kept := fun n => by
      cases hx : s.sitting? n with
      | none =>
        have hkept := h.kept n
        rw [hx] at hkept
        rw [Option.map_eq_none_iff.mp hkept]
      | some x =>
        obtain ⟨y, hy, heq⟩ := h.sitting hx
        rw [hy]
        exact congrArg some (hπ x y heq) }

theorem Frame.foldl {γ : Type} {f : State → γ → State} (l : List γ) :
    ∀ s, (∀ u a, a ∈ l → Frame π S C s u → Frame π S C u (f u a)) → Frame π S C s (l.foldl f s) := by
  induction l with
  | nil => exact fun s _ => .refl s
  | cons a l ih =>
    intro s hf
    have hfirst := hf s a (List.mem_cons_self ..) (.refl s)
    exact hfirst.trans (ih (f s a) fun u b hb hu => hf u b (List.mem_cons_of_mem _ hb) (hfirst.trans hu))

/-! ### The operations -/

/-- What changes no hall record, no clock and no custody entry. -/
theorem Frame.still (hhall : t.hall = s.hall) (hclock : t.clock = s.clock) (hcustody : t.custody = s.custody) :
    Frame π S C s t := by
  have hrefl : Frame π S C s s := .refl s
  exact
    { hrefl with
      time := by rw [hhall]
      session := by rw [hhall]
      hallPause := by rw [hclock]
      custody := hcustody
      ahead_old := by rw [hclock]; exact hrefl.ahead_old
      ahead_new := by rw [hclock]; exact hrefl.ahead_new
      ended_old := by rw [hclock]; exact hrefl.ended_old
      ended_new := by rw [hclock]; exact hrefl.ended_new
      held := fun n => by rw [State.held, State.held, State.sitting?, State.sitting?, hhall, hclock]
      kept := fun n => by rw [State.sitting?, State.sitting?, hhall]
      sittings := fun n _ => by rw [State.sitting?, State.sitting?, hhall]
      cands := fun j _ => by rw [State.cand?, State.cand?, hhall]
      names := fun j => by rw [State.cand?, State.cand?, hhall]
      unseated := fun j c d hc hd => by
        rw [State.cand?, hhall] at hd
        exact hrefl.unseated j c d hc hd
      young := fun j d hd hyoung => by
        rw [State.cand?, hhall] at hd
        exact ⟨d, hd, hyoung⟩
      numbers := by rw [hhall]
      units := fun n => by rw [State.seat?, State.seat?, hhall]
      left := fun n x y hx hy => by
        rw [State.seat?, hhall] at hy
        exact .inl (by rw [Option.some.inj (hx.symm.trans hy)]) }

theorem State.notifyWhere_frame (s : State) (q : Desk → Bool) (k : Notice) : Frame π S C s (s.notifyWhere q k) := by
  rw [State.notifyWhere_eq]
  exact .still rfl rfl rfl

theorem State.offer_frame (s : State) (kind : RecordKind) (body : List Field) (now : Nat) :
    Frame π S C s (s.offer kind body now) := by
  unfold State.offer
  split
  · have hsame := s.enqueue_same kind body now
    exact .still hsame.hall hsame.clock hsame.custody
  · exact .still rfl rfl rfl

theorem State.queueFrame_frame (s : State) (f : LineFrame) : Frame π S C s (s.queueFrame f) := by
  unfold State.queueFrame
  split
  · exact .still rfl rfl rfl
  · exact .refl s

/-- A change of a seat that is not of its occupant and not of its unit. -/
theorem State.mapSeat_frame (s : State) (n : Nat) {f : Seat → Seat} (hf : ∀ x, (f x).seat = x.seat
    ∧ (f x).unit = x.unit ∧ (f x).occupant = x.occupant) : Frame π S C s (s.mapSeat n f) :=
  { Frame.refl s with
    numbers := by
      simp only [State.mapSeat, List.map_map]
      congr 1
      funext x
      simp only [Function.comp_apply]
      split
      · exact (hf x).1
      · rfl
    units := fun m => by
      rw [State.mapSeat_seat? s n m f (fun x => (hf x).1)]
      split
      · rw [Option.map_map]
        exact congrArg (fun g => (s.seat? m).map g) (funext fun x => (hf x).2.1)
      · rfl
    left := fun m x y hx hy => .inl (by
      rw [State.mapSeat_seat? s n m f (fun x => (hf x).1), hx] at hy
      split at hy
      · cases hy; exact (hf x).2.2
      · cases hy; rfl) }

theorem State.writeDisplay_frame (s : State) (n : Nat) (g : Display → Display) : Frame π S C s (s.writeDisplay n g) :=
  s.mapSeat_frame n (fun _ => ⟨rfl, rfl, rfl⟩)

theorem State.showAt_frame (s : State) (n i : Nat) (code : Option DispCode) : Frame π S C s (s.showAt n i code) := by
  unfold State.showAt
  split
  · exact s.writeDisplay_frame ..
  · exact s.writeDisplay_frame ..
  · exact .refl s

theorem State.showCand_frame (s : State) (i : Nat) (code : Option DispCode) : Frame π S C s (s.showCand i code) := by
  unfold State.showCand
  split
  · exact .refl s
  · exact s.showAt_frame ..

theorem State.mapSitting_frame (s : State) (hn : S n) {f : Sitting → Sitting} (hf : ∀ x, (f x).number = x.number
    ∧ (f x).paused = x.paused ∧ π (f x) = π x) : Frame π S C s (s.mapSitting n f) :=
  { Frame.refl (π := π) s with
    held := fun m => State.held_mapSitting s n m (fun x => (hf x).1) (fun x => (hf x).2.1)
    kept := fun m => by
      rw [State.mapSitting_sitting? s n m f (fun x => (hf x).1)]
      split
      · rw [Option.map_map]
        exact congrArg (fun g => (s.sitting? m).map g) (funext fun x => (hf x).2.2)
      · rfl
    sittings := fun m hm => by
      rw [State.mapSitting_sitting? s n m f (fun x => (hf x).1), if_neg (fun h : n = m => hm (h ▸ hn))] }

theorem State.mapCand_frame (s : State) (hi : C i) {f : Cand → Cand} (hf : ∀ c, (f c).number = c.number
    ∧ (f c).sitting = c.sitting ∧ (f c).seat = c.seat ∧ ((f c).state.young = true → c.state.young = true)) : Frame π S C s (s.mapCand i f) :=
  { Frame.refl s with
    cands := fun j hj => by rw [State.mapCand_cand?, if_neg (fun h : i = j => hj (h ▸ hi))]
    names := fun j => by
      rw [State.mapCand_cand?]
      split
      · rw [Option.map_map]
        exact congrArg (fun g => (s.cand? j).map g) (funext fun c => Prod.ext (hf c).1 (hf c).2.1)
      · rfl
    unseated := fun j c d hc hd => .inl (by
      rw [State.mapCand_cand?, hc] at hd
      split at hd
      · cases hd; exact (hf c).2.2.1
      · cases hd; rfl)
    young := fun j d hd hyoung => by
      rw [State.mapCand_cand?] at hd
      split at hd
      · obtain ⟨c, hc, rfl⟩ := Option.map_eq_some_iff.mp hd
        exact ⟨c, hc, (hf c).2.2.2 hyoung⟩
      · exact ⟨d, hd, hyoung⟩
    left := fun m x y hx hy => .inl (by rw [Option.some.inj (hx.symm.trans hy)]) }

theorem State.releaseCand_frame (s : State) (hi : C i) : Frame π S C s (s.releaseCand i) := by
  cases hc : s.cand? i with
  | none =>
    have hsame : s.releaseCand i = s := by simp only [State.releaseCand, hc, Option.bind_none]
    rw [hsame]
    exact .refl s
  | some c =>
    cases hseat : c.seat with
    | none =>
      rw [State.releaseCand_of_none hc hseat]
      exact .refl s
    | some n =>
      rw [State.releaseCand_of_seat hc hseat]
      have hcands : ∀ j, ((s.mapSeat n Seat.release).mapCand i (fun d => { d with seat := none })).cand? j =
          if i = j then (s.cand? j).map (fun d => { d with seat := none }) else s.cand? j := fun j =>
        State.mapCand_cand? ..
      have hseats : ∀ m, ((s.mapSeat n Seat.release).mapCand i (fun d => { d with seat := none })).seat? m =
          if n = m then (s.seat? m).map Seat.release else s.seat? m := fun m =>
        State.mapSeat_seat? s n m Seat.release (fun _ => rfl)
      exact
        { Frame.refl s with
          cands := fun j hj => by rw [hcands, if_neg (fun h : i = j => hj (h ▸ hi))]
          names := fun j => by
            rw [hcands]
            split
            · rw [Option.map_map]; rfl
            · rfl
          unseated := fun j d e hd he => by
            rw [hcands, hd] at he
            split at he
            · cases he; exact .inr rfl
            · cases he; exact .inl rfl
          young := fun j d hd hyoung => by
            rw [hcands] at hd
            split at hd
            · obtain ⟨e, he, rfl⟩ := Option.map_eq_some_iff.mp hd
              exact ⟨e, he, hyoung⟩
            · exact ⟨d, hd, hyoung⟩
          numbers := by
            simp only [State.mapCand_hall_seats, State.mapSeat, List.map_map]
            congr 1
            funext x
            simp only [Function.comp_apply]
            split <;> rfl
          units := fun m => by
            rw [hseats]
            split
            · rw [Option.map_map]; rfl
            · rfl
          left := fun m x y hx hy => by
            rw [hseats, hx] at hy
            split at hy
            next hm =>
              cases hy
              refine .inr ⟨rfl, i, c, { c with seat := none }, hc, hm ▸ hseat, ?_, rfl⟩
              rw [hcands, if_pos rfl, hc, Option.map_some]
            next => cases hy; exact .inl rfl }

theorem State.joinSecond_frame (s : State) (hi : C i) (n : Nat) : Frame π S C s (s.joinSecond i n) := by
  unfold State.joinSecond
  split
  · exact
      { Frame.refl s with
        ahead_old := fun _ hk => List.mem_append_left _ hk
        ahead_new := fun _ hk => (List.mem_append.mp hk).imp id fun h => .inr ⟨i, hi, List.mem_singleton.mp h⟩ }
  · exact .refl s

theorem State.markRestEnded_frame (s : State) (hi : C i) : Frame π S C s (s.markRestEnded i) :=
  { Frame.refl s with
    ended_old := fun _ hj => List.mem_append_left _ hj
    ended_new := fun j hj => (List.mem_append.mp hj).imp id fun h => by
      obtain rfl : j = i := List.mem_singleton.mp h
      exact hi }

theorem State.markAhead_sitting_frame (s : State) (hn : S n) : Frame π S C s (s.markAhead (.sitting n)) :=
  { Frame.refl s with
    ahead_old := fun _ hk => List.mem_append_left _ hk
    ahead_new := fun _ hk => (List.mem_append.mp hk).imp id fun h => .inl ⟨n, hn, List.mem_singleton.mp h⟩ }

theorem State.markAhead_cand_frame (s : State) (hi : C i) : Frame π S C s (s.markAhead (.cand i)) :=
  { Frame.refl s with
    ahead_old := fun _ hk => List.mem_append_left _ hk
    ahead_new := fun _ hk => (List.mem_append.mp hk).imp id fun h => .inr ⟨i, hi, List.mem_singleton.mp h⟩ }

end Rules

end Sys2Proof.Machine
end

section
/-! SUPPORT. The frames of what a hall second does to a candidate and to a sitting (R65 to R73, R77). -/

namespace Sys2Proof.Machine

section Views

/-- A sitting without what the candidates' moves change: its phase, its admission and its counts (R19, R78). -/
def Sitting.plain (x : Sitting) : Sitting := { x with state := .defined, admission := false, counts := {} }

/-- A sitting without what the elapsed cues of a second change (R67, R68). -/
def Sitting.timed (x : Sitting) : Sitting := { x.plain with exitOpen := false, elapsedPtr := 0 }

theorem Sitting.timed_of_plain {x y : Sitting} (h : y.plain = x.plain) : y.timed = x.timed :=
  congrArg (fun z : Sitting => { z with exitOpen := false, elapsedPtr := 0 }) h

end Views

/-! ## A candidate's part of the second -/

section Cand
variable {S C : Nat → Prop} {s t : State} {i n : Nat}

/-- A candidate's record names a sitting the part may touch. -/
def State.Within (s : State) (S : Nat → Prop) (i : Nat) : Prop := ∀ c, s.cand? i = some c → S c.sitting

theorem Frame.within {α : Type} {π : Sitting → α} {T : Nat → Prop} (h : Frame π S C s t) (hS : s.Within T i) : t.Within T i := fun d hd => by
  obtain ⟨c, hc, -, hsitting⟩ := h.cand_before hd
  exact hsitting ▸ hS c hc

theorem State.setCandState_frame {α : Type} {π : Sitting → α} (s : State) (hi : C i) (hS : s.Within S i) {st : CandState}
    (hst : st.young = false) (hπ : ∀ x k, π { x with counts := k } = π x) : Frame π S C s (s.setCandState i st) := by
  cases hc : s.cand? i with
  | none =>
    have hsame : s.setCandState i st = s := by simp only [State.setCandState, hc]
    rw [hsame]
    exact .refl s
  | some c =>
    rw [State.setCandState_of_cand hc]
    have hcand := s.mapCand_frame (π := π) (S := S) hi (f := fun c => { c with state := st })
      (fun _ => ⟨rfl, rfl, rfl, fun h => absurd (hst.symm.trans h) Bool.false_ne_true⟩)
    exact hcand.trans (State.mapSitting_frame _ (hS c hc) (fun x => ⟨rfl, rfl, hπ x _⟩))

theorem State.closedTest_frame (s : State) (hn : S n) : Frame Sitting.plain S C s (s.closedTest n) := by
  unfold State.closedTest
  split
  · exact .refl s
  · split
    · have hclosed := s.mapSitting_frame (π := Sitting.plain) (C := C) hn (f := fun y => { y with state := .closed })
        (fun _ => ⟨rfl, rfl, rfl⟩)
      exact hclosed.trans (State.offer_frame ..)
    · exact .refl s

theorem State.sittingTests_frame (s : State) (hn : S n) : Frame Sitting.plain S C s (s.sittingTests n) := by
  unfold State.sittingTests
  split
  · exact .refl s
  · split
    · have hcollecting := s.mapSitting_frame (π := Sitting.plain) (C := C) hn
        (f := fun y => { y with state := .collecting, admission := false }) (fun _ => ⟨rfl, rfl, rfl⟩)
      exact hcollecting.trans (State.closedTest_frame _ hn)
    · exact s.closedTest_frame hn

theorem State.offerCustodyClose_frame {α : Type} {π : Sitting → α} (s : State) (i : Nat) (amended : Bool) :
    Frame π S C s (s.offerCustodyClose i amended) := by
  unfold State.offerCustodyClose
  split
  · exact .refl s
  · exact State.offer_frame ..

theorem State.collectionTest_frame (s : State) (hi : C i) (hS : s.Within S i) :
    Frame Sitting.plain S C s (s.collectionTest i) := by
  unfold State.collectionTest
  split
  · split
    · exact .refl s
    next c hc =>
      have hset := s.setCandState_frame (π := Sitting.plain) (C := C) hi hS (st := .collected) rfl (fun _ _ => rfl)
      have hmarked := hset.trans (State.mapCand_frame _ hi
        (f := fun c => { c with nilScript := c.nilScript || (s.entriesOf i).all (fun e => decide (e.state = .void)) })
        (fun _ => ⟨rfl, rfl, rfl, id⟩))
      have hreleased := hmarked.trans (State.releaseCand_frame _ hi)
      exact (hreleased.trans (State.offerCustodyClose_frame _ i false)).trans (State.sittingTests_frame _ (hS c hc))
  · exact .refl s

theorem State.notifyCollect_frame {α : Type} {π : Sitting → α} (s : State) (i : Nat) : Frame π S C s (s.notifyCollect i) := by
  unfold State.notifyCollect
  split
  · exact .refl s
  · split
    · exact .refl s
    · exact State.notifyWhere_frame ..

theorem State.finishCand_frame (s : State) (hi : C i) (hS : s.Within S i) (cause : FinishCause) :
    Frame Sitting.plain S C s (s.finishCand i cause) := by
  unfold State.finishCand
  split
  · exact .refl s
  next c hc =>
    have hset := s.setCandState_frame (π := Sitting.plain) (C := C) hi hS (st := .finished) rfl (fun _ _ => rfl)
    have hmarked := hset.trans (State.mapCand_frame _ hi
      (f := fun d => { d with cause := some cause, cuePtr := max d.cuePtr (s.remainingCount c) }) (fun _ => ⟨rfl, rfl, rfl, id⟩))
    have htold := (hmarked.trans (State.showCand_frame _ i none)).trans (State.notifyCollect_frame _ i)
    exact (htold.trans (State.collectionTest_frame _ hi (htold.within hS))).trans (State.sittingTests_frame _ (hS c hc))

theorem State.leaveRest_frame (s : State) (hi : C i) (hS : s.Within S i) (hn : S n) (code : Option DispCode) :
    Frame Sitting.plain S C s (s.leaveRest i n code) := by
  have hset := s.setCandState_frame (π := Sitting.plain) (C := C) hi hS (st := .writing) rfl (fun _ _ => rfl)
  exact ((hset.trans (State.showCand_frame _ i code)).trans (State.markRestEnded_frame _ hi)).trans
    (State.sittingTests_frame _ hn)

theorem State.fireRemaining_frame (s : State) (hi : C i) (q : Cue) : Frame Sitting.plain S C s (State.fireRemaining i s q) := by
  have hpassed := s.mapCand_frame (π := Sitting.plain) (S := S) hi (f := fun c => { c with cuePtr := c.cuePtr + 1 })
    (fun _ => ⟨rfl, rfl, rfl, id⟩)
  unfold State.fireRemaining
  cases q.kind with
  | warn => exact hpassed.trans (State.showCand_frame ..)
  | note => exact hpassed.trans (State.showCand_frame ..)
  | exitClose =>
    exact (hpassed.trans (State.mapCand_frame _ hi (f := fun c => { c with exitClosed := true })
      (fun _ => ⟨rfl, rfl, rfl, id⟩))).trans (State.showCand_frame ..)
  | lastEntry => exact hpassed
  | exitOpen => exact hpassed

theorem State.consume_frame (s : State) (hi : C i) (hS : s.Within S i) (c : Cand) :
    Frame Sitting.plain S C s (s.consume i c) := by
  have hcounted := s.mapCand_frame (π := Sitting.plain) (S := S) hi (f := fun d => { d with consumed := c.consumed + 1 })
    (fun _ => ⟨rfl, rfl, rfl, id⟩)
  by_cases hlast : c.consumed + 1 = c.entitled
  · rw [State.consume_of_expired hlast, ← hlast]
    exact hcounted.trans (State.finishCand_frame _ hi (hcounted.within hS) .time)
  · rw [State.consume_of_left hlast]
    have hfired := hcounted.trans (Frame.foldl (s.cuesDue c (c.entitled - (c.consumed + 1)))
      _ (f := State.fireRemaining i) fun u q _ _ => u.fireRemaining_frame hi q)
    dsimp only
    split
    · exact hfired.trans (State.showCand_frame ..)
    · exact hfired

theorem State.restSecond_frame (s : State) (hi : C i) (hS : s.Within S i) {c : Cand} (hn : S c.sitting) :
    Frame Sitting.plain S C s (s.restSecond i c) := by
  have hcounted := s.mapCand_frame (π := Sitting.plain) (S := S) hi (f := fun d => { d with restUsed := c.restUsed + 1 })
    (fun _ => ⟨rfl, rfl, rfl, id⟩)
  by_cases hlast : c.restUsed + 1 = c.restBudget
  · rw [State.restSecond_of_used hlast, ← hlast]
    exact hcounted.trans (State.leaveRest_frame _ hi (hcounted.within hS) hn _)
  · rw [State.restSecond_of_left hlast]
    exact hcounted

theorem State.tickCand_frame (s : State) (hi : C i) (hS : s.Within S i) : Frame Sitting.plain S C s (s.tickCand i) := by
  unfold State.tickCand
  split
  · exact .refl s
  next c hc =>
    split
    · split
      · exact .refl s
      · exact s.consume_frame hi hS c
    · exact s.restSecond_frame hi hS (hS c hc)
    · exact .refl s

theorem State.second_cand_frame (s : State) (hi : C i) (hS : s.Within S i) : Frame Sitting.plain S C s (s.second (.cand i)) := by
  unfold State.second
  split
  · exact .refl s
  · have hmarked := s.markAhead_cand_frame (π := Sitting.plain) (S := S) hi
    exact hmarked.trans (State.tickCand_frame _ hi (hmarked.within hS))

end Cand

/-! ## A sitting's part of the second -/

section Sitting
variable {S C : Nat → Prop} {s t : State} {i n : Nat}

/-- The part may touch every candidate of a sitting that has not begun. -/
def State.Covers (s : State) (C : Nat → Prop) (n : Nat) : Prop :=
  ∀ i c, s.cand? i = some c → c.sitting = n → c.state.young = true → C i

theorem Frame.covers {α : Type} {π : Sitting → α} {D : Nat → Prop} (h : Frame π S C s t) (hC : s.Covers D n) : t.Covers D n :=
  fun i d hd hn hyoung => by
    obtain ⟨c, hc, -, hsitting⟩ := h.cand_before hd
    obtain ⟨c', hc', hyoung⟩ := h.young i d hd hyoung
    obtain rfl := Option.some.inj (hc.symm.trans hc')
    exact hC i c hc (hsitting.trans hn) hyoung

theorem State.makeAbsent_frame {α : Type} {π : Sitting → α} (s : State) (hi : C i) (hS : s.Within S i)
    (hπ : ∀ x k, π { x with counts := k } = π x) : Frame π S C s (s.makeAbsent i) :=
  (s.setCandState_frame hi hS rfl hπ).trans (State.releaseCand_frame _ hi)

/-- A candidate picked from a sitting before it has begun is one the part may touch, and its sitting is. -/
theorem State.Covers.of_candsIn {st : CandState} (hst : st.young = true) (hC : s.Covers C n) (hn : S n)
    (hi : i ∈ s.candsIn n st) : C i ∧ s.Within S i := by
  obtain ⟨c, hc, hsitting, hstate⟩ := (State.mem_candsIn s n st i).mp hi
  refine ⟨hC i c hc hsitting (hstate ▸ hst), fun d hd => ?_⟩
  obtain rfl := Option.some.inj (hc.symm.trans hd)
  exact hsitting ▸ hn

theorem State.closeDoors_frame {α : Type} {π : Sitting → α} (s : State) (hn : S n) (hC : s.Covers C n)
    (hπ : ∀ x k, π { x with counts := k } = π x) (hclosed : ∀ x : Sitting, π { x with admission := false } = π x) :
    Frame π S C s (s.closeDoors n) := by
  have hdoors := s.mapSitting_frame (C := C) hn (f := fun x => { x with admission := false }) (fun x => ⟨rfl, rfl, hclosed x⟩)
  have hcovers := hdoors.covers hC
  refine hdoors.trans (Frame.foldl _ _ fun u i hi hu => ?_)
  obtain ⟨hci, hS⟩ := hcovers.of_candsIn rfl hn hi
  exact u.makeAbsent_frame hci (hu.within hS) hπ

theorem State.closeAdmission_frame (s : State) (hn : S n) (hC : s.Covers C n) :
    Frame Sitting.plain S C s (s.closeAdmission n) :=
  (s.closeDoors_frame hn hC (fun _ _ => rfl) (fun _ => rfl)).trans (State.sittingTests_frame _ hn)

theorem State.writeGroupCode_frame {α : Type} {π : Sitting → α} (s : State) (n : Nat) (k : DispCode) :
    Frame π S C s (s.writeGroupCode n k) := by
  refine Frame.foldl _ s fun u x _ _ => ?_
  unfold State.showSeatCode
  split
  · exact .refl u
  · exact u.showAt_frame ..

/-- The effect of an elapsed cue, by its kind, with what its LAST_ENTRY does at the doors. -/
theorem State.elapsedEffect_frame {α : Type} {π : Sitting → α} {close : State → Nat → State} (s : State) (hn : S n) {q : Cue}
    (hclose : q.kind = .lastEntry → Frame π S C s (close s n)) (hexit : ∀ x : Sitting, π { x with exitOpen := true } = π x) :
    Frame π S C s (State.elapsedEffect close s n q) := by
  have htold : ∀ u k, Frame π S C s u → Frame π S C s (u.notifyDesks k) := fun u k h => h.trans (u.notifyWhere_frame _ k)
  refine htold _ _ ?_
  cases hk : q.kind with
  | lastEntry => exact hclose hk
  | exitOpen => exact s.mapSitting_frame hn (fun x => ⟨rfl, rfl, hexit x⟩)
  | note => exact (s.writeGroupCode_frame ..).trans (State.queueFrame_frame ..)
  | exitClose => exact .refl s
  | warn => exact .refl s

theorem Frame.timed_of_plain (h : Frame Sitting.plain S C s t) : Frame Sitting.timed S C s t :=
  h.weaken fun _ _ => Sitting.timed_of_plain

theorem State.passElapsed_frame (s : State) (hn : S n) : Frame Sitting.timed S C s (s.passElapsed n) :=
  s.mapSitting_frame hn (fun _ => ⟨rfl, rfl, rfl⟩)

theorem State.fireElapsed_frame (s : State) (hn : S n) (hC : s.Covers C n) (q : Cue) :
    Frame Sitting.timed S C s (State.fireElapsed n s q) := by
  unfold State.fireElapsed
  split
  · split
    · have hpassed := s.passElapsed_frame (C := C) hn
      exact hpassed.trans (State.elapsedEffect_frame _ hn
        (fun _ => (State.closeAdmission_frame _ hn (hpassed.covers hC)).timed_of_plain) (fun _ => rfl))
    · exact .refl s
  · exact .refl s

theorem State.fireAtStart_frame (s : State) (hn : S n) (hC : s.Covers C n) (q : Cue) :
    Frame Sitting.timed S C s (State.fireAtStart n s q) := by
  have hpassed := s.passElapsed_frame (C := C) hn
  exact hpassed.trans (State.elapsedEffect_frame _ hn
    (fun _ => State.closeDoors_frame _ hn (hpassed.covers hC) (fun _ _ => rfl) (fun _ => rfl)) (fun _ => rfl))

theorem State.fireDueElapsed_frame {fire : Nat → State → Cue → State} (s : State)
    (hfire : ∀ u q, Frame Sitting.timed S C s u → Frame Sitting.timed S C u (fire n u q)) :
    Frame Sitting.timed S C s (State.fireDueElapsed fire s n) := by
  unfold State.fireDueElapsed
  split
  · exact Frame.foldl _ s fun u q _ hu => hfire u q hu
  · exact .refl s

theorem State.beginWriting_frame {α : Type} {π : Sitting → α} (s : State) (hi : C i) (hS : s.Within S i) (n : Nat)
    (hπ : ∀ x k, π { x with counts := k } = π x) : Frame π S C s (State.beginWriting n s i) := by
  have hset := (s.setCandState_frame (C := C) hi hS (st := .writing) rfl hπ).trans
    (State.mapCand_frame _ hi (f := fun c => { c with consumed := 0 }) (fun _ => ⟨rfl, rfl, rfl, id⟩))
  exact (hset.trans (State.joinSecond_frame _ hi n)).trans (State.showCand_frame ..)

/-- The start of writing once the sitting is in WRITING (R66). -/
def State.startedWriting (s : State) (n : Nat) : State :=
  (State.fireDueElapsed State.fireAtStart (((s.candsIn n .admitted).foldl (State.beginWriting n) s).mapSitting n
    (fun x => { x with exitOpen := x.exitOpen || !x.hasCue .exitOpen })) n).sittingTests n

theorem State.startOfWriting_eq (s : State) (n : Nat) :
    s.startOfWriting n = (s.mapSitting n (fun x => { x with state := .writing, sel := 0 })).startedWriting n := rfl

theorem State.startedWriting_frame (s : State) (hn : S n) (hC : s.Covers C n) :
    Frame Sitting.timed S C s (s.startedWriting n) := by
  have hbegun : Frame Sitting.plain S C s ((s.candsIn n .admitted).foldl (State.beginWriting n) s) :=
    Frame.foldl _ s fun u i hi hu => by
      obtain ⟨hci, hS⟩ := hC.of_candsIn rfl hn hi
      exact u.beginWriting_frame hci (hu.within hS) n (fun _ _ => rfl)
  have hopen := hbegun.timed_of_plain.trans (State.mapSitting_frame _ hn
    (f := fun x => { x with exitOpen := x.exitOpen || !x.hasCue .exitOpen }) (fun _ => ⟨rfl, rfl, rfl⟩))
  have hfired := hopen.trans (State.fireDueElapsed_frame (fire := State.fireAtStart) _
    fun u q hu => u.fireAtStart_frame hn ((hopen.trans hu).covers hC) q)
  exact hfired.trans (State.sittingTests_frame _ hn).timed_of_plain

theorem State.defaultClose_frame (s : State) (hn : S n) (hC : s.Covers C n) :
    Frame Sitting.timed S C s (s.defaultClose n) := by
  unfold State.defaultClose
  split
  · split
    · exact (s.closeAdmission_frame hn hC).timed_of_plain
    · exact .refl s
  · exact .refl s

end Sitting

end Sys2Proof.Machine
end

section
/-! SUPPORT. The elapsed cues of a second and the close of admission (R66 to R68). -/

namespace Sys2Proof.Machine

/-! ## Candidates gone through one by one -/

section Walk
variable {s : State} {i n : Nat} {c : Cand} {x : Sitting}

/-- A walk over distinct candidates, each step on one record, does its step to each record once. -/
theorem State.foldl_cand? {f : State → Nat → State} {g : Cand → Cand}
    (hself : ∀ u i c, u.cand? i = some c → (f u i).cand? i = some (g c))
    (hother : ∀ u i j, j ≠ i → (f u i).cand? j = u.cand? j) (l : List Nat) :
    ∀ s, l.Nodup → ∀ j c, s.cand? j = some c → (l.foldl f s).cand? j = some (if j ∈ l then g c else c) := by
  induction l with
  | nil => exact fun s _ j c hc => hc
  | cons i l ih =>
    intro s hnodup j c hc
    obtain ⟨hi, hnodup⟩ := List.nodup_cons.mp hnodup
    by_cases hj : j = i
    · have hstep := ih (f s i) hnodup j (g c) (hj ▸ hself s j c hc)
      rw [if_neg (hj ▸ hi)] at hstep
      rw [if_pos (hj ▸ List.mem_cons_self ..)]
      exact hstep
    · have hstep := ih (f s i) hnodup j c ((hother s i j hj).trans hc)
      simp only [List.mem_cons, hj, false_or]
      exact hstep

theorem State.makeAbsent_cand? (hc : s.cand? i = some c) :
    (s.makeAbsent i).cand? i = some { c with state := .absent, seat := none } := by
  have hset : (s.setCandState i .absent).cand? i = some { c with state := .absent } := by
    rw [State.setCandState_eq hc]
    exact State.moveCandTo_cand? hc _
  exact State.releaseCand_cand? hset

theorem State.makeAbsent_cand?_ne (s : State) (i j : Nat) (hj : j ≠ i) : (s.makeAbsent i).cand? j = s.cand? j :=
  (s.makeAbsent_frame (π := Sitting.plain) (S := fun _ => True) (C := fun k => k = i) rfl (fun _ _ => trivial)
    (fun _ _ => rfl)).cands j hj

/-- The doors closed make every EXPECTED candidate of the sitting ABSENT (R68). -/
theorem State.closeDoors_cand? (hc : s.cand? i = some c) (n : Nat) : (s.closeDoors n).cand? i = some
    (if c.sitting = n ∧ c.state = .expected then { c with state := .absent, seat := none } else c) := by
  have hclosed : (s.mapSitting n (fun x => { x with admission := false })).cand? i = some c := hc
  have hwalk := State.foldl_cand? (g := fun c => { c with state := .absent, seat := none })
    (fun u i c hc => State.makeAbsent_cand? hc) (fun u i j hj => State.makeAbsent_cand?_ne u i j hj) _ _
    (State.candsIn_nodup (s.mapSitting n (fun x => { x with admission := false })) n .expected) i c hclosed
  have hmem : i ∈ (s.mapSitting n (fun x => { x with admission := false })).candsIn n .expected ↔
      c.sitting = n ∧ c.state = .expected := by
    rw [State.mem_candsIn, hclosed]
    simp
  simp only [hmem] at hwalk
  exact hwalk

theorem State.closeDoors_sitting? (hx : s.sitting? n = some x) :
    ∃ y, (s.closeDoors n).sitting? n = some y ∧ y.admission = false := by
  have hclosed : (s.mapSitting n (fun x => { x with admission := false })).sitting? n =
      some { x with admission := false } := by
    rw [State.mapSitting_sitting? s n n (fun x => { x with admission := false }) (fun _ => rfl), if_pos rfl, hx, Option.map_some]
  exact (Frame.foldl _ _ fun u i _ _ => u.makeAbsent_frame (S := fun _ => True) (C := fun _ => True)
    (π := Sitting.admission) trivial (fun _ _ => trivial) (fun _ _ => rfl)).sitting hclosed

theorem State.closedTest_admission (hx : s.sitting? n = some x) :
    ∃ y, (s.closedTest n).sitting? n = some y ∧ y.admission = x.admission := by
  by_cases h : x.state = .collecting ∧ x.counts.finished = 0
  · rw [State.closedTest_of_ends hx h.1 h.2, State.sitting?, State.offer_hall]
    have hclosed := State.mapSitting_sitting? s n n (fun y => { y with state := .closed }) (fun _ => rfl)
    rw [if_pos rfl, hx] at hclosed
    exact ⟨_, hclosed, rfl⟩
  · rw [State.closedTest_of_stays hx h]
    exact ⟨x, hx, rfl⟩

/-- The sitting tests leave a closed admission closed. -/
theorem State.sittingTests_admission (hx : s.sitting? n = some x) (h : x.admission = false) :
    ∃ y, (s.sittingTests n).sitting? n = some y ∧ y.admission = false := by
  by_cases hends : x.state = .writing ∧ x.counts.nobodyLeft = true
  · rw [State.sittingTests_of_collecting hx hends.1 hends.2]
    exact State.closedTest_admission (State.collecting_sitting? hx)
  · rw [State.sittingTests_of_not_collecting hx hends]
    obtain ⟨y, hy, heq⟩ := State.closedTest_admission hx
    exact ⟨y, hy, heq.trans h⟩

theorem State.closeAdmission_cand? (hc : s.cand? i = some c) (n : Nat) : (s.closeAdmission n).cand? i = some
    (if c.sitting = n ∧ c.state = .expected then { c with state := .absent, seat := none } else c) := by
  rw [State.closeAdmission, State.sittingTests_cand?]
  exact State.closeDoors_cand? hc n

end Walk

/-! ## An elapsed cue that fires (R68) -/

section Fires
variable {s : State} {n : Nat} {x : Sitting} {q : Cue}

theorem State.length_candsIn (s : State) (n : Nat) (st : CandState) : (s.candsIn n st).length = s.inState n st := by
  rw [State.candsIn, State.indexesWhere, List.length_map, State.inState, ← List.countP_eq_length_filter]
  conv_rhs => rw [← List.zipIdx_map_fst 0 s.hall.cands, List.countP_map]
  rfl

/-- An elapsed cue fires and the pointer passes it, with its notices stamped with a hall time. -/
def State.fireAs (close : State → Nat → State) (time n : Nat) (u : State) (q : Cue) : State :=
  let v := u.passElapsed n
  let told := fun (w : State) (absent : Nat) => w.notifyDesks (.cueFired n q.kind q.value q.code absent time)
  match q.kind with
  | .exitOpen => told (v.mapSitting n (fun y => { y with exitOpen := true })) 0
  | .lastEntry => told (close v n) (u.inState n .expected)
  | .note => told ((v.writeGroupCode n (.announce q.code)).queueFrame ⟨512 + n, .announce q.code .show⟩) 0
  | .exitClose | .warn => told v 0

/-- A NOTE's code written at every seat of the sitting, whatever the walk is written as (R68). -/
theorem State.foldl_eq_writeGroupCode {k : DispCode} {f : State → Seat → State}
    (hsome : ∀ w y i, y.occupant = some i → f w y = w.showAt y.seat i (some k)) (hnone : ∀ w y, y.occupant = none → f w y = w)
    (s : State) (n : Nat) : (s.hall.seats.filter (fun y => s.occupiedBy y n)).foldl f s = s.writeGroupCode n k := by
  have hf : f = State.showSeatCode k := by
    funext w y
    cases hocc : y.occupant with
    | none => rw [hnone w y hocc, State.showSeatCode, hocc]
    | some i => rw [hsome w y i hocc, State.showSeatCode, hocc]
  rw [hf]
  rfl

theorem State.elapsedEffect_eq (close : State → Nat → State) (n : Nat) (u : State) (q : Cue) :
    State.elapsedEffect close (u.passElapsed n) n q = State.fireAs close u.hall.time n u q := by
  have habsent : ((u.passElapsed n).candsIn n .expected).length = u.inState n .expected := State.length_candsIn ..
  obtain ⟨kind, value, code⟩ := q
  cases kind with
  | lastEntry =>
    simp only [State.elapsedEffect, habsent]
    rfl
  | exitOpen => rfl
  | exitClose => rfl
  | warn => rfl
  | note => rfl

theorem State.notifyDesks_eq (s : State) (k : Notice) : s.notifyDesks k =
    (((s.notify (.desk .d0) k).notify (.desk .d1) k).notify (.desk .d2) k).notify (.desk .d3) k := rfl

/-- An elapsed cue of a second fires while the sitting is in WRITING. -/
def State.fireWriting (time n : Nat) (u : State) (q : Cue) : State :=
  if (u.sitting? n).any (fun y => decide (y.state = .writing)) then State.fireAs State.closeAdmission time n u q else u

theorem State.fireElapsed_eq (n : Nat) (u : State) (q : Cue) : State.fireElapsed n u q = State.fireWriting u.hall.time n u q := by
  unfold State.fireElapsed State.fireWriting
  cases hy : u.sitting? n with
  | none => rfl
  | some y =>
    simp only [Option.any_some, decide_eq_true_eq, State.elapsedEffect_eq]

/-- The elapsed cues of a second fire at one hall time. -/
theorem State.foldl_fireElapsed (s : State) (n : Nat) (l : List Cue) :
    l.foldl (State.fireElapsed n) s = l.foldl (State.fireWriting s.hall.time n) s := by
  have hfold := List.foldl_rel (l := l) (f := State.fireElapsed n) (g := State.fireWriting s.hall.time n)
    (r := fun u v : State => u = v ∧ u.hall.time = s.hall.time) ⟨rfl, rfl⟩ (fun q _ u v ⟨heq, htime⟩ => by
      have hframe := u.fireElapsed_frame (S := fun _ => True) (C := fun _ => True) trivial (fun _ _ _ _ _ => trivial) (n := n) q
      refine ⟨?_, hframe.time.trans htime⟩
      rw [State.fireElapsed_eq, htime, heq])
  exact hfold.1

theorem State.passElapsed_admission_frame {S C : Nat → Prop} (s : State) (hn : S n) :
    Frame Sitting.admission S C s (s.passElapsed n) :=
  s.mapSitting_frame hn (fun _ => ⟨rfl, rfl, rfl⟩)

/-- A cue that is no LAST_ENTRY leaves admission as it is. -/
theorem State.fireElapsed_admission {S C : Nat → Prop} (s : State) (hn : S n) (hq : q.kind ≠ .lastEntry) :
    Frame Sitting.admission S C s (State.fireElapsed n s q) := by
  unfold State.fireElapsed
  split
  · split
    · exact (s.passElapsed_admission_frame hn).trans
        (State.elapsedEffect_frame _ hn (fun h => absurd h hq) (fun _ => rfl))
    · exact .refl s
  · exact .refl s

theorem Sitting.cues_of_timed {x y : Sitting} (h : y.timed = x.timed) :
    y.elapsedCues = x.elapsedCues ∧ y.remainingCues = x.remainingCues :=
  ⟨(congrArg Sitting.elapsedCues h :), (congrArg Sitting.remainingCues h :)⟩

theorem Sitting.hasCue_congr {x y : Sitting} (h : y.timed = x.timed) (k : CueKind) : y.hasCue k = x.hasCue k := by
  obtain ⟨helapsed, hremaining⟩ := Sitting.cues_of_timed h
  rw [Sitting.hasCue, Sitting.hasCue, helapsed, hremaining]

/-- The elapsed cues due in the next second. -/
def Sitting.dueNext (x : Sitting) : List Cue := (x.elapsedCues.drop x.elapsedPtr).takeWhile (fun q => decide (q.value ≤ x.sel + 1))

theorem Sitting.mem_of_dueNext (h : q ∈ x.dueNext) : q ∈ x.elapsedCues :=
  List.mem_of_mem_drop (List.takeWhile_subset _ h)

/-- The default close of admission comes in the next second (R67). -/
def Sitting.closesNext (x : Sitting) : Prop :=
  (∀ q ∈ x.elapsedCues ++ x.remainingCues, q.kind ≠ .lastEntry) ∧ x.admission = true ∧ x.sel + 1 = x.base

/-- The second of a sitting in WRITING (R67): its elapsed cues, and then the default close of admission. -/
theorem State.writingSecond_eq (hx : s.sitting? n = some x) (hsel : x.sel < 57600) {u : State}
    (hu : u = x.dueNext.foldl (State.fireWriting s.hall.time n) (s.mapSitting n (fun y => { y with sel := y.sel + 1 }))) :
    (x.closesNext → s.writingSecond x = u.closeAdmission n) ∧ (¬ x.closesNext → s.writingSecond x = u) := by
  have hbase : (s.mapSitting n (fun y => { y with sel := y.sel + 1 })).sitting? n = some { x with sel := x.sel + 1 } := by
    rw [State.mapSitting_sitting? s n n (fun y => { y with sel := y.sel + 1 }) (fun _ => rfl), if_pos rfl, hx, Option.map_some]
  have hfold := (State.foldl_fireElapsed (s.mapSitting n (fun y => { y with sel := y.sel + 1 })) n x.dueNext).trans hu.symm
  have hsecond : s.writingSecond x = u.defaultClose n := by
    have hmax : x.sel < Config.maxElapsed := hsel
    rw [State.writingSecond, if_pos hmax, State.number_of_sitting? hx, State.fireDueElapsed, hbase]
    exact congrArg (fun t => State.defaultClose t n) hfold
  have hframe : Frame Sitting.timed (fun _ => True) (fun _ => True) (s.mapSitting n (fun y => { y with sel := y.sel + 1 })) u :=
    hfold ▸ Frame.foldl _ _ fun v q _ _ => v.fireElapsed_frame trivial (fun _ _ _ _ _ => trivial) q
  obtain ⟨z, hz, htimed⟩ := hframe.sitting hbase
  have hzsel : z.sel = x.sel + 1 := (congrArg Sitting.sel htimed :)
  have hzbase : z.base = x.base := (congrArg Sitting.base htimed :)
  have hcue : z.hasCue .lastEntry = x.hasCue .lastEntry := Sitting.hasCue_congr (x := { x with sel := x.sel + 1 }) htimed _
  have hadmission : x.hasCue .lastEntry = false → z.admission = x.admission := fun hno => by
    have hkinds := Sitting.hasCue_eq_false.mp hno
    have hkept : Frame Sitting.admission (fun _ => True) (fun _ => True)
        (s.mapSitting n (fun y => { y with sel := y.sel + 1 })) u :=
      hfold ▸ Frame.foldl _ _ fun v q hq _ => v.fireElapsed_admission trivial
        (hkinds q (List.mem_append_left _ (Sitting.mem_of_dueNext hq)))
    obtain ⟨z', hz', heq⟩ := hkept.sitting hbase
    obtain rfl := Option.some.inj (hz.symm.trans hz')
    exact heq
  have hcloses : (¬ z.hasCue .lastEntry = true ∧ z.admission = true ∧ z.sel = z.base) ↔ x.closesNext := by
    rw [hcue, hzsel, hzbase, Bool.not_eq_true, Sitting.closesNext, ← Sitting.hasCue_eq_false]
    exact and_congr_right fun hno => by rw [hadmission hno]
  rw [hsecond, State.defaultClose, hz]
  exact ⟨fun h => if_pos (hcloses.mpr h), fun h => if_neg (mt hcloses.mp h)⟩

theorem State.writingDue_of_writing (hx : s.sitting? n = some x) (hstate : x.state = .writing) (hheld : s.held n = false)
    (hsel : x.sel < 57600) (q : Sitting → Bool) : s.writingDue n q = q x := by
  have hmax : x.sel < Config.maxElapsed := hsel
  simp only [State.writingDue, hx, hstate, hheld, decide_true, Bool.not_false, decide_eq_true hmax, Bool.true_and]

end Fires

/-- Settles O29: the elapsed cues of a second, and the close of admission. -/
theorem elapsedCuesFire : Obligations.ElapsedCuesFire := by
  unfold Obligations.ElapsedCuesFire
  refine ⟨fun s n x hx hstate hheld hsel hahead => ?_, fun s n x hx => ⟨fun i c hc => State.closeAdmission_cand? hc n, ?_⟩⟩
  · intro told fire due u closes
    have hfire : (fun (u : State) (q : Cue) =>
        if (u.sitting? n).any (fun y => decide (y.state = .writing)) then fire u q else u) = State.fireWriting s.hall.time n := by
      funext u ⟨kind, value, code⟩
      cases kind with
      | note =>
        have hcode := State.foldl_eq_writeGroupCode (k := .announce code)
          (f := fun w y => match y.occupant with | some i => w.showAt y.seat i (some (.announce code)) | none => w)
          (fun w y i h => by simp only [h]) (fun w y h => by simp only [h]) (u.passElapsed n) n
        exact congrArg (fun w => if (u.sitting? n).any (fun y => decide (y.state = .writing)) then
          told (State.queueFrame w ⟨512 + n, .announce code .show⟩) ⟨.note, value, code⟩ 0 else u) hcode
      | lastEntry => rfl
      | exitOpen => rfl
      | exitClose => rfl
      | warn => rfl
    have hu : u = x.dueNext.foldl (State.fireWriting (s.markAhead (.sitting n)).hall.time n)
        ((s.markAhead (.sitting n)).mapSitting n (fun y => { y with sel := y.sel + 1 })) := by
      simp only [u, hfire]
      rfl
    obtain ⟨hclose, hstay⟩ := State.writingSecond_eq (s := s.markAhead (.sitting n)) hx hsel hu
    have htick : (s.markAhead (.sitting n)).tick (.sitting n) = (s.markAhead (.sitting n)).writingSecond x :=
      State.tickSitting_of_writing hx hstate hheld
    refine ⟨fun hdue => ?_, fun hcloses => ?_⟩
    · have harm : exec (.elapsedCueFire n) s = .next (s.early (.sitting n)
        (s.writingDue n (fun x => !(x.dueElapsed (x.sel + 1)).isEmpty))) := rfl
      have hevent : s.writingDue n (fun x => !(x.dueElapsed (x.sel + 1)).isEmpty) = true := by
        rw [State.writingDue_of_writing hx hstate hheld hsel, Bool.not_eq_true', Bool.eq_false_iff]
        exact fun h => hdue (List.isEmpty_iff.mp h)
      rw [harm, State.early_of_due hevent hahead, htick]
      by_cases hcloses : closes
      · rw [if_pos hcloses, hclose hcloses]
      · rw [if_neg hcloses, hstay hcloses]
    · have harm : exec (.defaultAdmissionClose n) s = .next (s.early (.sitting n) (s.writingDue n
        (fun x => !x.hasCue .lastEntry && x.admission && x.sel + 1 == x.base))) := rfl
      have hevent : s.writingDue n (fun x => !x.hasCue .lastEntry && x.admission && x.sel + 1 == x.base) = true := by
        obtain ⟨hkinds, hadmission, hbase⟩ := hcloses
        rw [State.writingDue_of_writing hx hstate hheld hsel, Sitting.hasCue_eq_false.mpr hkinds, hadmission, hbase,
          beq_self_eq_true]
        rfl
      rw [harm, State.early_of_due hevent hahead, htick, hclose hcloses]
  · obtain ⟨y, hy, hclosed⟩ := State.closeDoors_sitting? hx
    exact State.sittingTests_admission hy hclosed

end Sys2Proof.Machine
end

section
/-! SUPPORT. The phases begin (R63 to R66). -/

namespace Sys2Proof.Machine

/-! ## OPEN_DOORS and START (R63, R64) -/

section Doors
variable {s : State} {p : Port} {n : Nat} {x : Sitting}

theorem cmdOpenDoors_of_defined (hn : sittingOk n = true) (hx : s.sitting? n = some x) : cmdOpenDoors p n s =
    if s.isChief p = true then
      if x.state = .defined then okay (s.mapSitting n (fun y => { y with state := .opened, admission := true }))
      else refuse s .state
    else refuse s .zone := by
  rw [cmdOpenDoors, if_neg (not_not.mpr hn), hx]
  simp only [ne_eq, ite_not]

theorem cmdStart_of_defined (hn : sittingOk n = true) (hx : s.sitting? n = some x) : cmdStart p n s =
    if s.isChief p = true then
      if x.inFlight = true then refuse s .busy
      else if x.state = .opened then
        if 0 < x.reading then okay (s.mapSitting n (fun y => { y with state := .reading, elapsedReading := 0 }))
        else okay (s.startOfWriting n)
      else refuse s .state
    else refuse s .zone := by
  rw [cmdStart, if_neg (not_not.mpr hn), hx]
  simp only [ne_eq, ite_not]

end Doors

/-! ## The start of writing (R66) -/

section Start
variable {s : State} {n i : Nat} {c : Cand} {x : Sitting} {q : Cue}

theorem State.beginWriting_cand? (hc : s.cand? i = some c) (n : Nat) :
    (State.beginWriting n s i).cand? i = some { c with state := .writing, consumed := 0 } := by
  have hmoved : (s.setCandState i .writing).mapCand i (fun c => { c with consumed := 0 }) =
      s.moveCandTo i c { c with state := .writing, consumed := 0 } := State.setCandState_mapCand_eq hc _ rfl
  obtain ⟨seats, hshow⟩ := State.showCand_eq_seats
    ((s.moveCandTo i c { c with state := .writing, consumed := 0 }).joinSecond i n) i none
  rw [State.beginWriting, hmoved, hshow]
  exact (congrArg (fun h => h.cands[i]?) (State.joinSecond_hall ..)).trans (State.moveCandTo_cand? hc _)

theorem State.beginWriting_cand?_ne (s : State) (n i j : Nat) (hj : j ≠ i) :
    (State.beginWriting n s i).cand? j = s.cand? j :=
  (s.beginWriting_frame (π := Sitting.plain) (S := fun _ => True) (C := fun k => k = i) rfl (fun _ _ => trivial) n
    (fun _ _ => rfl)).cands j hj

/-- The start of writing with its ADMITTED candidates in WRITING, before its cues (R66). -/
def State.begun (s : State) (n : Nat) : State :=
  let s1 := s.mapSitting n (fun x => { x with state := .writing, sel := 0 })
  ((s1.candsIn n .admitted).foldl (State.beginWriting n) s1).mapSitting n
    (fun x => { x with exitOpen := x.exitOpen || !x.hasCue .exitOpen })

theorem State.startOfWriting_of_begun (s : State) (n : Nat) :
    s.startOfWriting n = (State.fireDueElapsed State.fireAtStart (s.begun n) n).sittingTests n := rfl

theorem State.begun_cand? (hc : s.cand? i = some c) (n : Nat) : (s.begun n).cand? i = some
    (if c.sitting = n ∧ c.state = .admitted then { c with state := .writing, consumed := 0 } else c) := by
  have hstart : (s.mapSitting n (fun x => { x with state := .writing, sel := 0 })).cand? i = some c := hc
  have hwalk := State.foldl_cand? (f := State.beginWriting n) (g := fun c => { c with state := .writing, consumed := 0 })
    (fun u i c hc => State.beginWriting_cand? hc n) (fun u i j hj => u.beginWriting_cand?_ne n i j hj) _ _
    (State.candsIn_nodup (s.mapSitting n (fun x => { x with state := .writing, sel := 0 })) n .admitted) i c hstart
  have hmem : i ∈ (s.mapSitting n (fun x => { x with state := .writing, sel := 0 })).candsIn n .admitted ↔
      c.sitting = n ∧ c.state = .admitted := by
    rw [State.mem_candsIn, hstart]
    simp
  simp only [hmem] at hwalk
  exact hwalk

/-- A sitting without its counts. -/
def Sitting.uncounted (x : Sitting) : Sitting := { x with counts := {} }

theorem State.begun_sitting? (hx : s.sitting? n = some x) : ∃ y, (s.begun n).sitting? n = some y ∧ y.uncounted =
    Sitting.uncounted { x with state := .writing, sel := 0, exitOpen := x.exitOpen || !x.hasCue .exitOpen } := by
  have hstart : (s.mapSitting n (fun x => { x with state := .writing, sel := 0 })).sitting? n =
      some { x with state := .writing, sel := 0 } := by
    rw [State.mapSitting_sitting? s n n (fun x => { x with state := .writing, sel := 0 }) (fun _ => rfl), if_pos rfl, hx,
      Option.map_some]
  have hwalk : Frame Sitting.uncounted (fun _ => True) (fun _ => True)
      (s.mapSitting n (fun x => { x with state := .writing, sel := 0 }))
      (((s.mapSitting n (fun x => { x with state := .writing, sel := 0 })).candsIn n .admitted).foldl (State.beginWriting n)
        (s.mapSitting n (fun x => { x with state := .writing, sel := 0 }))) :=
    Frame.foldl _ _ fun u i _ _ => u.beginWriting_frame trivial (fun _ _ => trivial) n (fun _ _ => rfl)
  obtain ⟨z, hz, heq⟩ := hwalk.sitting hstart
  have hopen := State.mapSitting_sitting?
    (((s.mapSitting n (fun x => { x with state := .writing, sel := 0 })).candsIn n .admitted).foldl (State.beginWriting n)
      (s.mapSitting n (fun x => { x with state := .writing, sel := 0 }))) n n
    (fun x => { x with exitOpen := x.exitOpen || !x.hasCue .exitOpen }) (fun _ => rfl)
  rw [if_pos rfl, hz, Option.map_some] at hopen
  refine ⟨_, hopen, ?_⟩
  exact congrArg (fun w : Sitting => { w with exitOpen := w.exitOpen || !w.hasCue .exitOpen }) heq

theorem State.begun_time (s : State) (n : Nat) : (s.begun n).hall.time = s.hall.time :=
  (Frame.foldl (π := Sitting.uncounted) (S := fun _ => True) (C := fun _ => True) _ _ fun u i _ _ =>
    u.beginWriting_frame (i := i) trivial (fun _ _ => trivial) n (fun _ _ => rfl)).time

/-- The elapsed cues at offset 0 from the pointer on (R66). -/
def Sitting.dueAtStart (x : Sitting) : List Cue := (x.elapsedCues.drop x.elapsedPtr).takeWhile (fun q => q.value == 0)

theorem State.begun_fires (hx : s.sitting? n = some x) : State.fireDueElapsed State.fireAtStart (s.begun n) n =
    x.dueAtStart.foldl (State.fireAtStart n) (s.begun n) := by
  obtain ⟨y, hy, heq⟩ := State.begun_sitting? hx
  have hcues : y.elapsedCues = x.elapsedCues := (congrArg Sitting.elapsedCues heq :)
  have hptr : y.elapsedPtr = x.elapsedPtr := (congrArg Sitting.elapsedPtr heq :)
  have hsel : y.sel = 0 := (congrArg Sitting.sel heq :)
  have htest : (fun q : Cue => decide (q.value ≤ 0)) = fun q => q.value == 0 := by
    funext q
    exact Bool.eq_iff_iff.mpr (by simp)
  rw [State.fireDueElapsed, hy]
  simp only [Sitting.dueElapsed, hcues, hptr, hsel, htest]
  rfl

theorem State.fireAtStart_eq (n : Nat) (u : State) (q : Cue) :
    State.fireAtStart n u q = State.fireAs State.closeDoors u.hall.time n u q := State.elapsedEffect_eq ..

theorem State.foldl_fireAtStart (s : State) (n : Nat) (l : List Cue) :
    l.foldl (State.fireAtStart n) s = l.foldl (State.fireAs State.closeDoors s.hall.time n) s := by
  have hfold := List.foldl_rel (l := l) (f := State.fireAtStart n) (g := State.fireAs State.closeDoors s.hall.time n)
    (r := fun u v : State => u = v ∧ u.hall.time = s.hall.time) ⟨rfl, rfl⟩ (fun q _ u v ⟨heq, htime⟩ => by
      have hframe := u.fireAtStart_frame (S := fun _ => True) (C := fun _ => True) trivial (fun _ _ _ _ _ => trivial) (n := n) q
      refine ⟨?_, hframe.time.trans htime⟩
      rw [State.fireAtStart_eq, htime, heq])
  exact hfold.1

/-- The start of writing fires the elapsed cues at offset 0 in list order, and then makes the sitting tests (R66). -/
theorem State.startOfWriting_of_fires (hx : s.sitting? n = some x) : s.startOfWriting n =
    (x.dueAtStart.foldl (State.fireAs State.closeDoors s.hall.time n) (s.begun n)).sittingTests n := by
  rw [State.startOfWriting_of_begun, State.begun_fires hx, State.foldl_fireAtStart, State.begun_time]

/-- Each cue that fires at the start is passed by the pointer. -/
theorem State.fireAtStart_ptr (hx : s.sitting? n = some x) (q : Cue) :
    ∃ y, (State.fireAtStart n s q).sitting? n = some y ∧ y.elapsedPtr = x.elapsedPtr + 1 := by
  have hpassed := State.mapSitting_sitting? s n n (fun y => { y with elapsedPtr := y.elapsedPtr + 1 }) (fun _ => rfl)
  rw [if_pos rfl, hx, Option.map_some] at hpassed
  have heffect : Frame Sitting.elapsedPtr (fun _ => True) (fun _ => True) (s.passElapsed n) (State.fireAtStart n s q) :=
    State.elapsedEffect_frame _ trivial
      (fun _ => State.closeDoors_frame _ trivial (fun _ _ _ _ _ => trivial) (fun _ _ => rfl) (fun _ => rfl)) (fun _ => rfl)
  exact heffect.sitting hpassed

theorem State.foldl_fireAtStart_ptr (l : List Cue) : ∀ (s : State) (x : Sitting), s.sitting? n = some x →
    ∃ y, (l.foldl (State.fireAtStart n) s).sitting? n = some y ∧ y.elapsedPtr = x.elapsedPtr + l.length := by
  induction l with
  | nil => exact fun s x hx => ⟨x, hx, rfl⟩
  | cons q l ih =>
    intro s x hx
    obtain ⟨y, hy, hptr⟩ := State.fireAtStart_ptr hx q
    obtain ⟨z, hz, hlen⟩ := ih _ y hy
    refine ⟨z, hz, ?_⟩
    rw [hlen, hptr, List.length_cons]
    omega

theorem State.startOfWriting_ptr (hx : s.sitting? n = some x) :
    ∃ y, (s.startOfWriting n).sitting? n = some y ∧ y.elapsedPtr = x.elapsedPtr + x.dueAtStart.length := by
  obtain ⟨y, hy, heq⟩ := State.begun_sitting? hx
  have hptr : y.elapsedPtr = x.elapsedPtr := (congrArg Sitting.elapsedPtr heq :)
  obtain ⟨z, hz, hlen⟩ := State.foldl_fireAtStart_ptr x.dueAtStart _ y hy
  have htests := State.sittingTests_frame (S := fun _ => True) (C := fun _ => True)
    (x.dueAtStart.foldl (State.fireAtStart n) (s.begun n)) (n := n) trivial
  obtain ⟨w, hw, hplain⟩ := htests.sitting hz
  refine ⟨w, ?_, ?_⟩
  · rw [State.startOfWriting_of_begun, State.begun_fires hx]
    exact hw
  · have hkept : w.elapsedPtr = z.elapsedPtr := (congrArg Sitting.elapsedPtr hplain :)
    rw [hkept, hlen, hptr]

/-- With no elapsed cue at offset 0 the start of writing is its candidates' and the sitting tests (R66). -/
theorem State.startOfWriting_of_quiet (hx : s.sitting? n = some x) (hcues : ∀ q ∈ x.elapsedCues, 0 < q.value) :
    s.startOfWriting n = (s.begun n).sittingTests n := by
  have hnone : x.dueAtStart = [] := by
    rw [Sitting.dueAtStart, List.takeWhile_eq_nil_iff]
    intro hpos
    have hmem := List.mem_of_mem_drop (List.getElem_mem hpos)
    simpa using Nat.ne_of_gt (hcues _ hmem)
  rw [State.startOfWriting_of_begun, State.begun_fires hx, hnone, List.foldl_nil]

/-- While somebody is left to write or to arrive, such a start of writing keeps its phase (R66, R78). -/
theorem State.startOfWriting_of_somebody (hx : s.sitting? n = some x) (hcues : ∀ q ∈ x.elapsedCues, 0 < q.value)
    (hcounts : s.CountsAgree) (hsome : ∃ c ∈ s.hall.cands, c.sitting = n ∧ (c.state = .expected ∨ c.state = .admitted
      ∨ c.state = .writing ∨ c.state = .resting)) : s.startOfWriting n = s.begun n := by
  obtain ⟨y, hy, heq⟩ := State.begun_sitting? hx
  have hwriting : y.state = .writing := (congrArg Sitting.state heq :)
  rw [State.startOfWriting_of_quiet hx hcues]
  refine State.sittingTests_of_somebody hy hwriting fun hnobody => ?_
  obtain ⟨z, hz, hzcounts⟩ := State.sittingTests_counts hy
  have hagree : ((s.begun n).sittingTests n).CountsAgree :=
    State.startOfWriting_of_quiet hx hcues ▸ hcounts.moves (State.startOfWriting_moves hx)
  obtain ⟨hmem, hnumber⟩ := State.mem_of_sitting? hz
  obtain ⟨c, hc, hcn, hstate⟩ := hsome
  obtain ⟨i, hi⟩ := List.getElem?_of_mem hc
  have hcand := State.begun_cand? (s := s) hi n
  rw [← State.sittingTests_cand? _ n] at hcand
  have hgone := (hagree.nobodyLeft_iff hmem).mp (hzcounts ▸ hnobody) _ (List.mem_of_getElem? hcand)
  by_cases hadmitted : c.sitting = n ∧ c.state = .admitted
  · rw [if_pos hadmitted] at hgone
    exact hgone (hcn.trans hnumber.symm) (.inr (.inr (.inl rfl)))
  · rw [if_neg hadmitted] at hgone
    exact hgone (hcn.trans hnumber.symm) hstate

/-- One ADMITTED candidate begins writing: its record and the counts, the second it takes with its sitting, and what
its seat shows (R66, R69). -/
theorem State.beginWriting_eq (hc : s.cand? i = some c) (n : Nat) : State.beginWriting n s i =
    ((s.moveCandTo i c { c with state := .writing, consumed := 0 }).joinSecond i n).showCand i := by
  have hmoved : (s.setCandState i .writing).mapCand i (fun c => { c with consumed := 0 }) =
      s.moveCandTo i c { c with state := .writing, consumed := 0 } := State.setCandState_mapCand_eq hc _ rfl
  rw [State.beginWriting, hmoved]

theorem State.begunCand_show {m : Nat} (hc : s.cand? i = some c) (hseat : c.seat = some m) (hstate : c.state = .writing)
    (hconsumed : c.consumed = 0) : s.showCand i = s.writeDisplay m (fun d =>
      { d with mode := if s.held c.sitting then .held else .count, remaining := c.entitled, number := 0, lock := false }) := by
  have hshown : c.shown (s.held c.sitting) = some (if s.held c.sitting then .held else .count, c.entitled, 0, false) := by
    rw [Cand.shown, hstate, Cand.remaining, hconsumed]
    rfl
  exact State.showCand_eq hc hseat hshown none

/-- A candidate of a sitting in WRITING with nothing consumed, and the counts moved with it (R66). -/
def State.countedWriting (s : State) (n i : Nat) : State :=
  (s.mapCand i (fun c => { c with state := .writing, consumed := 0 })).mapSitting n
    (fun y => { y with counts := (y.counts.dec .admitted).inc .writing })

/-- The same, with the second the candidate takes with its sitting (log 3). -/
def State.begunCand (s : State) (n i : Nat) : State := (s.countedWriting n i).joinSecond i n

/-- What an ADMITTED candidate's start of writing does, by whether it has a seat. -/
theorem State.beginWriting_of_admitted (hc : s.cand? i = some c) (hsitting : c.sitting = n) (hstate : c.state = .admitted) :
    (c.seat = none → State.beginWriting n s i = s.begunCand n i)
    ∧ ∀ m, c.seat = some m → State.beginWriting n s i = (s.begunCand n i).writeDisplay m (fun d =>
        { d with mode := if s.held n then .held else .count, remaining := c.entitled, number := 0, lock := false }) := by
  subst hsitting
  have hcounted : s.moveCandTo i c { c with state := .writing, consumed := 0 } = s.countedWriting c.sitting i := by
    rw [State.moveCandTo, hstate, State.countedWriting, State.mapCand_congr s i hc
      (f := fun c => { c with state := .writing, consumed := 0 }) (g := fun _ => { c with state := .writing, consumed := 0 }) rfl]
  have hcand : (s.begunCand c.sitting i).cand? i = some { c with state := .writing, consumed := 0 } := by
    rw [State.begunCand, ← hcounted]
    exact (congrArg (fun h => h.cands[i]?) (State.joinSecond_hall ..)).trans (State.moveCandTo_cand? hc _)
  have hheld : (s.begunCand c.sitting i).held c.sitting = s.held c.sitting := by
    rw [State.begunCand, State.joinSecond_held, ← hcounted, State.moveCandTo_held]
  rw [State.beginWriting_eq hc, hcounted]
  refine ⟨fun hseat => State.showCand_of_none hcand hseat none, fun m hseat => ?_⟩
  have hshow := State.begunCand_show hcand hseat rfl rfl
  rw [hheld] at hshow
  exact hshow

/-- A candidate's start of writing takes no sitting's part of a second. -/
theorem State.beginWriting_ahead (hc : s.cand? i = some c) (n m : Nat) :
    TickKey.sitting m ∈ (State.beginWriting n s i).clock.ahead ↔ TickKey.sitting m ∈ s.clock.ahead := by
  obtain ⟨seats, hshow⟩ := State.showCand_eq_seats
    ((s.moveCandTo i c { c with state := .writing, consumed := 0 }).joinSecond i n) i none
  rw [State.beginWriting_eq hc, hshow]
  show TickKey.sitting m ∈ ((s.moveCandTo i c { c with state := .writing, consumed := 0 }).joinSecond i n).clock.ahead ↔ _
  unfold State.joinSecond
  split
  · simp only [List.mem_append, List.mem_singleton, reduceCtorEq, or_false]
    rfl
  · rfl

/-- The walk over the ADMITTED candidates of a sitting, each record read where the walk began. -/
theorem State.foldl_begins {s : State} {n : Nat} {f : State → Cand × Nat → State}
    (hf : ∀ u p, u.cand? p.2 = some p.1 → p.1.sitting = n → p.1.state = .admitted → u.held n = s.held n →
      (TickKey.sitting n ∈ u.clock.ahead ↔ TickKey.sitting n ∈ s.clock.ahead) → State.beginWriting n u p.2 = f u p)
    (l : List (Cand × Nat)) : ∀ u : State, (l.map (fun p => p.2)).Nodup →
      (∀ p ∈ l, u.cand? p.2 = some p.1 ∧ p.1.sitting = n ∧ p.1.state = .admitted) → u.held n = s.held n →
      (TickKey.sitting n ∈ u.clock.ahead ↔ TickKey.sitting n ∈ s.clock.ahead) →
      l.foldl (fun u p => State.beginWriting n u p.2) u = l.foldl f u := by
  induction l with
  | nil => exact fun _ _ _ _ _ => rfl
  | cons p l ih =>
    intro u hnodup hl hheld hahead
    obtain ⟨hp, hnodup⟩ := List.nodup_cons.mp hnodup
    obtain ⟨hc, hsitting, hstate⟩ := hl p (List.mem_cons_self ..)
    have hstep := hf u p hc hsitting hstate hheld hahead
    have hframe := u.beginWriting_frame (π := Sitting.uncounted) (S := fun _ => True) (C := fun k => k = p.2) rfl
      (fun _ _ => trivial) n (fun _ _ => rfl)
    rw [List.foldl_cons, List.foldl_cons, ← hstep]
    refine ih _ hnodup (fun r hr => ?_) ((hframe.held n).trans hheld) ((State.beginWriting_ahead hc n n).trans hahead)
    obtain ⟨hcr, hrest⟩ := hl r (List.mem_cons_of_mem _ hr)
    have hne : r.2 ≠ p.2 := fun h => hp (List.mem_map.mpr ⟨r, hr, h⟩)
    exact ⟨(u.beginWriting_cand?_ne n p.2 r.2 hne).trans hcr, hrest⟩

/-- The ADMITTED candidates of a sitting with their indexes, ascending. -/
def State.admittedIn (s : State) (n : Nat) : List (Cand × Nat) :=
  s.hall.cands.zipIdx.filter (fun p => p.1.sitting == n && decide (p.1.state = .admitted))

theorem State.mem_admittedIn {p : Cand × Nat} (h : p ∈ s.admittedIn n) :
    s.cand? p.2 = some p.1 ∧ p.1.sitting = n ∧ p.1.state = .admitted := by
  obtain ⟨hmem, htest⟩ := List.mem_filter.mp h
  rw [Bool.and_eq_true, beq_iff_eq, decide_eq_true_iff] at htest
  exact ⟨List.mem_zipIdx_iff_getElem?.mp hmem, htest⟩

theorem State.foldl_candsIn (s : State) (n : Nat) : (s.candsIn n .admitted).foldl (State.beginWriting n) s =
    (s.admittedIn n).foldl (fun u p => State.beginWriting n u p.2) s := List.foldl_map

end Start

/-- Settles O28: the doors, the start, the end of a reading time and the start of writing. -/
theorem phasesBegin : Obligations.PhasesBegin := by
  unfold Obligations.PhasesBegin
  refine ⟨fun d tag n x s hready hsession hn1 hn2 hx => ?_, fun s n x hx => ⟨?_, ?_, ?_⟩⟩
  · have hopenGate : sessionTakes (.openDoors n) s.hall.session = true := by simp [sessionTakes, hsession]
    have hstartGate : sessionTakes (.start n) s.hall.session = true := by simp [sessionTakes, hsession]
    have hopen := cmdOpenDoors_of_defined (p := .desk d) (sittingOk_of_inRange hn1 hn2) hx
    have hstart := cmdStart_of_defined (p := .desk d) (sittingOk_of_inRange hn1 hn2) hx
    rw [State.isChief_desk] at hopen hstart
    refine ⟨fun hd => ⟨?_, ?_⟩, fun hd hstate => ?_, fun hd hflight hstate hreading => ?_, fun hd hflight hstate hreading => ?_⟩
    · rw [decide_eq_false hd] at hopen
      exact exec_taken rfl hready ⟨rfl, rfl, rfl⟩ hopenGate hopen
    · rw [decide_eq_false hd] at hstart
      exact exec_taken rfl hready ⟨rfl, rfl, rfl⟩ hstartGate hstart
    · rw [decide_eq_true hd, if_pos rfl, if_pos hstate] at hopen
      exact exec_taken rfl hready ⟨rfl, rfl, rfl⟩ hopenGate hopen
    · rw [decide_eq_true hd, if_pos rfl, hflight, if_neg Bool.false_ne_true, if_pos hstate, if_pos hreading] at hstart
      exact exec_taken rfl hready ⟨rfl, rfl, rfl⟩ hstartGate hstart
    · rw [decide_eq_true hd, if_pos rfl, hflight, if_neg Bool.false_ne_true, if_pos hstate, hreading,
        if_neg (Nat.lt_irrefl 0)] at hstart
      exact exec_taken rfl hready ⟨rfl, rfl, rfl⟩ hstartGate hstart
  · intro hstate hheld hlast hahead
    have hdue : s.readingEndDue n = true := by
      simp only [State.readingEndDue, hx, hstate, hheld, hlast, decide_true, Bool.not_false, beq_self_eq_true, Bool.and_self]
    have harm : exec (.readingEnd n) s = .next (s.early (.sitting n) (s.readingEndDue n)) := rfl
    have htick : (s.markAhead (.sitting n)).tick (.sitting n) = (s.markAhead (.sitting n)).readingSecond x :=
      State.tickSitting_of_reading hx hstate hheld
    rw [harm, State.early_of_due hdue hahead, htick, State.readingSecond, hlast]
    simp only [if_true, State.number_of_sitting? hx]
    rfl
  · intro hcues _ hcounts hsome
    rw [State.startOfWriting_of_somebody hx hcues hcounts hsome]
    obtain ⟨y, hy, heq⟩ := State.begun_sitting? hx
    have hexit : y.exitOpen = (x.exitOpen || !x.hasCue .exitOpen) := (congrArg Sitting.exitOpen heq :)
    refine ⟨⟨y, hy, (congrArg Sitting.state heq :), (congrArg Sitting.sel heq :), (congrArg Sitting.admission heq :), ?_⟩,
      fun i c hc => State.begun_cand? hc n⟩
    rw [hexit, Bool.or_eq_true, Bool.not_eq_true', Sitting.hasCue_eq_false]
  · intro told fire due s1 begins s2 noExit s3
    have hfire : fire = State.fireAs State.closeDoors s.hall.time n := by
      funext u ⟨kind, value, code⟩
      cases kind with
      | note =>
        have hcode := State.foldl_eq_writeGroupCode (k := .announce code)
          (f := fun w y => match y.occupant with | some i => w.showAt y.seat i (some (.announce code)) | none => w)
          (fun w y i h => by simp only [h]) (fun w y h => by simp only [h]) (u.passElapsed n) n
        exact congrArg (fun w => told (State.queueFrame w ⟨512 + n, .announce code .show⟩) ⟨.note, value, code⟩ 0) hcode
      | lastEntry => rfl
      | exitOpen => rfl
      | exitClose => rfl
      | warn => rfl
    have hbegins : ∀ u p, u.cand? p.2 = some p.1 → p.1.sitting = n → p.1.state = .admitted → u.held n = s1.held n →
        (TickKey.sitting n ∈ u.clock.ahead ↔ TickKey.sitting n ∈ s1.clock.ahead) →
        State.beginWriting n u p.2 = begins u p := fun u ⟨c, i⟩ hc hsitting hstate hheld hahead => by
      have hstart : s1.held n = s.held n := State.held_mapSitting s n n (fun _ => rfl) (fun _ => rfl)
      have hjoin : u.begunCand n i =
          if TickKey.sitting n ∈ s.clock.ahead then
            { u.countedWriting n i with clock := { u.clock with ahead := u.clock.ahead ++ [TickKey.cand i] } }
          else u.countedWriting n i := by
        by_cases h : TickKey.sitting n ∈ s.clock.ahead
        · rw [if_pos h]
          exact State.joinSecond_of_ahead (s := u.countedWriting n i) (hahead.mpr h) i
        · rw [if_neg h]
          exact State.joinSecond_of_not_ahead (s := u.countedWriting n i) (mt hahead.mp h) i
      obtain ⟨hunseated, hseated⟩ := State.beginWriting_of_admitted hc hsitting hstate
      cases hseat : c.seat with
      | none =>
        rw [hunseated hseat, hjoin]
        simp only [begins, hseat]
        rfl
      | some m =>
        rw [hseated m hseat, hheld, hstart, hjoin]
        simp only [begins, hseat]
        rfl
    have hwalk : (s1.candsIn n .admitted).foldl (State.beginWriting n) s1 = s2 := by
      rw [State.foldl_candsIn]
      exact State.foldl_begins hbegins _ s1
        (List.Nodup.sublist (List.Sublist.map _ List.filter_sublist) (by rw [List.zipIdx_map_snd]; exact List.nodup_range'))
        (fun p hp => State.mem_admittedIn hp) rfl Iff.rfl
    have hnone : ∀ y : Sitting, noExit y = !y.hasCue .exitOpen := fun y => by
      simp only [noExit, Sitting.hasCue, List.not_any_eq_all_not, decide_not, ne_eq]
    have hbegun : s.begun n = s3 := by
      have hopen : (fun y : Sitting => { y with exitOpen := y.exitOpen || !y.hasCue .exitOpen }) =
          fun y => { y with exitOpen := y.exitOpen || noExit y } := funext fun y => by rw [hnone]
      exact (congrArg (fun u => State.mapSitting u n _) hwalk).trans (congrArg (s2.mapSitting n) hopen)
    rw [State.startOfWriting_of_fires hx, hbegun, ← hfire]
    refine ⟨rfl, ?_⟩
    obtain ⟨y, hy, hptr⟩ := State.startOfWriting_ptr hx
    rw [State.startOfWriting_of_fires hx, hbegun, ← hfire] at hy
    exact ⟨y, hy, hptr⟩

end Sys2Proof.Machine
end

section
/-! SUPPORT. The hall second (R1, section 4.7): its sittings, then its candidates, then its seats (log 4). -/

namespace Sys2Proof.Machine

/-! ## What is due of the frame -/

section Frames
variable {α : Type} {π : Sitting → α} {S C : Nat → Prop} {s t : State} {i n : Nat}

theorem Frame.length (h : Frame π S C s t) : t.hall.cands.length = s.hall.cands.length := by
  have hsome : ∀ j, t.hall.cands[j]? = none ↔ s.hall.cands[j]? = none := fun j => by
    have hnames := congrArg Option.isNone (h.names j)
    simp only [State.cand?, Option.isNone_map] at hnames
    rw [← Option.isNone_iff_eq_none, ← Option.isNone_iff_eq_none, hnames]
  apply Nat.le_antisymm
  · exact List.getElem?_eq_none_iff.mp ((hsome _).mpr (List.getElem?_eq_none_iff.mpr (Nat.le_refl _)))
  · exact List.getElem?_eq_none_iff.mp ((hsome _).mp (List.getElem?_eq_none_iff.mpr (Nat.le_refl _)))

/-- The parts of a second taken one after the other. -/
theorem Frame.foldl_keeping {γ : Type} {f : State → γ → State} {P : State → Prop} (l : List γ)
    (hf : ∀ u a, a ∈ l → P u → Frame π S C u (f u a) ∧ P (f u a)) : ∀ s, P s → Frame π S C s (l.foldl f s) ∧ P (l.foldl f s) := by
  induction l with
  | nil => exact fun s hs => ⟨.refl s, hs⟩
  | cons a l ih =>
    intro s hs
    obtain ⟨hfirst, hP⟩ := hf s a (List.mem_cons_self ..) hs
    obtain ⟨hrest, hend⟩ := ih (fun u b hb hu => hf u b (List.mem_cons_of_mem _ hb) hu) (f s a) hP
    exact ⟨hfirst.trans hrest, hend⟩

end Frames

/-! ## The sittings' part -/

section Sittings
variable {S C : Nat → Prop} {s t : State} {i n : Nat} {c : Cand} {x : Sitting}

/-- A sitting without what its part of a second changes. -/
def Sitting.cued (x : Sitting) : Sitting :=
  { x.timed with sel := 0, elapsedReading := 0, pauseAcc := 0, disrupted := false }

theorem Sitting.cued_of_timed {x y : Sitting} (h : y.timed = x.timed) : y.cued = x.cued :=
  congrArg (fun z : Sitting => { z with sel := 0, elapsedReading := 0, pauseAcc := 0, disrupted := false }) h

theorem Frame.cued_of_timed (h : Frame Sitting.timed S C s t) : Frame Sitting.cued S C s t :=
  h.weaken fun _ _ => Sitting.cued_of_timed

theorem State.heldSecond_frame (s : State) (hn : S x.number) : Frame Sitting.cued S C s (s.heldSecond x) := by
  have hcounted := s.mapSitting_frame (π := Sitting.cued) (C := C) hn (f := fun y => { y with pauseAcc := x.pauseAcc + 1 })
    (fun _ => ⟨rfl, rfl, rfl⟩)
  simp only [State.heldSecond]
  split
  · have hdisrupted := hcounted.trans (State.mapSitting_frame _ hn (f := fun y => { y with disrupted := true })
      (fun _ => ⟨rfl, rfl, rfl⟩))
    exact (hdisrupted.trans (State.offer_frame ..)).trans (.still rfl rfl rfl)
  · exact hcounted

theorem State.readingSecond_frame (s : State) (hn : S x.number) (hC : s.Covers C x.number) :
    Frame Sitting.cued S C s (s.readingSecond x) := by
  have hcounted := s.mapSitting_frame (π := Sitting.cued) (C := C) hn
    (f := fun y => { y with elapsedReading := x.elapsedReading + 1 }) (fun _ => ⟨rfl, rfl, rfl⟩)
  simp only [State.readingSecond]
  split
  · have hstarted := hcounted.trans (State.mapSitting_frame _ hn (f := fun y => { y with state := .writing, sel := 0 })
      (fun _ => ⟨rfl, rfl, rfl⟩))
    exact hstarted.trans (State.startedWriting_frame _ hn (hstarted.covers hC)).cued_of_timed
  · exact hcounted

theorem State.writingSecond_frame (s : State) (hn : S x.number) (hC : s.Covers C x.number) :
    Frame Sitting.cued S C s (s.writingSecond x) := by
  have hcounted := s.mapSitting_frame (π := Sitting.cued) (C := C) hn (f := fun y => { y with sel := y.sel + 1 })
    (fun _ => ⟨rfl, rfl, rfl⟩)
  unfold State.writingSecond
  split
  · have hfired := hcounted.trans (State.fireDueElapsed_frame (fire := State.fireElapsed) _
      fun u q hu => u.fireElapsed_frame hn ((hcounted.trans hu.cued_of_timed).covers hC) q).cued_of_timed
    exact hfired.trans (State.defaultClose_frame _ hn (hfired.covers hC)).cued_of_timed
  · exact .refl s

theorem State.tickSitting_frame (s : State) (hn : S n) (hC : s.Covers C n) : Frame Sitting.cued S C s (s.tickSitting n) := by
  unfold State.tickSitting
  split
  · exact .refl s
  next x hx =>
    obtain rfl := State.number_of_sitting? hx
    split
    · exact s.readingSecond_frame hn hC
    · exact s.writingSecond_frame hn hC
    · exact s.heldSecond_frame hn
    · exact s.heldSecond_frame hn
    · exact .refl s

theorem State.second_sitting_frame (s : State) (hn : S n) (hC : s.Covers C n) :
    Frame Sitting.cued S C s (s.second (.sitting n)) := by
  unfold State.second
  split
  · exact .refl s
  · have hmarked := s.markAhead_sitting_frame (π := Sitting.cued) (C := C) hn
    exact hmarked.trans (State.tickSitting_frame _ hn (hmarked.covers hC))

/-- The sittings of a list take their part of the second. -/
def State.sittingsSecond (s : State) (l : List Nat) : State := l.foldl (fun u n => u.second (.sitting n)) s

/-- The candidates that a sitting's part may touch: those of it that have not begun. -/
def State.YoungIn (s : State) (p : Nat → Prop) (j : Nat) : Prop := ∃ c, s.cand? j = some c ∧ p c.sitting ∧ c.state.young = true

theorem State.covers_young {p : Nat → Prop} (hn : p n) : s.Covers (s.YoungIn p) n := fun _ c hc hsitting hyoung =>
  ⟨c, hc, hsitting ▸ hn, hyoung⟩

/-- The parts of the sittings of a list touch no other sitting and none of its candidates. -/
theorem State.sittingsSecond_frame {p : Nat → Prop} {t : State} (ht : Frame Sitting.cued (fun _ => True) (fun _ => True) s t)
    (l : List Nat) (hl : ∀ n ∈ l, p n) : Frame Sitting.cued p (s.YoungIn p) t (t.sittingsSecond l) :=
  Frame.foldl l t fun u n hn hu => by
    have hframe := ht.trans (hu.mono (fun _ _ => trivial) (fun _ _ => trivial))
    exact u.second_sitting_frame (hl n hn) (hframe.covers (State.covers_young (hl n hn)))

theorem State.sittingsSecond_all (s : State) (l : List Nat) :
    Frame Sitting.cued (fun _ => True) (fun _ => True) s (s.sittingsSecond l) :=
  (State.sittingsSecond_frame (p := fun _ => True) (.refl s) l (fun _ _ => trivial)).mono (fun _ h => h) (fun _ _ => trivial)

/-- A sitting of the list takes its part in a state that the others before it have left it alone in, and the others
after it leave it alone. -/
theorem State.sittingsSecond_split {l : List Nat} (hn : n ∈ l) (hl : l.Nodup) : ∃ a,
    Frame Sitting.cued (· ≠ n) (s.YoungIn (· ≠ n)) s a
    ∧ Frame Sitting.cued (· ≠ n) (s.YoungIn (· ≠ n)) (a.second (.sitting n)) (s.sittingsSecond l) := by
  obtain ⟨l1, l2, rfl⟩ := List.append_of_mem hn
  obtain ⟨-, hright, hdisjoint⟩ := List.nodup_append.mp hl
  have hbefore : ∀ m ∈ l1, m ≠ n := fun m hm h => hdisjoint m hm n (List.mem_cons_self ..) h
  have hafter : ∀ m ∈ l2, m ≠ n := fun m hm h => (List.nodup_cons.mp hright).1 (h ▸ hm)
  have hfirst := State.sittingsSecond_frame (.refl s) l1 hbefore
  have hall := (hfirst.mono (fun _ _ => trivial) (fun _ _ => trivial)).trans
    (State.second_sitting_frame (S := fun _ => True) (C := fun _ => True) (s.sittingsSecond l1) (n := n) trivial
      (fun _ _ _ _ _ => trivial))
  refine ⟨s.sittingsSecond l1, hfirst, ?_⟩
  have hrest := State.sittingsSecond_frame hall l2 hafter
  have happend : s.sittingsSecond (l1 ++ n :: l2) = ((s.sittingsSecond l1).second (.sitting n)).sittingsSecond l2 :=
    List.foldl_append ..
  rw [happend]
  exact hrest

end Sittings

end Sys2Proof.Machine
end

section
/-! SUPPORT. What a sitting's part of the second does to its record and to its candidates (R65 to R68, R77). -/

namespace Sys2Proof.Machine

/-! ## Doors shut (R68) -/

section Shut
variable {s t u : State} {i n : Nat} {c d e : Cand} {x : Sitting} {q : Cue}

/-- A candidate after doors may have been shut: EXPECTED made ABSENT without a seat, or as it was. -/
def Cand.Shut (c d : Cand) : Prop := d = c ∨ c.state = .expected ∧ d = { c with state := .absent, seat := none }

theorem Cand.Shut.trans (h : c.Shut d) (h' : d.Shut e) : c.Shut e := by
  obtain rfl | ⟨hexpected, rfl⟩ := h
  · exact h'
  · obtain rfl | ⟨habsent, -⟩ := h'
    · exact .inr ⟨hexpected, rfl⟩
    · cases habsent

/-- No candidate changes but by doors shut. -/
def State.Shuts (s t : State) : Prop := ∀ i c, s.cand? i = some c → ∃ d, t.cand? i = some d ∧ c.Shut d

theorem State.Shuts.refl (s : State) : s.Shuts s := fun _ c hc => ⟨c, hc, .inl rfl⟩

theorem State.Shuts.trans (h : s.Shuts t) (h' : t.Shuts u) : s.Shuts u := fun i c hc => by
  obtain ⟨d, hd, hcd⟩ := h i c hc
  obtain ⟨e, he, hde⟩ := h' i d hd
  exact ⟨e, he, hcd.trans hde⟩

theorem Frame.shuts {α : Type} {π : Sitting → α} {S : Nat → Prop} (h : Frame π S (fun _ => False) s t) : s.Shuts t :=
  fun i c hc => ⟨c, (h.cands i id).trans hc, .inl rfl⟩

theorem State.Shuts.foldl {α : Type} {f : State → α → State} (hf : ∀ (u : State) a, u.Shuts (f u a)) (l : List α) :
    ∀ s : State, s.Shuts (l.foldl f s) := by
  induction l with
  | nil => exact State.Shuts.refl
  | cons a l ih => exact fun s => (hf s a).trans (ih _)

theorem State.closeDoors_shuts (s : State) (n : Nat) : s.Shuts (s.closeDoors n) := fun i c hc => by
  refine ⟨_, State.closeDoors_cand? hc n, ?_⟩
  split
  next h => exact .inr ⟨h.2, rfl⟩
  next => exact .inl rfl

theorem State.sittingTests_shuts (s : State) (n : Nat) : s.Shuts (s.sittingTests n) :=
  fun i c hc => ⟨c, (State.sittingTests_cand? s n i).trans hc, .inl rfl⟩

theorem State.closeAdmission_shuts (s : State) (n : Nat) : s.Shuts (s.closeAdmission n) :=
  (s.closeDoors_shuts n).trans (State.sittingTests_shuts _ _)

theorem State.elapsedEffect_shuts {close : State → Nat → State} (hclose : ∀ u : State, u.Shuts (close u n)) (s : State)
    (q : Cue) : s.Shuts (State.elapsedEffect close s n q) := by
  by_cases hq : q.kind = .lastEntry
  · have htold : ∀ (u : State) k, u.Shuts (u.notifyDesks k) := fun u k =>
      (u.notifyWhere_frame (π := Sitting.plain) (S := fun _ => True) _ k).shuts
    simp only [State.elapsedEffect, hq]
    exact (hclose s).trans (htold _ _)
  · exact (s.elapsedEffect_frame (π := fun x : Sitting => x.number) (S := fun _ => True) (close := close) (n := n) trivial
      (fun h => absurd h hq) (fun _ => rfl)).shuts

theorem State.passElapsed_shuts (s : State) (n : Nat) : s.Shuts (s.passElapsed n) :=
  (s.passElapsed_frame (S := fun _ => True) trivial).shuts

theorem State.fireElapsed_shuts (n : Nat) (s : State) (q : Cue) : s.Shuts (State.fireElapsed n s q) := by
  unfold State.fireElapsed
  split
  · split
    · exact (s.passElapsed_shuts n).trans (State.elapsedEffect_shuts (fun u => u.closeAdmission_shuts n) _ q)
    · exact .refl s
  · exact .refl s

theorem State.fireAtStart_shuts (n : Nat) (s : State) (q : Cue) : s.Shuts (State.fireAtStart n s q) :=
  (s.passElapsed_shuts n).trans (State.elapsedEffect_shuts (fun u => u.closeDoors_shuts n) _ q)

theorem State.fireDueElapsed_shuts {fire : Nat → State → Cue → State} (hfire : ∀ u q, State.Shuts u (fire n u q)) (s : State) :
    s.Shuts (State.fireDueElapsed fire s n) := by
  unfold State.fireDueElapsed
  split
  · exact State.Shuts.foldl hfire _ s
  · exact .refl s

theorem State.defaultClose_shuts (s : State) (n : Nat) : s.Shuts (s.defaultClose n) := by
  unfold State.defaultClose
  split
  · split
    · exact s.closeAdmission_shuts n
    · exact .refl s
  · exact .refl s

theorem State.writingSecond_shuts (s : State) (x : Sitting) : s.Shuts (s.writingSecond x) := by
  unfold State.writingSecond
  split
  · have hcounted : s.Shuts (s.mapSitting x.number (fun y => { y with sel := y.sel + 1 })) :=
      fun i c hc => ⟨c, hc, .inl rfl⟩
    exact (hcounted.trans (State.fireDueElapsed_shuts (State.fireElapsed_shuts x.number) _)).trans
      (State.defaultClose_shuts _ _)
  · exact .refl s

theorem State.heldSecond_shuts (s : State) (x : Sitting) : s.Shuts (s.heldSecond x) :=
  (s.heldSecond_frame (S := fun _ => True) (C := fun _ => False) trivial).shuts

/-- The start of writing after its ADMITTED candidates have begun (R66). -/
theorem State.begun_shuts (s : State) (n : Nat) : (s.begun n).Shuts (s.startOfWriting n) := by
  rw [State.startOfWriting_of_begun]
  exact (State.fireDueElapsed_shuts (State.fireAtStart_shuts n) _).trans (State.sittingTests_shuts _ _)

end Shut

/-! ## The candidates of a sitting that takes its part -/

section Own
variable {s : State} {i n : Nat} {c : Cand} {x : Sitting}

/-- The next second ends a sitting's reading time (R65). -/
def State.ReadingEnds (s : State) (n : Nat) : Prop :=
  ∃ x, s.sitting? n = some x ∧ x.state = .reading ∧ s.held n = false ∧ x.elapsedReading + 1 = x.reading

/-- A candidate begins writing in the second that ends its sitting's reading time. -/
def Cand.writingNow (c : Cand) : Cand := { c with state := .writing, consumed := 0 }

theorem State.beginWriting_joins (hahead : TickKey.sitting n ∈ s.clock.ahead) (i : Nat) :
    TickKey.cand i ∈ (State.beginWriting n s i).clock.ahead := by
  have hset := (s.setCandState_frame (π := Sitting.uncounted) (S := fun _ => True) (C := fun _ => True) (i := i) trivial
    (fun _ _ => trivial) (st := .writing) rfl (fun _ _ => rfl)).ahead_old _ hahead
  have hjoin := State.joinSecond_of_ahead (s := (s.setCandState i .writing).mapCand i (fun c => { c with consumed := 0 })) hset i
  have hshow := State.showCand_frame (π := Sitting.uncounted) (S := fun _ => True) (C := fun _ => True)
    (((s.setCandState i .writing).mapCand i (fun c => { c with consumed := 0 })).joinSecond i n) i none
  refine hshow.ahead_old _ ?_
  rw [hjoin]
  exact List.mem_append_right _ (List.mem_singleton.mpr rfl)

theorem State.foldl_beginWriting_joins (l : List Nat) : ∀ s : State, TickKey.sitting n ∈ s.clock.ahead → i ∈ l →
    TickKey.cand i ∈ (l.foldl (State.beginWriting n) s).clock.ahead := by
  induction l with
  | nil => exact fun _ _ h => absurd h List.not_mem_nil
  | cons j l ih =>
    intro s hahead hi
    have hframe := fun (u : State) (k : Nat) => u.beginWriting_frame (π := Sitting.uncounted) (S := fun _ => True)
      (C := fun _ => True) (i := k) trivial (fun _ _ => trivial) n (fun _ _ => rfl)
    obtain rfl | hi := List.mem_cons.mp hi
    · exact (Frame.foldl l _ fun u k _ _ => hframe u k).ahead_old _ (State.beginWriting_joins hahead i)
    · exact ih _ ((hframe s j).ahead_old _ hahead) hi

theorem State.startOfWriting_joins (hahead : TickKey.sitting n ∈ s.clock.ahead) (hc : s.cand? i = some c)
    (hsitting : c.sitting = n) (hstate : c.state = .admitted) : TickKey.cand i ∈ (s.startOfWriting n).clock.ahead := by
  have hmem : i ∈ (s.mapSitting n (fun x => { x with state := .writing, sel := 0 })).candsIn n .admitted :=
    (State.mem_candsIn _ n .admitted i).mpr ⟨c, hc, hsitting, hstate⟩
  have hbegun : TickKey.cand i ∈ (s.begun n).clock.ahead := State.foldl_beginWriting_joins _
    (s.mapSitting n (fun x => { x with state := .writing, sel := 0 })) hahead hmem
  have hfires := State.fireDueElapsed_frame (S := fun _ => True) (C := fun _ => True) (fire := State.fireAtStart) (n := n)
    (s.begun n) (fun u q _ => u.fireAtStart_frame trivial (fun _ _ _ _ _ => trivial) q)
  exact (State.sittingTests_frame (S := fun _ => True) (C := fun _ => True) _ trivial).ahead_old _ (hfires.ahead_old _ hbegun)

theorem State.tickSitting_of_none (hx : s.sitting? n = none) : s.tickSitting n = s := by
  simp only [State.tickSitting, hx]

theorem State.tickSitting_of_idle (hx : s.sitting? n = some x) (hr : x.state ≠ .reading) (hw : x.state ≠ .writing) :
    s.tickSitting n = s := by
  cases hstate : x.state with
  | reading => exact absurd hstate hr
  | writing => exact absurd hstate hw
  | _ => simp only [State.tickSitting, hx, hstate]

/-- A candidate through its sitting's part of the second: an ADMITTED one begins writing, the second taken with its
sitting, where the reading time ends, and else the doors may be shut on it. -/
theorem State.tickSitting_cand? (hahead : TickKey.sitting n ∈ s.clock.ahead) (hc : s.cand? i = some c) (hsitting : c.sitting = n) :
    (c.state = .admitted → s.ReadingEnds n →
      (s.tickSitting n).cand? i = some c.writingNow ∧ TickKey.cand i ∈ (s.tickSitting n).clock.ahead)
    ∧ (¬ (c.state = .admitted ∧ s.ReadingEnds n) → ∃ d, (s.tickSitting n).cand? i = some d ∧ c.Shut d) := by
  have hends : s.ReadingEnds n → ∃ f : Sitting → Sitting, s.tickSitting n = (s.mapSitting n f).startOfWriting n := by
    rintro ⟨x, hx, hstate, hheld, hlast⟩
    refine ⟨fun y => { y with elapsedReading := x.elapsedReading + 1 }, ?_⟩
    rw [State.tickSitting_of_reading hx hstate hheld, State.readingSecond]
    simp only [if_pos hlast, State.number_of_sitting? hx]
  have hstart : s.ReadingEnds n → ∃ d, (s.tickSitting n).cand? i = some d
      ∧ Cand.Shut (if c.sitting = n ∧ c.state = .admitted then c.writingNow else c) d := fun h => by
    obtain ⟨f, heq⟩ := hends h
    rw [heq]
    exact State.begun_shuts _ n i _ (State.begun_cand? (s := s.mapSitting n f) hc n)
  refine ⟨fun hadmitted h => ?_, fun hnot => ?_⟩
  · obtain ⟨d, hd, hshut⟩ := hstart h
    rw [if_pos ⟨hsitting, hadmitted⟩] at hshut
    obtain rfl | ⟨hexpected, -⟩ := hshut
    · refine ⟨hd, ?_⟩
      obtain ⟨f, heq⟩ := hends h
      rw [heq]
      exact State.startOfWriting_joins (s := s.mapSitting n f) hahead hc hsitting hadmitted
    · cases hexpected
  · by_cases h : s.ReadingEnds n
    · obtain ⟨d, hd, hshut⟩ := hstart h
      rw [if_neg (fun hadm => hnot ⟨hadm.2, h⟩)] at hshut
      exact ⟨d, hd, hshut⟩
    · cases hx : s.sitting? n with
      | none =>
        rw [State.tickSitting_of_none hx]
        exact ⟨c, hc, .inl rfl⟩
      | some x =>
        by_cases hphase : x.state = .reading ∨ x.state = .writing
        · cases hheld : s.held n with
          | true =>
            rw [State.tickSitting_of_held hx hphase hheld]
            exact s.heldSecond_shuts x i c hc
          | false =>
            obtain hreading | hwriting := hphase
            · have hlast : x.elapsedReading + 1 ≠ x.reading := fun hlast => h ⟨x, hx, hreading, hheld, hlast⟩
              rw [State.tickSitting_of_reading hx hreading hheld, State.readingSecond]
              simp only [if_neg hlast]
              exact ⟨c, hc, .inl rfl⟩
            · rw [State.tickSitting_of_writing hx hwriting hheld]
              exact s.writingSecond_shuts x i c hc
        · rw [State.tickSitting_of_idle hx (fun h => hphase (.inl h)) (fun h => hphase (.inr h))]
          exact ⟨c, hc, .inl rfl⟩

end Own

end Sys2Proof.Machine
end

section
/-! SUPPORT. The sittings' part of the second as a whole: each sitting's record, and each candidate after it. -/

namespace Sys2Proof.Machine

/-! ## The record of a sitting that takes its part -/

section Own
variable {s : State} {n : Nat} {x y z : Sitting} {q : Cue}

/-- A sitting's record before and after its part of the second (R65, R67, R77). -/
structure Sitting.SecondTaken (held : Bool) (x y : Sitting) : Prop where
  reading : x.state = .reading → held = false → y.elapsedReading = x.elapsedReading + 1
    ∧ (x.elapsedReading + 1 = x.reading → y.state ≠ .reading ∧ y.sel = 0)
    ∧ (x.elapsedReading + 1 ≠ x.reading → y = { x with elapsedReading := x.elapsedReading + 1 })
  writing : x.state = .writing → held = false → y.sel = (if x.sel < 57600 then x.sel + 1 else x.sel)
  paused : x.state = .reading ∨ x.state = .writing → held = true → y.pauseAcc = x.pauseAcc + 1 ∧ y.sel = x.sel
    ∧ y.elapsedReading = x.elapsedReading
    ∧ (y.disrupted = true ↔ x.disrupted = true ∨ (0 < x.pauseLimit ∧ x.pauseAcc + 1 = x.pauseLimit))

/-- What the candidates' part does to a sitting takes nothing of it back. -/
theorem Sitting.SecondTaken.of_plain {held : Bool} (h : Sitting.SecondTaken held x y) (hplain : z.plain = y.plain)
    (hreading : x.state = .reading → z = y) : Sitting.SecondTaken held x z where
  reading := fun hstate hheld => by rw [hreading hstate]; exact h.reading hstate hheld
  writing := fun hstate hheld => ((congrArg Sitting.sel hplain :) : z.sel = y.sel).trans (h.writing hstate hheld)
  paused := fun hstate hheld => by
    obtain ⟨hacc, hsel, helapsed, hdisrupted⟩ := h.paused hstate hheld
    have hzacc : z.pauseAcc = y.pauseAcc := (congrArg Sitting.pauseAcc hplain :)
    have hzsel : z.sel = y.sel := (congrArg Sitting.sel hplain :)
    have hzelapsed : z.elapsedReading = y.elapsedReading := (congrArg Sitting.elapsedReading hplain :)
    have hzdisrupted : z.disrupted = y.disrupted := (congrArg Sitting.disrupted hplain :)
    exact ⟨hzacc.trans hacc, hzsel.trans hsel, hzelapsed.trans helapsed, hzdisrupted ▸ hdisrupted⟩

theorem State.mapSitting_sitting?_self (hx : s.sitting? n = some x) {f : Sitting → Sitting}
    (hf : ∀ y, (f y).number = y.number) : (s.mapSitting n f).sitting? n = some (f x) := by
  rw [State.mapSitting_sitting? s n n f hf, if_pos rfl, hx, Option.map_some]

theorem State.heldSecond_sitting? (hx : s.sitting? n = some x) : ∃ y, (s.heldSecond x).sitting? n = some y
    ∧ y.pauseAcc = x.pauseAcc + 1 ∧ y.sel = x.sel ∧ y.elapsedReading = x.elapsedReading
    ∧ (y.disrupted = true ↔ x.disrupted = true ∨ (0 < x.pauseLimit ∧ x.pauseAcc + 1 = x.pauseLimit)) := by
  obtain rfl := State.number_of_sitting? hx
  have hcounted := State.mapSitting_sitting?_self hx (f := fun y => { y with pauseAcc := x.pauseAcc + 1 }) (fun _ => rfl)
  by_cases hlimit : 0 < x.pauseLimit ∧ ¬ x.disrupted = true ∧ x.pauseAcc + 1 = x.pauseLimit
  · have hdisrupted := State.mapSitting_sitting?_self hcounted (f := fun y => { y with disrupted := true }) (fun _ => rfl)
    refine ⟨{ x with pauseAcc := x.pauseAcc + 1, disrupted := true }, ?_, rfl, rfl, rfl, ?_⟩
    · rw [State.heldSecond, if_pos hlimit]
      exact (congrArg (fun h => h.sittings.find? (fun y => y.number == x.number)) (State.offer_hall ..)).trans hdisrupted
    · exact ⟨fun _ => .inr ⟨hlimit.1, hlimit.2.2⟩, fun _ => rfl⟩
  · refine ⟨{ x with pauseAcc := x.pauseAcc + 1 }, ?_, rfl, rfl, rfl, ?_⟩
    · rw [State.heldSecond, if_neg hlimit]
      exact hcounted
    · refine ⟨.inl, fun h => ?_⟩
      obtain h | ⟨hpos, hacc⟩ := h
      · exact h
      · by_contra hnot
        exact hlimit ⟨hpos, hnot, hacc⟩

theorem State.closedTest_state (hx : s.sitting? n = some x) (hstate : x.state ≠ .reading) :
    ∃ y, (s.closedTest n).sitting? n = some y ∧ y.state ≠ .reading := by
  by_cases h : x.state = .collecting ∧ x.counts.finished = 0
  · rw [State.closedTest_of_ends hx h.1 h.2, State.sitting?, State.offer_hall]
    have hclosed := State.mapSitting_sitting?_self hx (f := fun y => { y with state := .closed }) (fun _ => rfl)
    exact ⟨_, hclosed, SittingState.noConfusion⟩
  · rw [State.closedTest_of_stays hx h]
    exact ⟨x, hx, hstate⟩

/-- No sitting test takes a sitting to READING. -/
theorem State.sittingTests_state (hx : s.sitting? n = some x) (hstate : x.state ≠ .reading) :
    ∃ y, (s.sittingTests n).sitting? n = some y ∧ y.state ≠ .reading := by
  by_cases h : x.state = .writing ∧ x.counts.nobodyLeft = true
  · rw [State.sittingTests_of_collecting hx h.1 h.2]
    exact State.closedTest_state (State.collecting_sitting? hx) SittingState.noConfusion
  · rw [State.sittingTests_of_not_collecting hx h]
    exact State.closedTest_state hx hstate

theorem State.fireAtStart_state (n : Nat) (s : State) (q : Cue) :
    Frame Sitting.state (fun _ => True) (fun _ => True) s (State.fireAtStart n s q) := by
  have hpassed := s.mapSitting_frame (π := Sitting.state) (S := fun _ => True) (C := fun _ => True) (n := n) trivial
    (f := fun y => { y with elapsedPtr := y.elapsedPtr + 1 }) (fun _ => ⟨rfl, rfl, rfl⟩)
  exact hpassed.trans (State.elapsedEffect_frame _ trivial
    (fun _ => State.closeDoors_frame _ trivial (fun _ _ _ _ _ => trivial) (fun _ _ => rfl) (fun _ => rfl)) (fun _ => rfl))

/-- A start of writing leaves its sitting with S_el 0, its reading time counted, and out of READING. -/
theorem State.startOfWriting_sitting? (hx : s.sitting? n = some x) : ∃ y, (s.startOfWriting n).sitting? n = some y
    ∧ y.state ≠ .reading ∧ y.sel = 0 ∧ y.elapsedReading = x.elapsedReading := by
  obtain ⟨b, hb, hbegun⟩ := State.begun_sitting? hx
  have hwriting : b.state = .writing := (congrArg Sitting.state hbegun :)
  have hfires : Frame Sitting.state (fun _ => True) (fun _ => True) (s.begun n)
      (State.fireDueElapsed State.fireAtStart (s.begun n) n) := by
    unfold State.fireDueElapsed
    split
    · exact Frame.foldl _ _ fun u q _ _ => State.fireAtStart_state n u q
    · exact .refl _
  obtain ⟨z, hz, hzstate⟩ := hfires.sitting hb
  have hz' : z.state ≠ .reading := by rw [hzstate, hwriting]; exact SittingState.noConfusion
  obtain ⟨y, hy, hystate⟩ := State.sittingTests_state hz hz'
  have hstart := State.mapSitting_sitting?_self hx (f := fun x => { x with state := .writing, sel := 0 }) (fun _ => rfl)
  obtain ⟨w, hw, htimed⟩ := (State.startedWriting_frame (S := fun _ => True) (C := fun _ => True) _ (n := n) trivial
    (fun _ _ _ _ _ => trivial)).sitting hstart
  obtain rfl := Option.some.inj (hy.symm.trans hw)
  exact ⟨y, hy, hystate, (congrArg Sitting.sel htimed :), (congrArg Sitting.elapsedReading htimed :)⟩

theorem State.writingSecond_sitting? (hx : s.sitting? n = some x) : ∃ y, (s.writingSecond x).sitting? n = some y
    ∧ y.sel = if x.sel < 57600 then x.sel + 1 else x.sel := by
  obtain rfl := State.number_of_sitting? hx
  by_cases hsel : x.sel < 57600
  · have hmax : x.sel < Config.maxElapsed := hsel
    have hcounted := State.mapSitting_sitting?_self hx (f := fun y => { y with sel := y.sel + 1 }) (fun _ => rfl)
    have hfired := State.fireDueElapsed_frame (S := fun _ => True) (C := fun _ => True) (fire := State.fireElapsed)
      (n := x.number) (s.mapSitting x.number (fun y => { y with sel := y.sel + 1 }))
      (fun u q _ => u.fireElapsed_frame trivial (fun _ _ _ _ _ => trivial) q)
    have hclosed := hfired.trans (State.defaultClose_frame _ (n := x.number) trivial (fun _ _ _ _ _ => trivial))
    obtain ⟨y, hy, htimed⟩ := hclosed.sitting hcounted
    refine ⟨y, ?_, ?_⟩
    · rw [State.writingSecond, if_pos hmax]
      exact hy
    · rw [if_pos hsel]
      exact (congrArg Sitting.sel htimed :)
  · have hmax : ¬ x.sel < Config.maxElapsed := hsel
    rw [State.writingSecond, if_neg hmax, if_neg hsel]
    exact ⟨x, hx, rfl⟩

theorem State.tickSitting_sitting? (hx : s.sitting? n = some x) :
    ∃ y, (s.tickSitting n).sitting? n = some y ∧ Sitting.SecondTaken (s.held n) x y := by
  by_cases hphase : x.state = .reading ∨ x.state = .writing
  · cases hheld : s.held n with
    | true =>
      obtain ⟨y, hy, hpaused⟩ := State.heldSecond_sitting? hx
      rw [State.tickSitting_of_held hx hphase hheld]
      exact ⟨y, hy, fun _ h => absurd h Bool.noConfusion, fun _ h => absurd h Bool.noConfusion, fun _ _ => hpaused⟩
    | false =>
      obtain hreading | hwriting := hphase
      · have hcounted := State.mapSitting_sitting?_self hx
          (f := fun y => { y with elapsedReading := x.elapsedReading + 1 }) (fun _ => rfl)
        rw [State.tickSitting_of_reading hx hreading hheld, State.readingSecond, State.number_of_sitting? hx]
        by_cases hlast : x.elapsedReading + 1 = x.reading
        · obtain ⟨y, hy, hstate, hsel, helapsed⟩ := State.startOfWriting_sitting? hcounted
          simp only [if_pos hlast]
          exact ⟨y, hy, fun _ _ => ⟨helapsed, fun _ => ⟨hstate, hsel⟩, fun h => absurd hlast h⟩,
            fun h => absurd (hreading.symm.trans h) SittingState.noConfusion, fun _ h => absurd h Bool.noConfusion⟩
        · simp only [if_neg hlast]
          exact ⟨_, hcounted, fun _ _ => ⟨rfl, fun h => absurd h hlast, fun _ => rfl⟩,
            fun h => absurd (hreading.symm.trans h) SittingState.noConfusion, fun _ h => absurd h Bool.noConfusion⟩
      · obtain ⟨y, hy, hsel⟩ := State.writingSecond_sitting? hx
        rw [State.tickSitting_of_writing hx hwriting hheld]
        exact ⟨y, hy, fun h => absurd (hwriting.symm.trans h) SittingState.noConfusion, fun _ _ => hsel, fun _ h => absurd h Bool.noConfusion⟩
  · rw [State.tickSitting_of_idle hx (fun h => hphase (.inl h)) (fun h => hphase (.inr h))]
    exact ⟨x, hx, fun h => absurd (.inl h) hphase, fun h => absurd (.inr h) hphase, fun h => absurd h hphase⟩

end Own

/-! ## Every sitting has taken its part -/

section All
variable {s : State} {i n : Nat} {c : Cand} {x : Sitting}

/-- The numbers of the sittings, in the table's order. -/
def State.sittingNumbers (s : State) : List Nat := s.hall.sittings.map (fun x => x.number)

theorem State.TablesOrdered.nodup_sittingNumbers (h : s.TablesOrdered) : s.sittingNumbers.Nodup :=
  List.pairwise_map.mpr (h.sittings.imp fun hlt => Nat.ne_of_lt hlt)

theorem State.mem_sittingNumbers (hx : s.sitting? n = some x) : n ∈ s.sittingNumbers := by
  obtain ⟨hmem, rfl⟩ := State.mem_of_sitting? hx
  exact List.mem_map_of_mem hmem

theorem State.TablesOrdered.sitting?_of_mem (h : s.TablesOrdered) (hx : x ∈ s.hall.sittings) :
    s.sitting? x.number = some x := by
  have hsome : (s.sitting? x.number).isSome = true :=
    List.find?_isSome.mpr ⟨x, hx, beq_self_eq_true x.number⟩
  obtain ⟨y, hy⟩ := Option.isSome_iff_exists.mp hsome
  rw [hy, h.eq_sitting hy hx rfl]

/-- The state in which the sittings have taken the second. -/
def State.afterSittings (s : State) : State := s.sittingsSecond s.sittingNumbers

theorem State.afterSittings_frame (s : State) : Frame Sitting.cued (fun _ => True) (s.YoungIn fun _ => True) s s.afterSittings :=
  State.sittingsSecond_frame (.refl s) _ (fun _ _ => trivial)

/-- A sitting that has not yet taken the second takes its part. -/
theorem State.afterSittings_sitting? (h : s.TablesOrdered) (hx : s.sitting? n = some x)
    (hahead : TickKey.sitting n ∉ s.clock.ahead) :
    ∃ y, s.afterSittings.sitting? n = some y ∧ Sitting.SecondTaken (s.held n) x y := by
  obtain ⟨a, ha, hb⟩ := State.sittingsSecond_split (State.mem_sittingNumbers hx) h.nodup_sittingNumbers
  have hax : a.sitting? n = some x := (ha.sittings n (fun h => h rfl)).trans hx
  have hnot : TickKey.sitting n ∉ a.clock.ahead := fun hmem => by
    obtain h | ⟨m, hm, heq⟩ | ⟨j, -, heq⟩ := ha.ahead_new _ hmem
    · exact hahead h
    · cases heq
      exact hm rfl
    · cases heq
  obtain ⟨y, hy, htaken⟩ := State.tickSitting_sitting? (s := a.markAhead (.sitting n)) hax
  have hheld : (a.markAhead (.sitting n)).held n = s.held n := ha.held n
  rw [State.second_of_not_ahead hnot] at hb
  exact ⟨y, (hb.sittings n (fun h => h rfl)).trans hy, hheld ▸ htaken⟩

/-- A candidate that has begun, or that never will, is as it was. -/
theorem State.afterSittings_old (hc : s.cand? i = some c) (hold : c.state.young = false) :
    s.afterSittings.cand? i = some c ∧ (TickKey.cand i ∈ s.afterSittings.clock.ahead → TickKey.cand i ∈ s.clock.ahead)
    ∧ (i ∈ s.afterSittings.clock.restEnded ↔ i ∈ s.clock.restEnded) := by
  have hframe := s.afterSittings_frame
  have hnot : ¬ s.YoungIn (fun _ => True) i := fun ⟨d, hd, _, hyoung⟩ => by
    obtain rfl := Option.some.inj (hc.symm.trans hd)
    rw [hold] at hyoung
    cases hyoung
  refine ⟨(hframe.cands i hnot).trans hc, fun hmem => ?_, fun hmem => ?_, hframe.ended_old i⟩
  · obtain h | ⟨m, -, heq⟩ | ⟨j, hj, heq⟩ := hframe.ahead_new _ hmem
    · exact h
    · cases heq
    · cases heq
      exact absurd hj hnot
  · exact (hframe.ended_new i hmem).resolve_right hnot

/-- A candidate after every sitting has taken its part. -/
theorem State.afterSittings_cand? (h : s.TablesOrdered) (hc : s.cand? i = some c) :
    (c.state = .admitted → s.ReadingEnds c.sitting → TickKey.sitting c.sitting ∉ s.clock.ahead →
      s.afterSittings.cand? i = some c.writingNow ∧ TickKey.cand i ∈ s.afterSittings.clock.ahead)
    ∧ (¬ (c.state = .admitted ∧ s.ReadingEnds c.sitting ∧ TickKey.sitting c.sitting ∉ s.clock.ahead) →
      ∃ d, s.afterSittings.cand? i = some d ∧ c.Shut d) := by
  have hnot : ¬ s.YoungIn (fun n => n ≠ c.sitting) i := fun ⟨d, hd, hne, _⟩ => by
    obtain rfl := Option.some.inj (hc.symm.trans hd)
    exact hne rfl
  cases hx : s.sitting? c.sitting with
  | none =>
    have hframe : Frame Sitting.cued (· ≠ c.sitting) (s.YoungIn (· ≠ c.sitting)) s s.afterSittings :=
      State.sittingsSecond_frame (.refl s) _ fun n hn heq => by
        obtain ⟨y, hy, rfl⟩ := List.mem_map.mp hn
        have hy' := h.sitting?_of_mem hy
        rw [heq, hx] at hy'
        cases hy'
    refine ⟨fun _ ⟨y, hy, _⟩ => ?_, fun _ => ⟨c, (hframe.cands i hnot).trans hc, .inl rfl⟩⟩
    rw [hx] at hy
    cases hy
  | some x =>
    obtain ⟨a, ha, hb⟩ := State.sittingsSecond_split (State.mem_sittingNumbers hx) h.nodup_sittingNumbers
    have hac : a.cand? i = some c := (ha.cands i hnot).trans hc
    have hbefore : TickKey.sitting c.sitting ∈ a.clock.ahead ↔ TickKey.sitting c.sitting ∈ s.clock.ahead := by
      refine ⟨fun hmem => ?_, ha.ahead_old _⟩
      obtain h | ⟨m, hm, heq⟩ | ⟨j, -, heq⟩ := ha.ahead_new _ hmem
      · exact h
      · cases heq
        exact absurd rfl hm
      · cases heq
    have hends : (a.markAhead (.sitting c.sitting)).ReadingEnds c.sitting ↔ s.ReadingEnds c.sitting := by
      have hsitting : (a.markAhead (.sitting c.sitting)).sitting? c.sitting = s.sitting? c.sitting :=
        ha.sittings _ (fun h => h rfl)
      have hheld : (a.markAhead (.sitting c.sitting)).held c.sitting = s.held c.sitting := ha.held _
      rw [State.ReadingEnds, State.ReadingEnds, hsitting, hheld]
    by_cases hahead : TickKey.sitting c.sitting ∈ s.clock.ahead
    · rw [State.second_of_ahead (hbefore.mpr hahead)] at hb
      exact ⟨fun _ _ h => absurd hahead h, fun _ => ⟨c, (hb.cands i hnot).trans hac, .inl rfl⟩⟩
    · rw [State.second_of_not_ahead (mt hbefore.mp hahead)] at hb
      obtain ⟨hbegins, hshut⟩ := State.tickSitting_cand? (s := a.markAhead (.sitting c.sitting)) (i := i)
        (List.mem_append_right _ (List.mem_singleton.mpr rfl)) hac rfl
      refine ⟨fun hadmitted hend _ => ?_, fun hno => ?_⟩
      · obtain ⟨hd, hjoined⟩ := hbegins hadmitted (hends.mpr hend)
        exact ⟨(hb.cands i hnot).trans hd, hb.ahead_old _ hjoined⟩
      · obtain ⟨d, hd, hcd⟩ := hshut fun ⟨hadmitted, hend⟩ => hno ⟨hadmitted, hends.mp hend, hahead⟩
        exact ⟨d, (hb.cands i hnot).trans hd, hcd⟩

end All

end Sys2Proof.Machine
end

section
/-! SUPPORT. The candidates' part of the second (R70 to R73). -/

namespace Sys2Proof.Machine

/-! ## What a candidate's part does to its record -/

section Tick
variable {s : State} {i n : Nat} {c : Cand} {x : Sitting} {q : Cue}

theorem State.showCand_cand? (s : State) (i j : Nat) (code : Option DispCode) : (s.showCand i code).cand? j = s.cand? j :=
  (s.showCand_frame (π := Sitting.plain) (S := fun _ => False) (C := fun _ => False) i code).cands j id

/-- A candidate whose remaining cues have fired (R71). -/
def Cand.fired (c : Cand) (l : List Cue) : Cand :=
  { c with cuePtr := c.cuePtr + l.length, exitClosed := c.exitClosed || l.any (fun q => decide (q.kind = .exitClose)) }

theorem State.fireRemaining_cand? (hc : s.cand? i = some c) (q : Cue) :
    (State.fireRemaining i s q).cand? i = some (c.fired [q]) := by
  have hpassed := State.mapCand_cand?_self hc (fun c => { c with cuePtr := c.cuePtr + 1 })
  unfold State.fireRemaining Cand.fired
  cases hk : q.kind with
  | warn => simpa [hk, State.showCand_cand?] using hpassed
  | note => simpa [hk, State.showCand_cand?] using hpassed
  | exitClose =>
    have hclosed := State.mapCand_cand?_self hpassed (fun c => { c with exitClosed := true })
    simpa [hk, State.showCand_cand?] using hclosed
  | lastEntry => simpa [hk] using hpassed
  | exitOpen => simpa [hk] using hpassed

theorem State.foldl_fireRemaining_cand? (l : List Cue) : ∀ (s : State) (c : Cand), s.cand? i = some c →
    (l.foldl (State.fireRemaining i) s).cand? i = some (c.fired l) := by
  induction l with
  | nil => exact fun s c hc => by simpa [Cand.fired] using hc
  | cons q l ih =>
    intro s c hc
    rw [List.foldl_cons, ih _ _ (State.fireRemaining_cand? hc q)]
    simp [Cand.fired, Bool.or_assoc]
    omega

theorem State.consume_cand?_of_left (hc : s.cand? i = some c) (h : c.consumed + 1 ≠ c.entitled) :
    (s.consume i c).cand? i =
      some (Cand.fired { c with consumed := c.consumed + 1 } (s.cuesDue c (c.entitled - (c.consumed + 1)))) := by
  have hcounted := State.mapCand_cand?_self hc (fun d => { d with consumed := c.consumed + 1 })
  have hfired := State.foldl_fireRemaining_cand? (s.cuesDue c (c.entitled - (c.consumed + 1))) _ _ hcounted
  rw [State.consume_of_left h]
  dsimp only
  split
  · rw [State.showCand_cand?]
    exact hfired
  · exact hfired

/-- An entry of the candidate is ISSUED. -/
def State.waits (s : State) (i : Nat) : Bool := s.custody.any (fun e => decide (e.cand = some i) && decide (e.state = .issued))

theorem State.waits_iff (s : State) (i : Nat) : s.waits i = true ↔ ∃ e ∈ s.custody, e.cand = some i ∧ e.state = .issued := by
  simp [State.waits]

/-- A finished candidate after its collection test (R72, R109). -/
theorem State.finishCand_cand? (hc : s.cand? i = some c) (cause : FinishCause) : ∃ d, (s.finishCand i cause).cand? i = some d
    ∧ d.consumed = c.consumed ∧ d.cause = some cause ∧ d.state = (if s.waits i then .finished else .collected)
    ∧ d.seat = if s.waits i then c.seat else none := by
  obtain ⟨len, hlen⟩ : ∃ len, s.remainingCount c = len := ⟨_, rfl⟩
  have hmoved : (s.setCandState i .finished).mapCand i (fun d =>
      { d with cause := some cause, cuePtr := max d.cuePtr len }) =
      s.moveCandTo i c { c with state := .finished, cause := some cause, cuePtr := max c.cuePtr len } :=
    State.setCandState_mapCand_eq hc _ rfl
  obtain ⟨v, hv⟩ : ∃ v, v = ((s.moveCandTo i c
    { c with state := .finished, cause := some cause, cuePtr := max c.cuePtr len }).showCand i).notifyCollect i := ⟨_, rfl⟩
  have heq : s.finishCand i cause = (v.collectionTest i).sittingTests c.sitting := by
    simp only [State.finishCand, hc, hlen, hmoved, hv]
  have hframe : Frame Sitting.plain (fun _ => True) (fun _ => False) (s.moveCandTo i c
      { c with state := .finished, cause := some cause, cuePtr := max c.cuePtr len }) v :=
    hv ▸ (State.showCand_frame _ i none).trans (State.notifyCollect_frame _ i)
  have hcand : v.cand? i = some { c with state := .finished, cause := some cause, cuePtr := max c.cuePtr len } :=
    (hframe.cands i id).trans (State.moveCandTo_cand? hc _)
  have hwaits : v.waits i = s.waits i := congrArg (fun l : List Custody =>
    l.any (fun e => decide (e.cand = some i) && decide (e.state = .issued))) hframe.custody
  rw [heq, State.sittingTests_cand?, ← hwaits]
  cases h : v.waits i with
  | true =>
    rw [State.collectionTest_of_stays hcand (.inr ((v.waits_iff i).mp h))]
    exact ⟨_, hcand, rfl, rfl, rfl, rfl⟩
  | false =>
    have hall : ∀ e ∈ v.custody, e.cand = some i → e.state ≠ .issued := fun e he hmine hissued =>
      Bool.false_ne_true (h.symm.trans ((v.waits_iff i).mpr ⟨e, he, hmine, hissued⟩))
    have hcollected : (v.collected i c.sitting).cand? i = some
        { c with state := .collected, cause := some cause, cuePtr := max c.cuePtr len,
                 nilScript := c.nilScript || v.allVoid i } := by
      rw [State.collected, State.mapSitting_cand?]
      exact State.mapCand_cand?_self hcand _
    rw [State.collectionTest_of_collectable hcand rfl hall, State.sittingTests_cand?, State.cand?,
      State.offerCustodyClose_hall]
    exact ⟨_, State.releaseCand_cand? hcollected, rfl, rfl, rfl, rfl⟩

theorem State.leaveRest_cand? (hc : s.cand? i = some c) (n : Nat) (code : Option DispCode) :
    (s.leaveRest i n code).cand? i = some { c with state := .writing } := by
  have hset : (s.setCandState i .writing).cand? i = some { c with state := .writing } := by
    rw [State.setCandState_eq hc]
    exact State.moveCandTo_cand? hc _
  rw [State.leaveRest, State.sittingTests_cand?]
  exact (State.showCand_cand? _ i i code).trans hset

theorem State.restSecond_cand? (hc : s.cand? i = some c) : (s.restSecond i c).cand? i =
    some (if c.restUsed + 1 = c.restBudget then { c with restUsed := c.restBudget, state := .writing }
      else { c with restUsed := c.restUsed + 1 }) := by
  by_cases h : c.restUsed + 1 = c.restBudget
  · rw [State.restSecond_of_used h, if_pos h]
    exact State.leaveRest_cand? (State.mapCand_cand?_self hc (fun d => { d with restUsed := c.restBudget })) _ _
  · rw [State.restSecond_of_left h, if_neg h]
    exact State.mapCand_cand?_self hc _

end Tick

/-! ## Every candidate has taken its part -/

section All
variable {S : Nat → Prop} {s : State} {i n : Nat} {c d : Cand} {x : Sitting}

/-- Every candidate that may still take a part of the second in its state is of a sitting of `S`. -/
def State.ActiveIn (s : State) (S : Nat → Prop) : Prop := ∀ j c, s.cand? j = some c →
  c.state = .writing ∨ c.state = .resting → TickKey.cand j ∉ s.clock.ahead → S c.sitting

theorem State.tickCand_of_none (hc : s.cand? i = none) : s.tickCand i = s := by
  simp only [State.tickCand, hc]

/-- One candidate's part of the second touches its own record, and its sitting where it is at its paper. -/
theorem State.second_cand_of_active (h : s.ActiveIn S) (i : Nat) :
    Frame Sitting.plain S (fun j => j = i) s (s.second (.cand i)) ∧ (s.second (.cand i)).ActiveIn S := by
  have hframe : Frame Sitting.plain S (fun j => j = i) s (s.second (.cand i))
      ∧ TickKey.cand i ∈ (s.second (.cand i)).clock.ahead := by
    by_cases hahead : TickKey.cand i ∈ s.clock.ahead
    · rw [State.second_of_ahead hahead]
      exact ⟨.refl s, hahead⟩
    · have hmarked := s.markAhead_cand_frame (π := Sitting.plain) (S := S) (C := fun j => j = i) (i := i) rfl
      have htick : Frame Sitting.plain S (fun j => j = i) (s.markAhead (.cand i)) ((s.markAhead (.cand i)).tick (.cand i)) := by
        show Frame Sitting.plain S (fun j => j = i) (s.markAhead (.cand i)) ((s.markAhead (.cand i)).tickCand i)
        cases hc : s.cand? i with
        | none =>
          rw [State.tickCand_of_none (s := s.markAhead (.cand i)) hc]
          exact .refl _
        | some c =>
          by_cases hactive : c.state = .writing ∨ c.state = .resting
          · refine State.tickCand_frame _ rfl fun d hd => ?_
            obtain rfl := Option.some.inj (hc.symm.trans hd)
            exact h i c hc hactive hahead
          · rw [State.tickCand_of_other (s := s.markAhead (.cand i)) hc (fun h => hactive (.inl h)) (fun h => hactive (.inr h))]
            exact .refl _
      rw [State.second_of_not_ahead hahead]
      exact ⟨hmarked.trans htick, htick.ahead_old _ (List.mem_append_right _ (List.mem_singleton.mpr rfl))⟩
  refine ⟨hframe.1, fun j c hc hactive hahead => ?_⟩
  have hne : j ≠ i := fun h => hahead (h ▸ hframe.2)
  exact h j c ((hframe.1.cands j hne).symm.trans hc) hactive (fun hmem => hahead (hframe.1.ahead_old _ hmem))

/-- The candidates of a list take their part of the second. -/
def State.candsSecond (s : State) (l : List Nat) : State := l.foldl (fun u i => u.second (.cand i)) s

theorem State.candsSecond_frame {p : Nat → Prop} (h : s.ActiveIn S) (l : List Nat) (hl : ∀ i ∈ l, p i) :
    Frame Sitting.plain S p s (s.candsSecond l) ∧ (s.candsSecond l).ActiveIn S :=
  Frame.foldl_keeping (P := fun u => u.ActiveIn S) l (fun u i hi hu => by
    obtain ⟨hframe, hactive⟩ := State.second_cand_of_active hu i
    exact ⟨hframe.mono (fun _ h => h) (fun j hj => hj ▸ hl i hi), hactive⟩) s h

/-- The state in which the sittings and the candidates have taken the second. -/
def State.afterCands (s : State) : State := s.candsSecond (List.range s.hall.cands.length)

theorem State.afterCands_frame (h : s.ActiveIn S) : Frame Sitting.plain S (fun _ => True) s s.afterCands :=
  (State.candsSecond_frame h _ (fun _ _ => trivial)).1

theorem State.mem_range_of_cand? (hc : s.cand? i = some c) : i ∈ List.range s.hall.cands.length :=
  List.mem_range.mpr (List.getElem?_eq_some_iff.mp hc).1

/-- What a candidate's part of the second reads beside the candidate's record, as it was in an earlier state. -/
structure State.Before (s b : State) (i : Nat) : Prop where
  held : ∀ n, b.held n = s.held n
  ended : i ∈ b.clock.restEnded ↔ i ∈ s.clock.restEnded
  custody : b.custody = s.custody
  kept : ∀ n, (b.sitting? n).map Sitting.cued = (s.sitting? n).map Sitting.cued

/-- A candidate keeps its record where it has taken the second, and else takes its part in a state that the others
have left it alone in. -/
theorem State.afterCands_cand? (h : s.ActiveIn S) (hc : s.cand? i = some c) :
    (TickKey.cand i ∈ s.clock.ahead → s.afterCands.cand? i = some c)
    ∧ (TickKey.cand i ∉ s.clock.ahead → ∃ b : State, s.afterCands.cand? i = (b.tickCand i).cand? i ∧ b.cand? i = some c
      ∧ s.Before b i) := by
  obtain ⟨l1, l2, hl⟩ := List.append_of_mem (State.mem_range_of_cand? hc)
  have hnodup : (l1 ++ i :: l2).Nodup := hl ▸ List.nodup_range
  obtain ⟨-, hright, hdisjoint⟩ := List.nodup_append.mp hnodup
  have hbefore : ∀ m ∈ l1, m ≠ i := fun m hm heq => hdisjoint m hm i (List.mem_cons_self ..) heq
  have hafter : ∀ m ∈ l2, m ≠ i := fun m hm heq => (List.nodup_cons.mp hright).1 (heq ▸ hm)
  obtain ⟨ha, hactive⟩ := State.candsSecond_frame h l1 hbefore
  obtain ⟨-, hactive'⟩ := State.second_cand_of_active hactive i
  obtain ⟨hrest, -⟩ := State.candsSecond_frame hactive' l2 hafter
  have happend : s.afterCands = ((s.candsSecond l1).second (.cand i)).candsSecond l2 := by
    rw [State.afterCands, hl]
    exact List.foldl_append ..
  have hend : s.afterCands.cand? i = ((s.candsSecond l1).second (.cand i)).cand? i :=
    happend ▸ hrest.cands i (fun h => h rfl)
  have hac : (s.candsSecond l1).cand? i = some c := (ha.cands i (fun h => h rfl)).trans hc
  refine ⟨fun hahead => ?_, fun hahead => ?_⟩
  · rw [hend, State.second_of_ahead (ha.ahead_old _ hahead), hac]
  · have hnot : TickKey.cand i ∉ (s.candsSecond l1).clock.ahead := fun hmem => by
      obtain h | ⟨m, -, heq⟩ | ⟨j, hj, heq⟩ := ha.ahead_new _ hmem
      · exact hahead h
      · cases heq
      · cases heq
        exact hj rfl
    rw [State.second_of_not_ahead hnot] at hend
    exact ⟨(s.candsSecond l1).markAhead (.cand i), hend, hac, ha.held,
      ⟨fun hmem => (ha.ended_new i hmem).resolve_right (fun h => h rfl), ha.ended_old i⟩, ha.custody,
      ha.timed_of_plain.cued_of_timed.kept⟩

end All

end Sys2Proof.Machine
end

section
/-! SUPPORT. The hall second as a whole (R1, section 4.7). -/

namespace Sys2Proof.Machine

/-! ## Each candidate after the second -/

section Cands
variable {s : State} {i n : Nat} {c d : Cand} {x : Sitting}

/-- The sitting of a number is in WRITING. -/
def State.WritingNow (s : State) (n : Nat) : Prop := ∃ x, s.sitting? n = some x ∧ x.state = .writing

/-- The state in which every sitting and every candidate has taken the second. -/
def State.afterAll (s : State) : State := s.afterSittings.afterCands

theorem State.afterSittings_active (hordered : s.TablesOrdered) (hphases : s.PhasesAgree) :
    s.afterSittings.ActiveIn s.WritingNow := fun j d hd hactive hahead => by
  obtain ⟨c, hc, -, hsitting⟩ := s.afterSittings_frame.cand_before hd
  cases hyoung : c.state.young with
  | false =>
    obtain ⟨hkept, -, -⟩ := State.afterSittings_old hc hyoung
    obtain rfl := Option.some.inj (hd.symm.trans hkept)
    obtain ⟨x, hx, hnumber, hwriting⟩ := hphases.writing d (List.mem_of_getElem? hc) hactive
    exact ⟨x, hnumber ▸ hordered.sitting?_of_mem hx, hwriting⟩
  | true =>
    obtain ⟨hbegins, hshut⟩ := State.afterSittings_cand? hordered hc
    by_cases h : c.state = .admitted ∧ s.ReadingEnds c.sitting ∧ TickKey.sitting c.sitting ∉ s.clock.ahead
    · exact absurd (hbegins h.1 h.2.1 h.2.2).2 hahead
    · obtain ⟨e, he, hce⟩ := hshut h
      obtain rfl := Option.some.inj (hd.symm.trans he)
      obtain rfl | ⟨-, rfl⟩ := hce
      · obtain h | h := hactive <;> rw [h] at hyoung <;> cases hyoung
      · obtain h | h := hactive <;> cases h

theorem State.afterAll_frame (hordered : s.TablesOrdered) (hphases : s.PhasesAgree) :
    Frame Sitting.cued (fun _ => True) (fun _ => True) s s.afterAll :=
  (s.afterSittings_frame.mono (fun _ h => h) (fun _ _ => trivial)).trans
    ((State.afterCands_frame (State.afterSittings_active hordered hphases)).timed_of_plain.cued_of_timed.mono
      (fun _ _ => trivial) (fun _ h => h))

/-- A candidate that has begun or that never will takes its part on its own record alone. -/
theorem State.afterAll_old (hordered : s.TablesOrdered) (hphases : s.PhasesAgree) (hc : s.cand? i = some c)
    (hold : c.state.young = false) :
    (TickKey.cand i ∈ s.clock.ahead → s.afterAll.cand? i = some c)
    ∧ (TickKey.cand i ∉ s.clock.ahead → ∃ b : State, s.afterAll.cand? i = (b.tickCand i).cand? i ∧ b.cand? i = some c
      ∧ s.Before b i) := by
  obtain ⟨hkept, hnew, hended⟩ := State.afterSittings_old hc hold
  obtain ⟨htaken, hticks⟩ := State.afterCands_cand? (State.afterSittings_active hordered hphases) hkept
  refine ⟨fun h => htaken (s.afterSittings_frame.ahead_old _ h), fun h => ?_⟩
  obtain ⟨b, hb, hbc, hbefore⟩ := hticks (fun hmem => h (hnew hmem))
  exact ⟨b, hb, hbc, fun n => (hbefore.held n).trans (s.afterSittings_frame.held n), hbefore.ended.trans hended,
    hbefore.custody.trans s.afterSittings_frame.custody, fun n => (hbefore.kept n).trans (s.afterSittings_frame.kept n)⟩

/-- A candidate that has not begun takes the second with its sitting alone. -/
theorem State.afterAll_young (hordered : s.TablesOrdered) (hphases : s.PhasesAgree) (hc : s.cand? i = some c)
    (hyoung : c.state.young = true) : s.afterAll.cand? i = s.afterSittings.cand? i := by
  obtain ⟨hbegins, hshut⟩ := State.afterSittings_cand? hordered hc
  have hactive := State.afterSittings_active hordered hphases
  by_cases h : c.state = .admitted ∧ s.ReadingEnds c.sitting ∧ TickKey.sitting c.sitting ∉ s.clock.ahead
  · obtain ⟨hd, hahead⟩ := hbegins h.1 h.2.1 h.2.2
    rw [hd]
    exact (State.afterCands_cand? hactive hd).1 hahead
  · obtain ⟨d, hd, hcd⟩ := hshut h
    rw [hd]
    by_cases hahead : TickKey.cand i ∈ s.afterSittings.clock.ahead
    · exact (State.afterCands_cand? hactive hd).1 hahead
    · obtain ⟨b, hb, hbd, -⟩ := (State.afterCands_cand? hactive hd).2 hahead
      have hother : d.state ≠ .writing ∧ d.state ≠ .resting := by
        obtain rfl | ⟨-, rfl⟩ := hcd
        · exact ⟨fun h => (by rw [h] at hyoung; cases hyoung), fun h => (by rw [h] at hyoung; cases hyoung)⟩
        · exact ⟨CandState.noConfusion, CandState.noConfusion⟩
      rw [State.tickCand_of_other hbd hother.1 hother.2] at hb
      exact hb.trans hbd

variable (hordered : s.TablesOrdered) (hphases : s.PhasesAgree) (hc : s.cand? i = some c)
include hordered hphases hc

theorem State.afterAll_of_ended (hahead : TickKey.cand i ∉ s.clock.ahead) (hstate : c.state = .writing)
    (hended : i ∈ s.clock.restEnded) : s.afterAll.cand? i = some c := by
  obtain ⟨b, hb, hbc, hbefore⟩ := (State.afterAll_old hordered hphases hc (by rw [hstate]; rfl)).2 hahead
  rw [hb, State.tickCand_of_ended hbc hstate (hbefore.ended.mpr hended), hbc]

theorem State.afterAll_of_counted (hahead : TickKey.cand i ∉ s.clock.ahead) (hstate : c.state = .writing)
    (hheld : s.held c.sitting = false) (hended : i ∉ s.clock.restEnded) (hleft : c.consumed + 1 ≠ c.entitled)
    (hx : s.sitting? c.sitting = some x) : s.afterAll.cand? i = some (Cand.fired { c with consumed := c.consumed + 1 }
      ((x.remainingCues.drop c.cuePtr).takeWhile (fun q => decide (c.entitled - (c.consumed + 1) ≤ q.value)))) := by
  obtain ⟨b, hb, hbc, hbefore⟩ := (State.afterAll_old hordered hphases hc (by rw [hstate]; rfl)).2 hahead
  obtain ⟨y, hy, hcued⟩ := some_of_map_eq (hbefore.kept c.sitting) hx
  have hcues : y.remainingCues = x.remainingCues := (congrArg Sitting.remainingCues hcued :)
  rw [hb, State.tickCand_of_writing hbc hstate ((hbefore.held _).trans hheld) (mt hbefore.ended.mp hended),
    State.consume_cand?_of_left hbc hleft, State.cuesDue_eq hy, hcues]

theorem State.afterAll_of_expired (hahead : TickKey.cand i ∉ s.clock.ahead) (hstate : c.state = .writing)
    (hheld : s.held c.sitting = false) (hended : i ∉ s.clock.restEnded) (hlast : c.consumed + 1 = c.entitled) :
    ∃ d, s.afterAll.cand? i = some d ∧ d.consumed = c.entitled ∧ d.cause = some .time
      ∧ d.state = (if s.waits i then .finished else .collected) ∧ d.seat = if s.waits i then c.seat else none := by
  obtain ⟨b, hb, hbc, hbefore⟩ := (State.afterAll_old hordered hphases hc (by rw [hstate]; rfl)).2 hahead
  have hwaits : (b.mapCand i (fun d => { d with consumed := c.entitled })).waits i = s.waits i := congrArg
    (fun l : List Custody => l.any (fun e => decide (e.cand = some i) && decide (e.state = .issued))) hbefore.custody
  rw [hb, State.tickCand_of_writing hbc hstate ((hbefore.held _).trans hheld) (mt hbefore.ended.mp hended),
    State.consume_of_expired hlast, ← hwaits]
  exact State.finishCand_cand? (State.mapCand_cand?_self hbc (fun d => { d with consumed := c.entitled })) .time

theorem State.afterAll_of_resting (hahead : TickKey.cand i ∉ s.clock.ahead) (hstate : c.state = .resting)
    (hheld : s.held c.sitting = false) : s.afterAll.cand? i =
      some (if c.restUsed + 1 = c.restBudget then { c with restUsed := c.restBudget, state := .writing }
        else { c with restUsed := c.restUsed + 1 }) := by
  obtain ⟨b, hb, hbc, hbefore⟩ := (State.afterAll_old hordered hphases hc (by rw [hstate]; rfl)).2 hahead
  rw [hb, State.tickCand_of_resting hbc hstate ((hbefore.held _).trans hheld), State.restSecond_cand? hbc]

theorem State.afterAll_of_held (hstate : c.state = .writing ∨ c.state = .resting) (hheld : s.held c.sitting = true) :
    s.afterAll.cand? i = some c := by
  have hold : c.state.young = false := by obtain h | h := hstate <;> rw [h] <;> rfl
  obtain ⟨htaken, hticks⟩ := State.afterAll_old hordered hphases hc hold
  by_cases hahead : TickKey.cand i ∈ s.clock.ahead
  · exact htaken hahead
  · obtain ⟨b, hb, hbc, hbefore⟩ := hticks hahead
    rw [hb, State.tickCand_of_held hbc ((hbefore.held _).trans hheld), hbc]

theorem State.afterAll_of_done (hold : c.state.young = false) (hw : c.state ≠ .writing) (hr : c.state ≠ .resting) :
    s.afterAll.cand? i = some c := by
  obtain ⟨htaken, hticks⟩ := State.afterAll_old hordered hphases hc hold
  by_cases hahead : TickKey.cand i ∈ s.clock.ahead
  · exact htaken hahead
  · obtain ⟨b, hb, hbc, -⟩ := hticks hahead
    rw [hb, State.tickCand_of_other hbc hw hr, hbc]

theorem State.afterAll_of_begins (hstate : c.state = .admitted) (hends : s.ReadingEnds c.sitting)
    (hahead : TickKey.sitting c.sitting ∉ s.clock.ahead) : s.afterAll.cand? i = some c.writingNow := by
  rw [State.afterAll_young hordered hphases hc (by rw [hstate]; rfl)]
  exact ((State.afterSittings_cand? hordered hc).1 hstate hends hahead).1

theorem State.afterAll_of_not_begins (hyoung : c.state.young = true)
    (hnot : ¬ (c.state = .admitted ∧ s.ReadingEnds c.sitting ∧ TickKey.sitting c.sitting ∉ s.clock.ahead)) :
    ∃ d, s.afterAll.cand? i = some d ∧ c.Shut d := by
  rw [State.afterAll_young hordered hphases hc hyoung]
  exact (State.afterSittings_cand? hordered hc).2 hnot

/-- Who leaves a seat in a second: an EXPECTED candidate, or one whose writing time ends in it. -/
theorem State.afterAll_seat (hstay : c.state ≠ .expected ∧ ¬ (c.state = .writing ∧ c.consumed + 1 = c.entitled)) :
    ∃ d, s.afterAll.cand? i = some d ∧ d.seat = c.seat := by
  obtain ⟨hexpected, hlast⟩ := hstay
  by_cases hadmitted : c.state = .admitted
  · by_cases hends : s.ReadingEnds c.sitting ∧ TickKey.sitting c.sitting ∉ s.clock.ahead
    · exact ⟨_, State.afterAll_of_begins hordered hphases hc hadmitted hends.1 hends.2, rfl⟩
    · obtain ⟨d, hd, rfl | ⟨h, -⟩⟩ := State.afterAll_of_not_begins hordered hphases hc (by rw [hadmitted]; rfl)
        (fun h => hends h.2)
      · exact ⟨d, hd, rfl⟩
      · exact absurd h hexpected
  · have hold : c.state.young = false := by
      cases h : c.state with
      | expected => exact absurd h hexpected
      | admitted => exact absurd h hadmitted
      | _ => rfl
    obtain ⟨htaken, hticks⟩ := State.afterAll_old hordered hphases hc hold
    by_cases hahead : TickKey.cand i ∈ s.clock.ahead
    · exact ⟨c, htaken hahead, rfl⟩
    · obtain ⟨b, hb, hbc, -⟩ := hticks hahead
      rw [hb]
      by_cases hw : c.state = .writing
      · cases hheld : b.held c.sitting with
        | true => exact ⟨c, by rw [State.tickCand_of_held hbc hheld, hbc], rfl⟩
        | false =>
          by_cases hended : i ∈ b.clock.restEnded
          · exact ⟨c, by rw [State.tickCand_of_ended hbc hw hended, hbc], rfl⟩
          · rw [State.tickCand_of_writing hbc hw hheld hended, State.consume_cand?_of_left hbc (fun h => hlast ⟨hw, h⟩)]
            exact ⟨_, rfl, rfl⟩
      · by_cases hr : c.state = .resting
        · cases hheld : b.held c.sitting with
          | true => exact ⟨c, by rw [State.tickCand_of_held hbc hheld, hbc], rfl⟩
          | false =>
            rw [State.tickCand_of_resting hbc hr hheld, State.restSecond_cand? hbc]
            refine ⟨_, rfl, ?_⟩
            split <;> rfl
        · exact ⟨c, by rw [State.tickCand_of_other hbc hw hr, hbc], rfl⟩

end Cands

end Sys2Proof.Machine
end

section
/-! SUPPORT. The seats' part of the second (R55), and the hall second (R1). -/

namespace Sys2Proof.Machine

/-! ## The seats' part -/

section Seats
variable {s : State} {n : Nat} {x : Seat}

/-- A seat's record with its quiet time counted (R55). -/
def Seat.counted (x : Seat) : Seat := if x.occupant.isSome ∧ x.quiet < 8 then { x with quiet := x.quiet + 1 } else x

theorem State.second_seat_of_not_ahead (h : TickKey.seat n ∉ s.clock.ahead) :
    s.second (.seat n) = (s.markAhead (.seat n)).mapSeat n Seat.counted := State.second_of_not_ahead h

/-- The seats of a list take their part of the second. -/
def State.seatsSecond (s : State) (l : List Nat) : State := l.foldl (fun u n => u.second (.seat n)) s

/-- The seats' part changes no other record. -/
theorem State.seatsSecond_rest (l : List Nat) : ∀ s : State, ∃ seats ahead, s.seatsSecond l =
    { s with hall := { s.hall with seats := seats }, clock := { s.clock with ahead := ahead } } := by
  induction l with
  | nil => exact fun s => ⟨s.hall.seats, s.clock.ahead, rfl⟩
  | cons n l ih =>
    intro s
    by_cases h : TickKey.seat n ∈ s.clock.ahead
    · obtain ⟨seats, ahead, heq⟩ := ih s
      refine ⟨seats, ahead, ?_⟩
      rw [← heq, State.seatsSecond, List.foldl_cons, State.second_of_ahead h]
      rfl
    · obtain ⟨seats, ahead, heq⟩ := ih ((s.markAhead (.seat n)).mapSeat n Seat.counted)
      refine ⟨seats, ahead, ?_⟩
      rw [State.seatsSecond, List.foldl_cons, State.second_seat_of_not_ahead h]
      exact heq

theorem Seat.counted_seat (x : Seat) : x.counted.seat = x.seat := by
  unfold Seat.counted; split <;> rfl

/-- A seat takes its part once, unless it has taken it. -/
theorem State.seatsSecond_seat? (l : List Nat) : ∀ s : State, l.Nodup → ∀ n x, s.seat? n = some x →
    (s.seatsSecond l).seat? n = some (if n ∈ l ∧ TickKey.seat n ∉ s.clock.ahead then x.counted else x) := by
  induction l with
  | nil => exact fun s _ n x hx => by rw [if_neg (fun h => List.not_mem_nil h.1)]; exact hx
  | cons m l ih =>
    intro s hnodup n x hx
    obtain ⟨hm, hnodup⟩ := List.nodup_cons.mp hnodup
    by_cases h : TickKey.seat m ∈ s.clock.ahead
    · have hstep : s.seatsSecond (m :: l) = s.seatsSecond l := by
        rw [State.seatsSecond, List.foldl_cons, State.second_of_ahead h]
        rfl
      rw [hstep, ih s hnodup n x hx]
      by_cases hn : n = m
      · subst hn
        simp [h]
      · simp [hn]
    · have hstep : s.seatsSecond (m :: l) = ((s.markAhead (.seat m)).mapSeat m Seat.counted).seatsSecond l := by
        rw [State.seatsSecond, List.foldl_cons, State.second_seat_of_not_ahead h]
        rfl
      have hseat : ((s.markAhead (.seat m)).mapSeat m Seat.counted).seat? n = some (if m = n then x.counted else x) := by
        rw [State.mapSeat_seat? _ m n _ Seat.counted_seat]
        have hx' : (s.markAhead (.seat m)).seat? n = some x := hx
        rw [hx']
        split <;> rfl
      have hahead : ((s.markAhead (.seat m)).mapSeat m Seat.counted).clock.ahead = s.clock.ahead ++ [TickKey.seat m] := rfl
      rw [hstep, ih _ hnodup n _ hseat, hahead]
      by_cases hn : n = m
      · subst hn
        simp [h, hm]
      · simp [hn, Ne.symm hn]

end Seats

/-! ## The hall second -/

section Hall
variable {s : State} {n : Nat}

/-- Hall time one second on (R1). -/
def State.timed (s : State) : State := { s with hall := { s.hall with time := nextTime s.hall.time } }

/-- The state in which every record has taken the second. -/
def State.afterSeats (s : State) : State := s.afterAll.seatsSecond (s.afterAll.hall.seats.map (fun x => x.seat))

theorem exec_hallSecond_eq (s : State) : exec .hallSecond s = .next
    { s.timed.afterSeats with clock := { s.timed.afterSeats.clock with ahead := [], restEnded := [] } } := rfl

theorem State.early_cases (s : State) (k : TickKey) (due : Bool) : s.early k due = s ∨ s.early k due = s.second k := by
  cases due
  · exact .inl rfl
  · exact .inr rfl

/-- What a named event of the second answers. -/
theorem State.next_early_cases (s : State) (k : TickKey) (due : Bool) :
    (Host.Outcome.next (s.early k due) : Host.Outcome State Fault Refusal) = .next s
      ∨ (Host.Outcome.next (s.early k due) : Host.Outcome State Fault Refusal) = .next (s.second k) :=
  (s.early_cases k due).imp (congrArg Host.Outcome.next) (congrArg Host.Outcome.next)

/-- The candidates' part of the second, whatever the tables hold. -/
theorem State.afterCands_all (s : State) : Frame Sitting.plain (fun _ => True) (fun _ => True) s s.afterCands :=
  Frame.foldl _ s fun u _ _ _ => u.second_cand_frame trivial (fun _ _ => trivial)

/-- The records of the table take the second, each as it is found where the second began. -/
theorem State.afterSeats_eq (s : State) : s.afterSeats =
    s.hall.seats.foldl (fun u x => u.second (.seat x.seat))
      ((List.range s.hall.cands.length).foldl (fun u i => u.second (.cand i))
        (s.hall.sittings.foldl (fun u x => u.second (.sitting x.number)) s)) := by
  have hsittings : s.hall.sittings.foldl (fun u x => u.second (.sitting x.number)) s = s.afterSittings :=
    (List.foldl_map (g := fun u n => State.second u (.sitting n))).symm
  have hcands : (List.range s.hall.cands.length).foldl (fun u i => u.second (.cand i)) s.afterSittings = s.afterAll := by
    rw [← s.afterSittings_frame.length]
    rfl
  have hnumbers : s.afterAll.hall.seats.map (fun x => x.seat) = s.hall.seats.map (fun x => x.seat) :=
    (State.afterCands_all _).numbers.trans s.afterSittings_frame.numbers
  rw [hsittings, hcands, State.afterSeats, hnumbers]
  exact List.foldl_map

theorem Cand.Shut.of_admitted {c d : Cand} (h : c.Shut d) (hstate : c.state = .admitted) : d = c :=
  h.elim id (fun h => absurd (hstate.symm.trans h.1) CandState.noConfusion)

/-- A seat after the second: it loses its occupant only where its candidate has left it, and then its quiet time
counts (R30, R55). -/
theorem State.afterSeats_seat? (hordered : s.TablesOrdered) (hphases : s.PhasesAgree) {x : Seat} (hx : s.seat? n = some x) :
    ∃ y, s.afterSeats.seat? n = some y ∧ (y.occupant = x.occupant ∨ y.occupant = none)
      ∧ ((∀ c ∈ s.hall.cands, c.seat = some n → c.state ≠ .expected
          ∧ ¬ (c.state = .writing ∧ c.consumed + 1 = c.entitled)) → y.occupant = x.occupant)
      ∧ y.quiet = (if y.occupant.isSome = true ∧ x.quiet < 8 ∧ TickKey.seat n ∉ s.clock.ahead then x.quiet + 1 else x.quiet)
      ∧ y.miss = x.miss ∧ y.service = x.service ∧ y.faultMark = x.faultMark := by
  have hframe := State.afterAll_frame hordered hphases
  obtain ⟨z, hz, hunit⟩ := some_of_map_eq (hframe.units n) hx
  obtain ⟨hquiet, hmiss, hservice, hfault⟩ : z.quiet = x.quiet ∧ z.miss = x.miss ∧ z.service = x.service
      ∧ z.faultMark = x.faultMark := by
    simp only [Seat.unit, Prod.mk.injEq] at hunit
    exact hunit
  have hnodup : (s.afterAll.hall.seats.map (fun x => x.seat)).Nodup := by
    rw [hframe.numbers]
    exact List.pairwise_map.mpr (hordered.seats.imp fun hlt => Nat.ne_of_lt hlt)
  have hmem : n ∈ s.afterAll.hall.seats.map (fun x => x.seat) := by
    rw [← State.seat_of_seat? hz]
    exact List.mem_map_of_mem (List.mem_of_find?_eq_some hz)
  have hahead : TickKey.seat n ∈ s.afterAll.clock.ahead ↔ TickKey.seat n ∈ s.clock.ahead := by
    refine ⟨fun hin => ?_, hframe.ahead_old _⟩
    obtain h | ⟨m, -, heq⟩ | ⟨j, -, heq⟩ := hframe.ahead_new _ hin
    · exact h
    · cases heq
    · cases heq
  have hleft := hframe.left n x z hx hz
  have hstays : (∀ c ∈ s.hall.cands, c.seat = some n → c.state ≠ .expected
      ∧ ¬ (c.state = .writing ∧ c.consumed + 1 = c.entitled)) → z.occupant = x.occupant := fun hall =>
    hleft.resolve_right fun ⟨_, j, c, d, hc, hseat, hd, hnone⟩ => by
      obtain ⟨e, he, heq⟩ := State.afterAll_seat hordered hphases hc (hall c (List.mem_of_getElem? hc) hseat)
      obtain rfl := Option.some.inj (hd.symm.trans he)
      rw [heq, hseat] at hnone
      cases hnone
  have hend := State.seatsSecond_seat? _ s.afterAll hnodup n z hz
  simp only [hmem, true_and, hahead] at hend
  refine ⟨_, hend, ?_⟩
  by_cases h : TickKey.seat n ∈ s.clock.ahead
  · simp only [h, not_true_eq_false, if_false, and_false]
    exact ⟨hleft.imp id And.left, hstays, hquiet, hmiss, hservice, hfault⟩
  · simp only [h, not_false_eq_true, if_true, and_true, Seat.counted, hquiet]
    split
    · exact ⟨hleft.imp id And.left, hstays, by simp_all, hmiss, hservice, hfault⟩
    · exact ⟨hleft.imp id And.left, hstays, by simp_all, hmiss, hservice, hfault⟩

/-- A sitting after the second, where it had not yet taken it. -/
theorem State.afterAll_sitting? (hordered : s.TablesOrdered) (hphases : s.PhasesAgree) {x : Sitting}
    (hx : s.sitting? n = some x) (hahead : TickKey.sitting n ∉ s.clock.ahead) :
    ∃ y, s.afterAll.sitting? n = some y ∧ Sitting.SecondTaken (s.held n) x y := by
  obtain ⟨y, hy, htaken⟩ := State.afterSittings_sitting? hordered hx hahead
  have hframe := State.afterCands_frame (State.afterSittings_active hordered hphases)
  obtain ⟨z, hz, hplain⟩ := hframe.sitting hy
  refine ⟨z, hz, htaken.of_plain hplain fun hreading => ?_⟩
  have hout : ¬ s.WritingNow n := fun ⟨w, hw, hwriting⟩ => by
    obtain rfl := Option.some.inj (hx.symm.trans hw)
    rw [hreading] at hwriting
    cases hwriting
  exact Option.some.inj (hz.symm.trans ((hframe.sittings n hout).trans hy))

end Hall

/-- Settles O26: the second at every record, its order, and the named events that take a record's part of it. -/
theorem hallSecondPasses : Obligations.HallSecondPasses := by
  unfold Obligations.HallSecondPasses
  refine ⟨fun s hordered hphases => ?_, fun s => ?_, fun s k => ⟨?_, ?_, ?_⟩⟩
  · obtain ⟨seats, ahead, hseats⟩ := State.seatsSecond_rest (s.timed.afterAll.hall.seats.map (fun x => x.seat)) s.timed.afterAll
    have hordered' : s.timed.TablesOrdered := ⟨hordered.seats, hordered.sittings, hordered.numbers⟩
    have hphases' : s.timed.PhasesAgree := ⟨hphases.writing⟩
    have hframe := State.afterAll_frame hordered' hphases'
    have hrest : s.timed.afterSeats = { s.timed.afterAll with
        hall := { s.timed.afterAll.hall with seats := seats }, clock := { s.timed.afterAll.clock with ahead := ahead } } := hseats
    have hcands : ∀ i, s.timed.afterSeats.cand? i = s.timed.afterAll.cand? i := fun i => by rw [hrest]; rfl
    have hsittings : ∀ n, s.timed.afterSeats.sitting? n = s.timed.afterAll.sitting? n := fun n => by rw [hrest]; rfl
    refine ⟨_, exec_hallSecond_eq s, ?_, rfl, rfl, ?_, ?_, fun x hx hahead => ?_, fun i c hc hahead => ?_, fun n x hx =>
      State.afterSeats_seat? hordered' hphases' hx⟩
    · rw [hrest]
      exact hframe.time
    · rw [hrest]
      exact hframe.hallPause
    · rw [hrest]
      exact hframe.session
    · obtain ⟨y, hy, htaken⟩ := State.afterAll_sitting? hordered' hphases' (hordered'.sitting?_of_mem hx) hahead
      exact ⟨y, (hsittings _).trans hy, htaken.reading, htaken.writing, htaken.paused⟩
    · obtain ⟨d, hd, -⟩ := hframe.cand (s := s.timed) hc
      have heq : ∀ e, s.timed.afterAll.cand? i = some e → d = e := fun e he => Option.some.inj (hd.symm.trans he)
      refine ⟨d, (hcands i).trans hd, fun hstate hended => ?_, fun x hstate hheld hended hleft hx => ?_,
        fun hstate hheld hended hlast => ?_, fun hstate hheld hleft => ?_, fun hstate hheld hlast => ?_,
        fun x hstate hx hreading hheld hlast hsitting => ?_, fun hstate hall => ?_, fun hstate => ?_, fun hstate hheld => ?_,
        fun hstate => ?_⟩
      · exact heq c (State.afterAll_of_ended hordered' hphases' hc hahead hstate hended)
      · exact heq _ (State.afterAll_of_counted hordered' hphases' hc hahead hstate hheld hended hleft hx)
      · obtain ⟨e, he, hexpired⟩ := State.afterAll_of_expired hordered' hphases' hc hahead hstate hheld hended hlast
        obtain rfl := heq e he
        exact hexpired
      · exact heq _ ((State.afterAll_of_resting hordered' hphases' hc hahead hstate hheld).trans (by rw [if_neg hleft]))
      · exact heq _ ((State.afterAll_of_resting hordered' hphases' hc hahead hstate hheld).trans (by rw [if_pos hlast]))
      · exact heq _ (State.afterAll_of_begins hordered' hphases' hc hstate ⟨x, hx, hreading, hheld, hlast⟩ hsitting)
      · obtain ⟨e, he, hshut⟩ := State.afterAll_of_not_begins hordered' hphases' hc (by rw [hstate]; rfl)
          fun ⟨_, ⟨x, hx, hreading, hheld, hlast⟩, hsitting⟩ => by
            obtain h | h | h | h := hall x hx
            · exact h hreading
            · exact Bool.false_ne_true (hheld.symm.trans h)
            · exact h hlast
            · exact hsitting h
        exact (heq e he).trans (hshut.of_admitted hstate)
      · obtain ⟨e, he, hshut⟩ := State.afterAll_of_not_begins hordered' hphases' hc (by rw [hstate]; rfl)
          fun h => absurd (hstate.symm.trans h.1) CandState.noConfusion
        obtain rfl := heq e he
        exact hshut.imp id And.right
      · exact heq c (State.afterAll_of_held hordered' hphases' hc hstate hheld)
      · obtain ⟨hold, hw, hr⟩ : c.state.young = false ∧ c.state ≠ .writing ∧ c.state ≠ .resting := by
          obtain h | h | h | h := hstate <;> rw [h] <;> exact ⟨rfl, CandState.noConfusion, CandState.noConfusion⟩
        exact heq c (State.afterAll_of_done hordered' hphases' hc hold hw hr)
  · rw [exec_hallSecond_eq, State.afterSeats_eq]
    rfl
  · simp only [List.forall_mem_cons, List.not_mem_nil]
    exact ⟨s.next_early_cases _ _, s.next_early_cases _ _, s.next_early_cases _ _, s.next_early_cases _ _, fun _ h => absurd h id⟩
  · simp only [List.forall_mem_cons, List.not_mem_nil]
    exact ⟨s.next_early_cases _ _, s.next_early_cases _ _, s.next_early_cases _ _, fun _ h => absurd h id⟩
  · exact s.next_early_cases _ _

end Sys2Proof.Machine
end
